-- ==== Sys2Proof/Word.lean ====
section
/-! DEFINITION. The word types of the Trelmo 412: bytes, register words, byte addresses, sequences. -/

namespace Sys2Proof

/-- One byte. -/
abbrev Byte := BitVec 8

/-- A management register word (00, 0.5). -/
abbrev Word := BitVec 32

/-- A 40-bit byte address on a link port (00, 0.5). -/
abbrev Addr := BitVec 40

/-- A mark's sequence, or a stamp: 0, or 1 to 4,294,967,295 (R18, R24). -/
abbrev Seq := BitVec 32

end Sys2Proof
end

