-- ==== Sys2Proof/Config.lean ====
section
/-! DEFINITION. What this part fixes: table sizes, page geometry, identification (00, R107, R126, R132, R179). -/

namespace Sys2Proof.Config

/-- Windows (00, 0.3). -/
def windows : Nat := 8

/-- Mark slots (R18). -/
def slots : Nat := 5

/-- Marks that may be LIVE at once (R19). -/
def liveMarks : Nat := 4

/-- Records, and so frames, the part has (R41). -/
def records : Nat := 16384

/-- Entries of the page state table (01, 1.3). -/
def pstEntries : Nat := 65536

/-- Transaction entries, one per upstream tag (R107). -/
def entries : Nat := 128

/-- Downstream tags (R132). -/
def tags : Nat := 144

/-- Copy channels (R126). -/
def channels : Nat := 4

/-- Jobs the preservation queue holds (R63). -/
def preserveJobs : Nat := 128

/-- Pages the demand queue holds (R96). -/
def demandPages : Nat := 128

/-- Page numbers the restore fault list holds (R100). -/
def faultPages : Nat := 16

/-- Bytes of a page (00, 0.4). -/
def pageBytes : Nat := 4096

/-- Bytes of a line (00, 0.4). -/
def lineBytes : Nat := 64

/-- Chunks of a page copy, and bytes of a chunk (R127). -/
def chunks : Nat := 16
def chunkBytes : Nat := 256

/-- One past the last page number (R145). -/
def pageLimit : Nat := 268435456

/-- The identification and capability words (R179; 11.3, 0x00 and 0x01). -/
def identification : Word := 0x04127A01#32
def capability : Word := 0x0010E448#32

end Sys2Proof.Config
end

