-- ==== Sys2Proof/Syntax.lean ====
section
/-! DEFINITION. The commands of the block: one constructor per row of spec/opcode_table.json. -/

namespace Sys2Proof

/-- The two link ports (00, 0.2). -/
inductive LinkPort where
  | request
  | memory
  deriving DecidableEq, Repr

/-- The commands. Each is one row of the table, whole and indivisible (95). -/
inductive Instr where
  /-- POWER_ON_RESET (R143). -/
  | powerOnReset
  /-- RST_N (R143). -/
  | rstN
  /-- REQUEST_PORT_LINK_DOWN (R121). -/
  | requestPortLinkDown
  /-- REQUEST_PORT_LINK_UP (R123). -/
  | requestPortLinkUp
  /-- MEMORY_PORT_LINK_DOWN (R139). The operand is how many failures of copy jobs are taken before the entry to
  DEGRADED: R73 and R150 allow every such order (log 5). 0 takes the entry first. -/
  | memoryPortLinkDown (failuresFirst : Nat)
  /-- MEMORY_PORT_LINK_UP (R140). -/
  | memoryPortLinkUp
  /-- READ (R110): header fields, and the payload a READ should not carry (R180). -/
  | read (tag : Byte) (len : BitVec 2) (addr : Addr) (payload : List Byte)
  /-- WRITE (R110): header fields, one mask per line and 64 data bytes per line as received (R180). -/
  | write (tag : Byte) (len : BitVec 2) (addr : Addr) (masks : List (BitVec 64)) (data : List Byte)
  /-- MISDIRECTED_UPSTREAM_MESSAGE (R105): type 3 COMPLETION or 4 CREDIT, received on the request port. -/
  | misdirectedUpstreamMessage (type : BitVec 4)
  /-- UNKNOWN_TYPE_MESSAGE (R180): type 0 or 5 to 15, received on either port. -/
  | unknownTypeMessage (port : LinkPort) (type : BitVec 4)
  /-- COMPLETION (R134), received on the memory port. -/
  | completion (tag : Byte) (status : BitVec 4) (reason : BitVec 4) (data : List Byte)
  /-- CREDIT (R140), received on the memory port. -/
  | credit (count : BitVec 16)
  /-- MISDIRECTED_DOWNSTREAM_MESSAGE (R134): type 1 READ or 2 WRITE, received on the memory port. -/
  | misdirectedDownstreamMessage (type : BitVec 4)
  /-- SEND_REQUEST (R133). -/
  | sendRequest
  /-- SAMPLING_TICK (R155). -/
  | samplingTick
  /-- INTERVAL_END (R159). -/
  | intervalEnd
  /-- HOLD_TIMEOUT (R118) of a transaction entry. -/
  | holdTimeout (entry : Nat)
  /-- RESPONSE_TIMEOUT (R136) of a downstream tag. -/
  | responseTimeout (tag : Nat)
  /-- DISCARD_WALK_STEP (R81). -/
  | discardWalkStep
  /-- COMMIT_WALK_STEP (R85). -/
  | commitWalkStep
  /-- RESTORE_PHASE_START (R91). -/
  | restorePhaseStart
  /-- RESTORE_WALK_STEP (R92). -/
  | restoreWalkStep
  /-- RESTORE_PHASE_END (R101). -/
  | restorePhaseEnd
  /-- MERGE_WALK_STEP (R102). -/
  | mergeWalkStep
  /-- CONFIG_ENTER (R147), COMMAND code 1. -/
  | configEnter
  /-- CONFIG_EXIT (R145), COMMAND code 2. -/
  | configExit
  /-- MARK (R31), COMMAND code 3. -/
  | mark
  /-- DISCARD (R35), COMMAND code 4. -/
  | discard
  /-- COMMIT (R37), COMMAND code 5. -/
  | commit
  /-- ROLLBACK (R36), COMMAND code 6. -/
  | rollback
  /-- QUIESCE (R120), COMMAND code 7. -/
  | quiesce
  /-- RESUME (R120), COMMAND code 8. -/
  | resume
  /-- DEGRADE (R149), COMMAND code 9. -/
  | degrade
  /-- RECOVER (R152), COMMAND code 10. -/
  | recover
  /-- CLEAR_COUNTS (R161), COMMAND code 11. -/
  | clearCounts
  /-- FAULT_POP (R178), COMMAND code 12. -/
  | faultPop
  /-- BAD_OPCODE (R172): a COMMAND write whose code names no command. -/
  | badOpcode (code : Byte)
  /-- EVENT_FLAG_WRITE (R174), index 0x2C. -/
  | eventFlagWrite (data : Word)
  /-- FIRST_ERROR_CLEAR (R177), index 0x30; the data is not used (R171). -/
  | firstErrorClear (data : Word)
  /-- ALERT_MASK_WRITE (R175), index 0x2D. -/
  | alertMaskWrite (data : Word)
  /-- RUN (R157): a sampler control write, index 0x98, with run 1. The word is the whole write (R158). -/
  | run (data : Word)
  /-- STOP (R157): a sampler control write with run 0. -/
  | stop (data : Word)
  /-- RESTART (R158): a sampler control write with restart 1. -/
  | restart (data : Word)
  /-- TICK_SELECT_WRITE (R155): a sampler control write that changes tick select. -/
  | tickSelectWrite (data : Word)
  /-- AUTO_ENABLE_WRITE (R162): a scheduler control write, index 0x9C, that changes auto enable. -/
  | autoEnableWrite (data : Word)
  /-- ROLL_RETENTION_WRITE (R165): a scheduler control write that changes roll retention. -/
  | rollRetentionWrite (data : Word)
  /-- REGISTER_WRITE (R171): a write to any other register word. -/
  | registerWrite (index : Byte) (data : Word)
  deriving DecidableEq, Repr

end Sys2Proof
end

