-- ==== Sys2Proof/WellFormed.lean ====
section
/-! DEFINITION. Which commands are well formed: an operand is one its row's event can carry. -/

namespace Sys2Proof

/-- The register words that have a row of their own whatever is written to them (R171): event flags, alert mask,
first-error clear and COMMAND. The sampler and scheduler control words stay with REGISTER_WRITE too, since a write of
one may change none of the fields that have a row. -/
def ownRowIndices : List Byte := [0x2C#8, 0x2D#8, 0x30#8, 0x31#8]

/-- A command is well formed: the message type is one of its row's (R105, R134, R180), the entry or tag exists (R107,
R132), the code names no command (R172), the index has no row of its own (R171), and a sampler control write has the
field its row names (R157, R158). Whether a write CHANGES tick select, auto enable or roll retention depends on the
state, so no word is ill formed there. -/
def Instr.wf : Instr → Bool
  | .misdirectedUpstreamMessage t => t == 3#4 || t == 4#4
  | .unknownTypeMessage _ t => t == 0#4 || decide (5 ≤ t.toNat)
  | .misdirectedDownstreamMessage t => t == 1#4 || t == 2#4
  | .holdTimeout n => decide (n < Config.entries)
  | .responseTimeout t => decide (t < Config.tags)
  | .badOpcode c => c == 0#8 || decide (13 ≤ c.toNat)
  | .run d => d.getLsbD 0
  | .stop d => !d.getLsbD 0
  | .restart d => d.getLsbD 1
  | .registerWrite i _ => !ownRowIndices.contains i
  | .powerOnReset | .rstN | .requestPortLinkDown | .requestPortLinkUp | .memoryPortLinkDown _
  | .memoryPortLinkUp | .read .. | .write .. | .completion .. | .credit _ | .sendRequest | .samplingTick
  | .intervalEnd | .discardWalkStep | .commitWalkStep | .restorePhaseStart | .restoreWalkStep
  | .restorePhaseEnd | .mergeWalkStep | .configEnter | .configExit | .mark | .discard | .commit | .rollback
  | .quiesce | .resume | .degrade | .recover | .clearCounts | .faultPop | .eventFlagWrite _
  | .firstErrorClear _ | .alertMaskWrite _ | .tickSelectWrite _ | .autoEnableWrite _
  | .rollRetentionWrite _ => true

end Sys2Proof
end

