-- ==== Sys2Proof/Decode.lean ====
section
/-! DEFINITION. The command that a table word spells. No row of spec/opcode_table.json has bits, so no word spells one;
what a register write, an SPI frame or a link message spells stands in Machine/Registers.lean and
Machine/Link.lean. -/

namespace Sys2Proof

/-- The command a word of the table spells: none, since the table gives no row any bits (log 1). -/
def decodeTableWord (_nbits _w : Nat) : Option Instr := none

end Sys2Proof
end

