-- ==== Sys2Proof/Machine/Table.lean ====
section
/-! DEFINITION. Sparse tables in one canonical form: the pages, records, entries, tags and slots (log 25). -/

namespace Sys2Proof.Machine

/-- A table as its cells, keys strictly rising and no cell equal to the default (`Table.canonical`). An unlisted key reads as
the default the reader names. -/
structure Table (α : Type) where
  cells : List (Nat × α)
  deriving DecidableEq, Repr

namespace Table

variable {α : Type}

/-- The table with nothing listed. -/
def empty : Table α := ⟨[]⟩

/-- Look a key up in the cells. -/
def lookup (d : α) : List (Nat × α) → Nat → α
  | [], _ => d
  | (k, v) :: t, i => if i = k then v else lookup d t i

/-- The value at key `i`; `d` where nothing is listed. -/
def get (t : Table α) (d : α) (i : Nat) : α := lookup d t.cells i

/-- Put a cell at its place in rising order of keys. -/
def insertCell (i : Nat) (v : α) : List (Nat × α) → List (Nat × α)
  | [] => [(i, v)]
  | (k, w) :: t =>
    if i < k then (i, v) :: (k, w) :: t else if i = k then (i, v) :: t else (k, w) :: insertCell i v t

/-- Take the cell of a key out. -/
def eraseCell (i : Nat) (l : List (Nat × α)) : List (Nat × α) := l.filter (fun c => c.1 != i)

/-- Set key `i` to `v`. Setting the default removes the cell, which keeps the form canonical. -/
def set [DecidableEq α] (t : Table α) (d : α) (i : Nat) (v : α) : Table α :=
  if v = d then ⟨eraseCell i t.cells⟩ else ⟨insertCell i v t.cells⟩

/-- Apply `f` to every listed cell, dropping those that become the default. -/
def mapCells [DecidableEq α] (t : Table α) (d : α) (f : Nat → α → α) : Table α :=
  ⟨t.cells.filterMap (fun c => if f c.1 c.2 = d then none else some (c.1, f c.1 c.2))⟩

/-- Keys strictly rising. -/
def sorted : List (Nat × α) → Bool
  | [] => true
  | [_] => true
  | (k, _) :: (j, w) :: t => decide (k < j) && sorted ((j, w) :: t)

/-- The canonical form: keys strictly rising, and no cell that holds the default. -/
def canonical [DecidableEq α] (t : Table α) (d : α) : Bool :=
  sorted t.cells && t.cells.all (fun c => decide (c.2 ≠ d))

end Table

end Sys2Proof.Machine
end

