-- ==== Sys2Proof/Machine/State.lean ====
section
/-! DEFINITION. The state of the Trelmo 412 as plain data, and its value after reset. One structure per block of
00, 0.3; INVENTORY.md lists every field with its rule. -/

namespace Sys2Proof.Machine

/-! ## Window table (R1) and activity counters (R75, R160) -/

/-- A window's mode (R1). -/
inductive Mode where
  | pass | guard | census | fence
  deriving DecidableEq, Repr

/-- A window entry (R1). `count` is as stored: 0 stands for 65,536. -/
structure Window where
  enable : Bool
  mode : Mode
  base : BitVec 28
  count : BitVec 16
  firstIndex : BitVec 16
  deriving DecidableEq, Repr

/-- A window entry after reset (R1). -/
def Window.reset : Window := ⟨false, .pass, 0#28, 1#16, 0#16⟩

/-- Four activity counters of 32 bits, saturating (R75). -/
structure Counts where
  reads : Word
  writes : Word
  preserves : Word
  refusals : Word
  deriving DecidableEq, Repr

/-- All four counters 0. -/
def Counts.zero : Counts := ⟨0#32, 0#32, 0#32, 0#32⟩

/-- A window's running set and last-interval set (R160). -/
structure Activity where
  running : Counts
  last : Counts
  deriving DecidableEq, Repr

/-- Both sets 0 (R160). -/
def Activity.zero : Activity := ⟨.zero, .zero⟩

/-! ## Page state table (01, 1.3 to 1.5) -/

/-- A PST entry's storage. A GUARD entry uses the first four fields (01, 1.4), a CENSUS entry the touch stamp
(01, 1.5); which kind an index is follows from the windows and `State.pstAssigned` (R8). `parityOk` says that the stored
parity bit agrees with the fields it covers (log 8). -/
structure PstEntry where
  chainHead : Option Nat
  waitHead : Option Nat
  waitTail : Option Nat
  parityOk : Bool
  touch : Seq
  deriving DecidableEq, Repr

/-- A PST entry after reset (R8, R17). -/
def PstEntry.clear : PstEntry := ⟨none, none, none, true, 0#32⟩

/-! ## Mark table (R18, R21) -/

/-- A mark slot's state (R18). -/
inductive SlotState where
  | free | live | retiring | unwinding
  deriving DecidableEq, Repr

/-- Who took a mark (R18). -/
inductive Origin where
  | command | auto
  deriving DecidableEq, Repr

/-- A mark slot (R18). `count` is the record count; `head` and `tail` are the journal's oldest and newest record. -/
structure Slot where
  state : SlotState
  seq : Seq
  origin : Origin
  damaged : Bool
  count : Nat
  head : Option Nat
  tail : Option Nat
  deriving DecidableEq, Repr

/-- A FREE slot (R18). -/
def Slot.freed : Slot := ⟨.free, 0#32, .command, false, 0, none, none⟩

/-! ## Record table and frame pool (R39, R41, R44, R48) -/

/-- A record's state (R42). -/
inductive RecState where
  | free | copying | valid | restoring
  deriving DecidableEq, Repr

/-- A record (R41). `parityOk` says that the stored parity bit agrees with the fields (log 8). -/
structure Record where
  state : RecState
  pageIndex : Option Nat
  pageNumber : Option Nat
  slot : Option Nat
  older : Option Nat
  jOlder : Option Nat
  jNewer : Option Nat
  suspect : Bool
  parityOk : Bool
  deriving DecidableEq, Repr

/-- A FREE record (R41). -/
def Record.freed : Record := ⟨.free, none, none, none, none, none, none, false, true⟩

/-- The frame pool (R39, R44, R48): base page, frame count as written, low-water threshold, free-frame queue and
frame-wait queue, both oldest first. -/
structure Pool where
  base : BitVec 28
  frames : BitVec 16
  lowWater : BitVec 15
  free : List Nat
  wait : List Nat
  deriving DecidableEq, Repr

/-! ## Copy jobs and the write path (R63, R68, R70, R125) -/

/-- The kind of a copy job (R125). -/
inductive JobKind where
  | preservation | restore
  deriving DecidableEq, Repr

/-- A copy job: its record, source page number and destination page number (R125). `orphaned` is the model's own: the
record has been freed meanwhile, and the job's end finds no record of its own (log 26). -/
structure Job where
  kind : JobKind
  record : Nat
  source : Nat
  dest : Nat
  orphaned : Bool
  deriving DecidableEq, Repr

/-- The exhaustion policy (R68). -/
inductive Policy where
  | refuse | break | wait
  deriving DecidableEq, Repr

/-- What the write path owns: policy (R68), break counter (R70), preservation queue and job backlog (R63). -/
structure WritePath where
  policy : Policy
  breaks : Word
  queue : List Job
  backlog : List Job
  deriving DecidableEq, Repr

/-! ## Sweep engine (R79) -/

/-- The sweep in progress (R79). -/
inductive SweepKind where
  | none | discard | commit | rollback
  deriving DecidableEq, Repr

/-- The claim that started a sweep (R79), in the order of the cause codes of 11.3. -/
inductive Cause where
  | discard | markRoll | autoRoll | pressure | commit | recover | rollback
  deriving DecidableEq, Repr

/-- The part of a sweep in progress (R79). -/
inductive Phase where
  | walk | drain | restore | merge
  deriving DecidableEq, Repr

/-- The rollback report (R103). -/
structure Report where
  target : Seq
  restored : BitVec 16
  faults : BitVec 16
  demands : BitVec 16
  released : BitVec 16
  deriving DecidableEq, Repr

/-- The sweep engine's state (R79). `order` is the walk order: slots, each with a start record. `walkSlot`, the slot whose
journal the cursor is in, and `walked`, the records met in that journal, are the model's own (log 28). -/
structure Sweep where
  kind : SweepKind
  cause : Option Cause
  phase : Phase
  retiring : Option Nat
  predecessor : Option Nat
  target : Option Nat
  force : Bool
  drop : Bool
  order : List (Nat × Option Nat)
  cursor : Option Nat
  walkSlot : Option Nat
  walked : List Nat
  waitingOn : Option Nat
  drainSet : List Nat
  park : List Nat
  boundary : Option Nat
  demand : List Nat
  offer : Option Nat
  faultList : List Nat
  faultOverflow : Bool
  faultCount : Word
  report : Report
  deriving DecidableEq, Repr

/-! ## Request port (R105 to R124) -/

/-- A transaction entry's state (R108). -/
inductive EntryState where
  | free | parked | waiting | held | frameWait | issued | quarantined | orphaned
  deriving DecidableEq, Repr

/-- A request's kind (R105). -/
inductive ReqKind where
  | read | write
  deriving DecidableEq, Repr

/-- A request's class (R3, R4). -/
inductive ReqClass where
  | passThrough | pool | pass | unwindowed | fence | census | guard
  deriving DecidableEq, Repr

/-- What a HELD write waits behind (R107). -/
inductive HeldOn where
  | record (r : Nat)
  | demand
  deriving DecidableEq, Repr

/-- A transaction entry (R107). -/
structure Entry where
  state : EntryState
  kind : ReqKind
  address : Addr
  lines : Nat
  masks : List (BitVec 64)
  data : List Byte
  cls : Option ReqClass
  window : Option Nat
  pst : Option Nat
  stamp : Seq
  next : Option Nat
  heldOn : Option HeldOn
  deadline : Option Nat
  issueAddress : Addr
  deriving DecidableEq, Repr

/-- A FREE entry: every field other than the state is none or 0 (R107; kind READ stands for none, log 21). -/
def Entry.freed : Entry :=
  ⟨.free, .read, 0#40, 0, [], [], none, none, none, 0#32, none, none, none, 0#40⟩

/-- The intake (R120). -/
inductive Intake where
  | opened | closing | closed
  deriving DecidableEq, Repr

/-- A completion's status as the part sends it (R106, 11.1). -/
inductive Status where
  | ok | dataErr | refused
  deriving DecidableEq, Repr

/-- A completion's reason, in the order of the reason codes of 11.1. -/
inductive Reason where
  | none | memoryError | memoryTimeout | linkDown | protocol | fence | pool | exhausted | preserveFailed | holdTimeout
  deriving DecidableEq, Repr

/-- A message the request port sends (R105). -/
inductive UpMessage where
  | completion (tag : Nat) (status : Status) (reason : Reason) (data : List Byte)
  | credit (count : Nat)
  deriving DecidableEq, Repr

/-- The request port beside its entries (R109, R116, R120): link, intake, credit counts, hold timeout as stored. `due`
(credits fallen due in the present step, log 14) and `sent` (what has been sent, oldest first, log 13) are the model's
own. -/
structure RequestPort where
  up : Bool
  intake : Intake
  credits : Nat
  owed : Nat
  due : Nat
  holdTimeout : BitVec 16
  sent : List UpMessage
  deriving DecidableEq, Repr

/-! ## Copy engine and memory port (R126, R132, R133, R141) -/

/-- A copy channel's state (R126). -/
inductive ChanState where
  | idle | running | stopping | blocked
  deriving DecidableEq, Repr

/-- A copy channel (R126). -/
structure Channel where
  state : ChanState
  job : Option Job
  nextChunk : Nat
  done : Nat
  deriving DecidableEq, Repr

/-- A channel after reset (R126). -/
def Channel.reset : Channel := ⟨.idle, none, 0, 0⟩

/-- What a channel tag is doing (R126). -/
inductive TagUse where
  | free | read (k : Nat) | write (k : Nat) | quarantined
  deriving DecidableEq, Repr

/-- A channel tag's use and its staging slot of 256 bytes (R126). -/
structure CopyTag where
  use : TagUse
  slot : List Byte
  deriving DecidableEq, Repr

/-- A channel tag after reset. The slot's content is not defined by R126; zeros are the model's choice (log 15). -/
def CopyTag.reset : CopyTag := ⟨.free, List.replicate 256 0#8⟩

/-- A downstream tag's state (R132). -/
inductive TagState where
  | idle | queued | outstanding | quarantined
  deriving DecidableEq, Repr

/-- A tag record (R132). Its take order is its place in `MemoryPort.takeList`. -/
structure TagRecord where
  state : TagState
  kind : ReqKind
  address : Addr
  lines : Nat
  masks : List (BitVec 64)
  data : List Byte
  retries : Nat
  deadline : Option Nat
  deriving DecidableEq, Repr

/-- An IDLE tag with no request (R132). -/
def TagRecord.idle : TagRecord := ⟨.idle, .read, 0#40, 0, [], [], 0, none⟩

/-- A request sent to the memory (R133). -/
structure DownRequest where
  tag : Nat
  kind : ReqKind
  address : Addr
  lines : Nat
  masks : List (BitVec 64)
  data : List Byte
  deriving DecidableEq, Repr

/-- The memory port beside its tags (R133, R135, R136, R141). `sent` is the model's own (log 13). -/
structure MemoryPort where
  up : Bool
  credits : Nat
  takeList : List Nat
  sendQueue : List Nat
  responseTimeout : BitVec 16
  retryLimit : BitVec 8
  retryCount : Word
  errorCount : Word
  timeoutCount : Word
  lateCount : Word
  sent : List DownRequest
  deriving DecidableEq, Repr

/-! ## State control (R143) -/

/-- The operating state (R143). -/
inductive OpState where
  | config | guarding | degraded | recovering
  deriving DecidableEq, Repr

/-- Detail codes of a failed validation, in the order of 11.3. -/
inductive Detail where
  | none | overlap | range | pstFull | poolSize
  deriving DecidableEq, Repr

/-- State control's fields (R143). The last validation is PASSED when `invalid` is false. -/
structure Control where
  state : OpState
  tableFault : Bool
  causeLink : Bool
  causeTable : Bool
  causeCommand : Bool
  spoiled : Bool
  faultDuring : Bool
  linkLost : Bool
  invalid : Bool
  detail : Detail
  subject : BitVec 12
  deriving DecidableEq, Repr

/-! ## Sampler and scheduler (R155, R156, R162) -/

/-- The sampling timer (R155, R156). `tick` is the model's own: a sampling tick has come and is not yet taken (log 4). -/
structure Sampler where
  running : Bool
  tickSelect : BitVec 2
  reload : BitVec 16
  count : BitVec 16
  prescaler : Nat
  tick : Bool
  deriving DecidableEq, Repr

/-- How the last due mark ended (R162), in the order of 11.3. -/
inductive AutoOutcome where
  | none | taken | badState | busy | seqLimit | stackFull
  deriving DecidableEq, Repr

/-- The auto-mark scheduler (R162). -/
structure Scheduler where
  enable : Bool
  roll : Bool
  period : BitVec 8
  quiet : BitVec 16
  maxDeferrals : BitVec 6
  periodCounter : BitVec 8
  deferrals : BitVec 4
  outcome : AutoOutcome
  lastSeq : Seq
  deriving DecidableEq, Repr

/-! ## Management block (10) -/

/-- First-error kinds (R176), in the order of 11.3. -/
inductive ErrKind where
  | none | protocol | refusal | timeout | copy | parity
  deriving DecidableEq, Repr

/-- The first-error record (R176). -/
structure FirstError where
  kind : ErrKind
  tag : Option Nat
  address : Option Addr
  window : Option Nat
  more : Bool
  deriving DecidableEq, Repr

/-- The empty first-error record (R177). -/
def FirstError.empty : FirstError := ⟨.none, none, none, none, false⟩

/-- Command results (R172), in the order of the result codes of 11.3. -/
inductive Result where
  | none | accepted | done | busy | badState | noSuchMark | stackFull | damaged | seqLimit | tableFault
  | configInvalid | badOpcode
  deriving DecidableEq, Repr

/-- The command result word (R172). -/
structure ResultWord where
  code : Byte
  result : Result
  detail : Detail
  subject : BitVec 12
  deriving DecidableEq, Repr

/-- FAULT_DATA (R178). -/
structure FaultData where
  valid : Bool
  page : Nat
  remaining : Nat
  overflow : Bool
  deriving DecidableEq, Repr

/-- The management block (R172 to R178): 21 event flags and enables, first-error record, COMMAND_ARG, command count
and result, FAULT_DATA. -/
structure Mgmt where
  flags : BitVec 21
  mask : BitVec 21
  firstError : FirstError
  argSeq : Seq
  argRoll : Bool
  argForce : Bool
  argDrop : Bool
  cmdCount : Word
  result : ResultWord
  faultData : FaultData
  deriving DecidableEq, Repr

/-- The SPI frame in progress (R168 to R170): chip select low or not, bytes received so far, the summary byte and the
register word captured. -/
structure Spi where
  selected : Bool
  bytes : List Byte
  summary : Byte
  word : Word
  deriving DecidableEq, Repr

/-! ## The whole state -/

/-- The state of the part, and the queue of commands that wait (log 1). -/
structure State where
  windows : Table Window
  activity : Table Activity
  pst : Table PstEntry
  pstAssigned : Nat
  slots : Table Slot
  nextSeq : Seq
  records : Table Record
  pool : Pool
  wp : WritePath
  sweep : Sweep
  entries : Table Entry
  port : RequestPort
  channels : Table Channel
  copyTags : Table CopyTag
  tags : Table TagRecord
  mem : MemoryPort
  ctl : Control
  now : Nat
  sampler : Sampler
  sched : Scheduler
  mgmt : Mgmt
  spi : Spi
  pending : List Instr
  deriving DecidableEq, Repr

/-- Reasons a step can stop with a fault: none. The spec gives every command an effect in every state (08, 8.7 for the
commands, R108 and R134 for the messages), so the type has no constructor and no step can fault. Safe: nothing is
stopped that the hardware carries on with. -/
inductive Fault where
  deriving DecidableEq, Repr

/-- Reasons a step can be refused. -/
inductive Refusal where
  /-- Raised only by an arm of `exec` whose command has no meaning yet; no arm is one. Safe: the machine stops. -/
  | notModelled (mnemonic : String)
  deriving DecidableEq, Repr

/-- The empty rollback report (R103). -/
def Report.zero : Report := ⟨0#32, 0#16, 0#16, 0#16, 0#16⟩

/-- The sweep engine after reset (R79, R100, R103). -/
def Sweep.reset : Sweep :=
  { kind := .none, cause := none, phase := .walk, retiring := none, predecessor := none, target := none,
    force := false, drop := false, order := [], cursor := none, walkSlot := none, walked := [], waitingOn := none,
    drainSet := [], park := [], boundary := none, demand := [], offer := none, faultList := [], faultOverflow := false,
    faultCount := 0#32, report := .zero }

/-- State control after reset (R143). -/
def Control.reset : Control :=
  ⟨.config, false, false, false, false, false, false, false, false, .none, 0#12⟩

/-- The management block after reset (R172, R174, R175, R177, R178). -/
def Mgmt.reset : Mgmt :=
  ⟨0#21, 0#21, .empty, 0#32, false, false, false, 0#32, ⟨0#8, .none, .none, 0#12⟩, ⟨false, 0, 0, false⟩⟩

/-- The part right after power-on reset or RST_N: each chapter's reset values, and nothing waiting. -/
def State.reset : State :=
  { windows := .empty, activity := .empty, pst := .empty, pstAssigned := 0, slots := .empty, nextSeq := 1#32,
    records := .empty, pool := ⟨0#28, 0#16, 256#15, [], []⟩, wp := ⟨.refuse, 0#32, [], []⟩, sweep := .reset,
    entries := .empty, port := ⟨false, .opened, 0, 0, 0, 1000#16, []⟩, channels := .empty, copyTags := .empty,
    tags := .empty, mem := ⟨false, 0, [], [], 200#16, 3#8, 0#32, 0#32, 0#32, 0#32, []⟩, ctl := .reset, now := 0,
    sampler := ⟨false, 2#2, 1000#16, 1000#16, 0, false⟩,
    sched := ⟨false, false, 10#8, 64#16, 3#6, 10#8, 0#4, .none, 0#32⟩,
    mgmt := .reset, spi := ⟨false, [], 0#8, 0#32⟩, pending := [] }

namespace State

/-! ## Reading and setting the tables -/

def window (s : State) (w : Nat) : Window := s.windows.get .reset w
def act (s : State) (w : Nat) : Activity := s.activity.get .zero w
def page (s : State) (p : Nat) : PstEntry := s.pst.get .clear p
def slot (s : State) (i : Nat) : Slot := s.slots.get .freed i
def record (s : State) (r : Nat) : Record := s.records.get .freed r
def entry (s : State) (n : Nat) : Entry := s.entries.get .freed n
def chan (s : State) (c : Nat) : Channel := s.channels.get .reset c
def copyTag (s : State) (t : Nat) : CopyTag := s.copyTags.get .reset t
def tag (s : State) (t : Nat) : TagRecord := s.tags.get .idle t

def setWindow (s : State) (w : Nat) (v : Window) : State := { s with windows := s.windows.set .reset w v }
def setAct (s : State) (w : Nat) (v : Activity) : State := { s with activity := s.activity.set .zero w v }
def setPage (s : State) (p : Nat) (v : PstEntry) : State := { s with pst := s.pst.set .clear p v }
def setSlot (s : State) (i : Nat) (v : Slot) : State := { s with slots := s.slots.set .freed i v }
def setRec (s : State) (r : Nat) (v : Record) : State := { s with records := s.records.set .freed r v }
def setEntry (s : State) (n : Nat) (v : Entry) : State := { s with entries := s.entries.set .freed n v }
def setChan (s : State) (c : Nat) (v : Channel) : State := { s with channels := s.channels.set .reset c v }
def setCopyTag (s : State) (t : Nat) (v : CopyTag) : State := { s with copyTags := s.copyTags.set .reset t v }
def setTag (s : State) (t : Nat) (v : TagRecord) : State := { s with tags := s.tags.set .idle t v }

/-! ## Setting the other fields -/

def setPool (s : State) (v : Pool) : State := { s with pool := v }
def setWp (s : State) (v : WritePath) : State := { s with wp := v }
def setSweep (s : State) (v : Sweep) : State := { s with sweep := v }
def setPort (s : State) (v : RequestPort) : State := { s with port := v }
def setMem (s : State) (v : MemoryPort) : State := { s with mem := v }
def setCtl (s : State) (v : Control) : State := { s with ctl := v }
def setSampler (s : State) (v : Sampler) : State := { s with sampler := v }
def setSched (s : State) (v : Scheduler) : State := { s with sched := v }
def setMgmt (s : State) (v : Mgmt) : State := { s with mgmt := v }

end State

end Sys2Proof.Machine
end

