-- ==== Sys2Proof/Machine/Operands.lean ====
section
/-! DEFINITION. Operand arithmetic: pages and addresses, lengths, timeouts, tick lengths, bit fields of register words,
window and pool geometry. -/

namespace Sys2Proof.Machine

/-! ## Pages, lines, addresses (00, 0.4) -/

/-- The page number of an address. -/
def pageOf (a : Addr) : Nat := a.toNat / Config.pageBytes

/-- The offset of an address in its page. -/
def pageOffset (a : Addr) : Nat := a.toNat % Config.pageBytes

/-- The byte address at an offset in a page. -/
def addrAt (pageNumber offset : Nat) : Addr := BitVec.ofNat 40 (pageNumber * Config.pageBytes + offset)

/-- The lines a length code gives (R105); code 3 names no length. -/
def lenLines (len : BitVec 2) : Nat := if len = 0#2 then 1 else if len = 1#2 then 2 else if len = 2#2 then 4 else 0

/-- A request is well formed when its length code names a length and its address is a multiple of its size (R110,
test 4). The payload's form is tested by the message's own rule (R180). -/
def formOk (len : BitVec 2) (a : Addr) : Bool :=
  len != 3#2 && a.toNat % (lenLines len * Config.lineBytes) == 0

/-- A WRITE's payload holds exactly one mask and 64 data bytes for each line (R180). -/
def payloadOk (len : BitVec 2) (masks : List (BitVec 64)) (data : List Byte) : Bool :=
  masks.length == lenLines len && data.length == lenLines len * Config.lineBytes

/-! ## Register values -/

/-- A count or timeout stored in 16 bits, 0 standing for 65,536 (R1, R116, R136, R181). -/
def orMax (v : BitVec 16) : Nat := if v = 0#16 then 65536 else v.toNat

/-- A sampling tick's length in microseconds (R155). -/
def tickLength (sel : BitVec 2) : Nat :=
  if sel = 0#2 then 10 else if sel = 1#2 then 100 else if sel = 2#2 then 1000 else 10000

/-- The field of `width` bits of a word that begins at bit `lo`. -/
def field (w : Word) (lo width : Nat) : Nat := w.toNat / 2 ^ lo % 2 ^ width

/-- One bit of a word. -/
def bitAt (w : Word) (i : Nat) : Bool := w.getLsbD i

/-- A Bool as a field of one bit. -/
def bitNat (b : Bool) : Nat := if b then 1 else 0

/-- Fields packed without gaps from bit 0 upward, each given as (width, value) (11). -/
def packNat : List (Nat × Nat) → Nat
  | [] => 0
  | (w, v) :: t => v % 2 ^ w + 2 ^ w * packNat t

/-- A register word of packed fields. -/
def pack (fields : List (Nat × Nat)) : Word := BitVec.ofNat 32 (packNat fields)

/-- A 32-bit counter that saturates (00, 0.5). -/
def satInc (c : Word) : Word := if c = 4294967295#32 then c else c + 1#32

/-! ## Windows and pool (R2, R3, R39, R40) -/

/-- The pages of a window: a stored count of 0 is 65,536 (R1). -/
def Window.pages (w : Window) : Nat := orMax w.count

/-- An enabled window covers the pages from base up to base plus count (R2). -/
def Window.covers (w : Window) (page : Nat) : Bool :=
  w.enable && decide (w.base.toNat ≤ page) && decide (page < w.base.toNat + w.pages)

/-- The windows by index. -/
def windowIds : List Nat := [0, 1, 2, 3, 4, 5, 6, 7]

/-- The enabled window that holds a page: outside CONFIG there is at most one (R2). -/
def State.windowOf (s : State) (page : Nat) : Option Nat := windowIds.find? (fun w => (s.window w).covers page)

/-- Whether a page lies in the shadow pool (R3). -/
def State.poolHolds (s : State) (page : Nat) : Bool :=
  decide (s.pool.base.toNat ≤ page) && decide (page < s.pool.base.toNat + s.pool.frames.toNat)

/-- The page number of frame `r` (R40). -/
def State.framePage (s : State) (r : Nat) : Nat := s.pool.base.toNat + r

/-- Whether a window takes PST indices (R8). -/
def Window.inPst (w : Window) : Bool := w.enable && (w.mode == .guard || w.mode == .census)

/-- The PST index of a page of window `w` (R9). -/
def State.pstIndex (s : State) (w page : Nat) : Nat := (s.window w).firstIndex.toNat + (page - (s.window w).base.toNat)

/-- The window whose pages hold PST index `p`, where the index is assigned (R8). -/
def State.pstWindow (s : State) (p : Nat) : Option Nat :=
  if p < s.pstAssigned then
    windowIds.find? (fun w => (s.window w).inPst && decide ((s.window w).firstIndex.toNat ≤ p) &&
      decide (p < (s.window w).firstIndex.toNat + (s.window w).pages))
  else none

/-- The page number of PST index `p` in window `w` (R9). -/
def State.pstPage (s : State) (w p : Nat) : Nat := (s.window w).base.toNat + (p - (s.window w).firstIndex.toNat)

end Sys2Proof.Machine
end

