-- ==== Sys2Proof/Machine/Flags.lean ====
section
/-! DEFINITION. Event flags, alert, first-error record and activity counters (R75, R174 to R177). -/

namespace Sys2Proof.Machine

/-- The 21 event flags, in the order of the table of R174. -/
inductive EventFlag where
  | cmdDone | sweepDone | rollbackDone | quiesced | autoMark | autoMarkMissed | pressureRetire | framesLow
  | framesEmpty | preserveFail | restoreFault | holdTimeout | memTimeout | lateResponse | protocolErr | poolAccess
  | fenceRefused | degraded | sampleEnd | linkChange | mgmtReject
  deriving DecidableEq, Repr

/-- A flag's position in the event flag word: CMD_DONE at bit 0 to MGMT_REJECT at bit 20 (11.3, 0x2C). -/
def EventFlag.bit : EventFlag → Nat
  | .cmdDone => 0 | .sweepDone => 1 | .rollbackDone => 2 | .quiesced => 3 | .autoMark => 4 | .autoMarkMissed => 5
  | .pressureRetire => 6 | .framesLow => 7 | .framesEmpty => 8 | .preserveFail => 9 | .restoreFault => 10
  | .holdTimeout => 11 | .memTimeout => 12 | .lateResponse => 13 | .protocolErr => 14 | .poolAccess => 15
  | .fenceRefused => 16 | .degraded => 17 | .sampleEnd => 18 | .linkChange => 19 | .mgmtReject => 20

/-- Set an event flag, set already or not (R174). -/
def State.raise (f : EventFlag) (s : State) : State :=
  s.setMgmt { s.mgmt with flags := s.mgmt.flags ||| BitVec.twoPow 21 f.bit }

/-- Whether a flag is set. -/
def State.flag (s : State) (f : EventFlag) : Bool := s.mgmt.flags.getLsbD f.bit

/-- ALERT_N is driven low while some flag is both set and enabled (R175). -/
def State.alert (s : State) : Bool := s.mgmt.flags &&& s.mgmt.mask != 0#21

/-- Capture an error: it fills an empty record, and otherwise sets `more` (R176). -/
def State.capture (kind : ErrKind) (tag : Option Nat) (address : Option Addr) (window : Option Nat) (s : State) : State :=
  if s.mgmt.firstError.kind = .none then
    s.setMgmt { s.mgmt with firstError := ⟨kind, tag, address, window, false⟩ }
  else s.setMgmt { s.mgmt with firstError := { s.mgmt.firstError with more := true } }

/-- PROTOCOL_ERR with its capture (R105, R110, R111, R134, R180). -/
def State.protocolError (tag : Option Nat) (address : Option Addr) (s : State) : State :=
  (s.raise .protocolErr).capture .protocol tag address none

/-! ## Running activity counters (R75): a request with no window counts nowhere -/

/-- Change a window's running counters. -/
def State.countRunning (f : Counts → Counts) (w : Option Nat) (s : State) : State :=
  match w with
  | none => s
  | some w => s.setAct w { s.act w with running := f (s.act w).running }

def State.countRead (w : Option Nat) (s : State) : State :=
  s.countRunning (fun c => { c with reads := satInc c.reads }) w

def State.countWrite (w : Option Nat) (s : State) : State :=
  s.countRunning (fun c => { c with writes := satInc c.writes }) w

def State.countPreserve (w : Option Nat) (s : State) : State :=
  s.countRunning (fun c => { c with preserves := satInc c.preserves }) w

def State.countRefusal (w : Option Nat) (s : State) : State :=
  s.countRunning (fun c => { c with refusals := satInc c.refusals }) w

/-- Count a read or a write. -/
def State.countRequest (k : ReqKind) (w : Option Nat) (s : State) : State :=
  match k with
  | .read => s.countRead w
  | .write => s.countWrite w

end Sys2Proof.Machine
end

