-- ==== Sys2Proof/Machine/Marks.lean ====
section
/-! DEFINITION. The mark table (02): the stack, stamps and resolution, damage, push, and the acceptance of discards. -/

namespace Sys2Proof.Machine

/-- The slots by number (R18). -/
def slotIds : List Nat := [0, 1, 2, 3, 4]

/-- The LIVE slots, by number (R19). -/
def State.liveSlots (s : State) : List Nat := slotIds.filter (fun i => (s.slot i).state == .live)

/-- The LIVE count (R19). -/
def State.liveCount (s : State) : Nat := s.liveSlots.length

/-- The occupied slots (R19). -/
def State.occupied (s : State) : List Nat := slotIds.filter (fun i => (s.slot i).state != .free)

/-- Of a list of slots, the one with the greatest sequence. -/
def State.latest (s : State) : List Nat → Option Nat
  | [] => none
  | i :: t =>
    match s.latest t with
    | none => some i
    | some j => if (s.slot j).seq < (s.slot i).seq then some i else some j

/-- Of a list of slots, the one with the least sequence. -/
def State.earliest (s : State) : List Nat → Option Nat
  | [] => none
  | i :: t =>
    match s.earliest t with
    | none => some i
    | some j => if (s.slot i).seq < (s.slot j).seq then some i else some j

/-- The newest LIVE mark's slot (R19). -/
def State.newestLive (s : State) : Option Nat := s.latest s.liveSlots

/-- The oldest LIVE mark's slot (R19). -/
def State.oldestLive (s : State) : Option Nat := s.earliest s.liveSlots

/-- The stamp a request receives now: the newest LIVE mark's sequence, or 0 (R24). -/
def State.stampNow (s : State) : Seq :=
  match s.newestLive with
  | none => 0#32
  | some i => (s.slot i).seq

/-- The effective mark of a stamp (R25): the LIVE slot with the greatest sequence not above it. -/
def State.effective (s : State) (t : Seq) : Option Nat :=
  if t = 0#32 then none else s.latest (s.liveSlots.filter (fun i => decide ((s.slot i).seq ≤ t)))

/-- The newest LIVE mark older than slot `q`'s sequence (R26, R35). -/
def State.olderLive (s : State) (q : Nat) : Option Nat :=
  s.latest (s.liveSlots.filter (fun i => decide ((s.slot i).seq < (s.slot q).seq)))

/-- The slot a record's mark-slot field names, where the tables bear it out: a number up to 4 and an occupied slot
(R43). -/
def State.slotOf (s : State) (r : Record) : Option Nat :=
  match r.slot with
  | none => none
  | some q => if q < Config.slots ∧ (s.slot q).state ≠ .free then some q else none

/-- The resolved mark of a record (R26). -/
def State.resolved (s : State) (r : Record) : Option Nat :=
  match s.slotOf r with
  | none => none
  | some q => if (s.slot q).state = .retiring then s.olderLive q else some q

/-- A record's mark sequence; where its slot field is not borne out, 0, which is below every mark's (R43; log 24). -/
def State.recSeq (s : State) (r : Nat) : Seq :=
  match s.slotOf (s.record r) with
  | none => 0#32
  | some q => (s.slot q).seq

/-- Flag a slot damaged (R27). -/
def State.damage (q : Nat) (s : State) : State := s.setSlot q { s.slot q with damaged := true }

/-- Flag every LIVE slot damaged (R27, R148). -/
def State.damageLive (s : State) : State := s.liveSlots.foldl (fun t q => t.damage q) s

/-- The LIVE slot with a given sequence (R35, R36). -/
def State.liveWith (s : State) (q : Seq) : Option Nat := s.liveSlots.find? (fun i => (s.slot i).seq == q)

/-- Start a discard of slot `q` into `p` (R35, R81): the slot becomes RETIRING, and the walk begins at its oldest
record. -/
def State.startDiscard (q : Nat) (p : Option Nat) (cause : Cause) (s : State) : State :=
  let head := (s.slot q).head
  (s.setSlot q { s.slot q with state := .retiring }).setSweep
    { s.sweep with
      kind := .discard, cause := some cause, phase := .walk, retiring := some q, predecessor := p,
      order := [(q, head)], cursor := head, walkSlot := some q, walked := [], waitingOn := none }

/-- The lowest-numbered FREE slot (R19, R32). -/
def State.freeSlot (s : State) : Option Nat := slotIds.find? (fun i => (s.slot i).state == .free)

/-- Push a mark into slot `i` (R32, R21). The counter wraps to 0, which is the value "exhausted". -/
def State.pushAt (i : Nat) (origin : Origin) (s : State) : State :=
  { s.setSlot i ⟨.live, s.nextSeq, origin, false, 0, none, none⟩ with nextSeq := s.nextSeq + 1#32 }

/-- A MARK claim by a command or the scheduler (R31, R33, R34): the result, and the table after it. Anything but DONE
leaves the state as it is. A claim with ROLL that comes behind a pressure retire made at 4 LIVE finds 3 LIVE, and is DONE by
R31, where R166 has a command get BUSY: that R31's tests decide is the model's choice (log 36). -/
def State.markClaim (origin : Origin) (roll : Bool) (cause : Cause) (s : State) : Result × State :=
  if s.ctl.state ≠ .guarding then (.badState, s)
  else if s.sweep.kind = .commit ∨ s.sweep.kind = .rollback then (.busy, s)
  else if s.nextSeq = 0#32 then (.seqLimit, s)
  else if s.liveCount < Config.liveMarks then
    match s.freeSlot with
    | none => (.stackFull, s)
    | some i => (.done, s.pushAt i origin)
  else if roll = false then (.stackFull, s)
  else if s.sweep.kind ≠ .none then (.busy, s)
  else
    match s.oldestLive, s.freeSlot with
    | some q, some i => (.done, (s.startDiscard q none cause).pushAt i origin)
    | _, _ => (.stackFull, s)

/-- Frame pressure (R165, condition 2). -/
def State.pressed (s : State) : Bool :=
  decide (s.pool.free.length < s.pool.lowWater.toNat) || (!s.pool.wait.isEmpty && s.pool.free.isEmpty)

/-- A pressure check, and the pressure retire it makes where all four conditions hold (R165, R166). -/
def State.pressureCheck (s : State) : State :=
  if s.sched.roll = true ∧ s.pressed = true ∧ 2 ≤ s.liveCount ∧ s.sweep.kind = .none then
    match s.oldestLive with
    | none => s
    | some q => (s.startDiscard q none .pressure).raise .pressureRetire
  else s

/-- Return the engine to idle (R80): kind NONE, and the fields of the sweep that has ended cleared (log 11). The fault
list, its flag and count, and the report stay. -/
def State.sweepIdle (s : State) : State :=
  s.setSweep
    { Sweep.reset with
      faultList := s.sweep.faultList, faultOverflow := s.sweep.faultOverflow, faultCount := s.sweep.faultCount,
      report := s.sweep.report, park := s.sweep.park, demand := s.sweep.demand, offer := s.sweep.offer,
      drainSet := s.sweep.drainSet }

end Sys2Proof.Machine
end

