-- ==== Sys2Proof/Machine/Chains.lean ====
section
/-! DEFINITION. Page chains and journals (03, 3.6 and 3.7): walks over the stored links, insertion, unlinking, append,
removal, relabelling, and what a removal does to a sweep's cursor. A link the tables do not bear out ends a walk; the
record it names has been read all the same (R43), and the `…Reads` lists hold it. -/

namespace Sys2Proof.Machine

/-! ## Walks -/

/-- A chain link of page `p`: it names a record that is not FREE and is of this page, not met before in the walk
(R43). -/
def State.chainLink (s : State) (p : Nat) (seen : List Nat) (o : Option Nat) : Option Nat :=
  match o with
  | none => none
  | some r =>
    if (s.record r).state ≠ .free ∧ (s.record r).pageIndex = some p ∧ r ∉ seen then some r else none

/-- Walk a chain along older links. A walk meets each listed record once at most, which bounds it. -/
def State.chainFrom (s : State) (p : Nat) : Nat → List Nat → Option Nat → List Nat
  | 0, _, _ => []
  | k + 1, seen, o =>
    match s.chainLink p seen o with
    | none => []
    | some r => r :: s.chainFrom p k (r :: seen) (s.record r).older

/-- A page's records, head first (R49, R52). -/
def State.chain (s : State) (p : Nat) : List Nat :=
  s.chainFrom p (s.records.cells.length + 1) [] (s.page p).chainHead

/-- The records a walk of page `p`'s chain reads: those of `chainFrom`, and a last one that the tables do not bear out
(R43, R52). -/
def State.chainReadsFrom (s : State) (p : Nat) : Nat → List Nat → Option Nat → List Nat
  | 0, _, _ => []
  | _, _, none => []
  | k + 1, seen, some r =>
    if r ∈ seen then []
    else if s.chainLink p seen (some r) = none then [r]
    else r :: s.chainReadsFrom p k (r :: seen) (s.record r).older

/-- The records a walk of page `p`'s chain reads, head first (R52). -/
def State.chainReads (s : State) (p : Nat) : List Nat :=
  s.chainReadsFrom p (s.records.cells.length + 1) [] (s.page p).chainHead

/-- The page's newest record, or none (R13). -/
def State.chainTop (s : State) (p : Nat) : Option Nat := s.chainLink p [] (s.page p).chainHead

/-- A journal link: it names a record that is not FREE. R43 does not list a record of another slot among what the tables do
not bear out, so such a link stands (R84, R104; log 10). -/
def State.journalLink (s : State) (o : Option Nat) : Option Nat :=
  match o with
  | none => none
  | some r => if (s.record r).state ≠ .free then some r else none

/-- The record that a journal link names and the tables do not bear out: it is read, and the link is none (R43). -/
def State.rejected (s : State) (o : Option Nat) : List Nat := if s.journalLink o = none then o.toList else []

/-- A journal link as a walk that has met the records `met` takes it: the record is not FREE, and none of those (R43). -/
def State.walkLink (s : State) (met : List Nat) (o : Option Nat) : Option Nat :=
  (s.journalLink o).filter (fun r => !met.contains r)

/-- Walk a journal along newer links. -/
def State.journalFrom (s : State) : Nat → List Nat → Option Nat → List Nat
  | 0, _, _ => []
  | k + 1, seen, o =>
    match s.journalLink o with
    | none => []
    | some r => if r ∈ seen then [] else r :: s.journalFrom k (r :: seen) (s.record r).jNewer

/-- A slot's journal, oldest first (R53). -/
def State.journal (s : State) (q : Nat) : List Nat :=
  s.journalFrom (s.records.cells.length + 1) [] (s.slot q).head

/-- The newer link of record `r` as its removal takes it: none where it names a FREE record, `r` itself, or a record that
the walk of its slot's journal meets before `r` (R43, R54). -/
def State.leaveNewer (s : State) (r : Nat) : Option Nat :=
  s.walkLink
    (r :: match s.slotOf (s.record r) with
      | none => []
      | some q => (s.journal q).takeWhile (fun x => x != r))
    (s.record r).jNewer

/-- The older link of record `r` as its removal takes it: none where it names a FREE record or `r` itself (R43, R54). A
record that both links name is the newer neighbour, which the walk meets first, and the older link is none, the model's
choice (log 10). -/
def State.leaveOlder (s : State) (r : Nat) : Option Nat := s.walkLink (r :: (s.leaveNewer r).toList) (s.record r).jOlder

/-- The look-up "the page's record at a given mark slot" (R52). -/
def State.recordAt (s : State) (p q : Nat) : Option Nat := (s.chain p).find? (fun r => (s.record r).slot == some q)

/-- The records a look-up reads before and at its first record that satisfies `stop` (R52). -/
def readUntil (stop : Nat → Bool) : List Nat → List Nat
  | [] => []
  | r :: t => if stop r then [r] else r :: readUntil stop t

/-! ## Chain links (R50, R51): a write of a record recomputes its parity (R43) -/

/-- Write a record's fields, with parity recomputed (R43). -/
def State.putRec (r : Nat) (v : Record) (s : State) : State := s.setRec r { v with parityOk := true }

/-- Write a PST entry's fields, with parity recomputed (R10, R13). -/
def State.putPage (p : Nat) (v : PstEntry) (s : State) : State := s.setPage p { v with parityOk := true }

/-- Insert record `r` into page `p`'s chain: before the first record whose mark sequence is lower, or at the end (R50). A
link that named `r` while it was FREE was none (R43), so the chain inserted into ends there. -/
def State.chainInsert (p r : Nat) (s : State) : State :=
  let chain := (s.chain p).takeWhile (fun x => x != r)
  let newer := chain.takeWhile (fun x => decide (s.recSeq r ≤ s.recSeq x))
  let rest := chain.dropWhile (fun x => decide (s.recSeq r ≤ s.recSeq x))
  let s := s.putRec r { s.record r with older := rest.head? }
  match newer.getLast? with
  | none => s.putPage p { s.page p with chainHead := some r }
  | some x => s.putRec x { s.record x with older := some r }

/-- The older link of record `r` as the walk of page `p`'s chain down to `r` bears it out: none where it names a FREE
record, a record of another page, or one that the walk has met (R43, R51). -/
def State.chainOlder (s : State) (p r : Nat) : Option Nat :=
  s.chainLink p (r :: (s.chain p).takeWhile (fun x => x != r)) (s.record r).older

/-- The records that an unlinking of `r` from page `p`'s chain reads: those the walk meets down to `r` (R51), and the one
that `r`'s older link names where the tables do not bear it out (R43; log 24). -/
def State.unlinkReads (s : State) (p r : Nat) : List Nat :=
  readUntil (fun x => x == r) (s.chainReads p) ++
    if r ∈ s.chain p ∧ s.chainOlder p r = none then (s.record r).older.toList else []

/-- Unlink record `r` from page `p`'s chain: the chain head, or the record before it, takes `r`'s older link, as the tables
bear it out. A record the walk does not find leaves the chain as it stands (R51, R43). -/
def State.chainUnlink (p r : Nat) (s : State) : State :=
  if r ∈ s.chain p then
    match ((s.chain p).takeWhile (fun x => x != r)).getLast? with
    | none => s.putPage p { s.page p with chainHead := s.chainOlder p r }
    | some x => s.putRec x { s.record x with older := s.chainOlder p r }
  else s

/-! ## Journals (R53 to R55) -/

/-- Append record `r` at the tail of slot `q`'s journal (R53). Where the tail is a record that the tables do not bear out, or
names `r` itself, which is not in the journal, the journal counts as empty: its head becomes `r`, and the records before are
no longer linked, the model's choice (log 10). -/
def State.journalAppend (q r : Nat) (s : State) : State :=
  let tail := (s.journalLink (s.slot q).tail).filter (fun x => x != r)
  let s := s.putRec r { s.record r with slot := some q, jOlder := tail, jNewer := none }
  let s :=
    match tail with
    | none => s.setSlot q { s.slot q with head := some r }
    | some x => s.putRec x { s.record x with jNewer := some r }
  s.setSlot q { s.slot q with tail := some r, count := (s.slot q).count + 1 }

/-! ## The cursor of a sweep (R81, R85, R92, R102) -/

/-- The slots that follow slot `q` in a walk order. -/
def slotsAfter (q : Nat) (order : List (Nat × Option Nat)) : List (Nat × Option Nat) :=
  (order.dropWhile (fun e => e.1 != q)).drop 1

/-- The first slot of a walk order that has a start record, with that record (R85, R92). -/
def firstPlace (order : List (Nat × Option Nat)) : Option (Nat × Nat) :=
  order.findSome? (fun e => e.2.map (fun r => (e.1, r)))

/-- Where the walk of a slot's journal begins: at its start record in a restore, at its head otherwise (R85, R92). -/
def State.walkStart (s : State) (e : Nat × Option Nat) : Option Nat :=
  s.journalLink (if s.sweep.phase = .restore then e.2 else (s.slot e.1).head)

/-- The slots of the walk order whose journals the walk has still to come to. -/
def State.laterSlots (s : State) : List (Nat × Option Nat) :=
  match s.sweep.walkSlot with
  | none => []
  | some q => slotsAfter q s.sweep.order

/-- The walk goes on to the next slot that has a record to begin at; with none, the cursor is none (R85, R92). -/
def State.nextJournal (s : State) : State :=
  let place := firstPlace (s.laterSlots.map (fun e => (e.1, s.walkStart e)))
  s.setSweep
    { s.sweep with cursor := place.map (fun e => e.2), walkSlot := place.map (fun e => e.1), walked := [] }

/-- The link by which a walk leaves record `r`: the journal older link in a restore, the newer link otherwise. -/
def State.walkNext (s : State) (r : Nat) : Option Nat :=
  if s.sweep.phase = .restore then (s.record r).jOlder else (s.record r).jNewer

/-- The record that the walk goes to from record `r` along the journal. -/
def State.walkTo (s : State) (r : Nat) : Option Nat := s.walkLink (r :: s.sweep.walked) (s.walkNext r)

/-- The cursor moves past record `r`: along its link, or to the next journal (R81, R85, R92). -/
def State.walkPast (r : Nat) (s : State) : State :=
  match s.walkTo r with
  | some x => s.setSweep { s.sweep with cursor := some x, walked := r :: s.sweep.walked }
  | none => s.nextJournal

/-- The records read and rejected as the walk goes on to the next journal (R43). -/
def State.startReads (s : State) : List (Nat × Option Nat) → List Nat
  | [] => []
  | e :: t =>
    if s.walkStart e = none then
      (if s.sweep.phase = .restore then e.2 else (s.slot e.1).head).toList ++ s.startReads t
    else []

/-- The records read and rejected as the cursor moves past record `r` (R43). -/
def State.moveReads (s : State) (r : Nat) : List Nat :=
  if s.walkTo r = none then s.rejected (s.walkNext r) ++ s.startReads s.laterSlots else []

/-- What the sweep engine notes when record `r` leaves its journal: a cursor on it moves past it (R82, R93), and in a
restore the start records and the source boundary that name it move to its journal older link (R91). -/
def State.sweepPast (r : Nat) (s : State) : State :=
  let older := s.leaveOlder r
  let s := if s.sweep.cursor = some r then s.walkPast r else s
  if s.sweep.phase = .restore then
    s.setSweep { s.sweep with
      order := s.sweep.order.map (fun e => if e.2 = some r then (e.1, older) else e)
      boundary := if s.sweep.boundary = some r then older else s.sweep.boundary }
  else s

/-! ## Removal from a journal (R54, R55) -/

/-- The records read and rejected as record `r` leaves its journal: its neighbours there, and where a cursor on it goes
(R43, R54). -/
def State.leaveReads (s : State) (r : Nat) : List Nat :=
  (match s.slotOf (s.record r) with
    | none => []
    | some _ => s.rejected (s.record r).jOlder ++ s.rejected (s.record r).jNewer) ++
  (if s.sweep.cursor = some r then s.moveReads r else [])

/-- The journal newer link of the neighbour `o`, where there is one, becomes `v` (R54). -/
def State.linkNewer (o v : Option Nat) (s : State) : State :=
  match o with
  | none => s
  | some x => s.putRec x { s.record x with jNewer := v }

/-- The journal older link of the neighbour `n`, where there is one, becomes `v` (R54). -/
def State.linkOlder (n v : Option Nat) (s : State) : State :=
  match n with
  | none => s
  | some x => s.putRec x { s.record x with jOlder := v }

/-- Link the journal neighbours of record `r`, those that its own links name, to each other; the slot's head and tail move
where they name `r` (R54). On a side where `r`'s link is not borne out it has no neighbour (R43): a record there that is
linked to `r` stays so, the model's choice (log 10). -/
def State.journalUnlink (q r : Nat) (s : State) : State :=
  let o := s.leaveOlder r
  let n := s.leaveNewer r
  let s := (s.linkNewer o n).linkOlder n o
  s.setSlot q
    { s.slot q with
      head := if (s.slot q).head = some r then n else (s.slot q).head
      tail := if (s.slot q).tail = some r then o else (s.slot q).tail }

/-- Removal from a journal (R54): the links, where its slot's journal holds the record, and the record count (R43). A count
that a fault has left at 0 stays 0, the model's choice (log 10). -/
def State.journalRemove (r : Nat) (s : State) : State :=
  match s.slotOf (s.record r) with
  | none => s.sweepPast r
  | some q =>
    let t := s.sweepPast r
    let t := if r ∈ s.journal q then t.journalUnlink q r else t
    t.setSlot q { t.slot q with count := (t.slot q).count - 1 }

/-- Relabel a record to slot `p` (R55). -/
def State.relabel (r p : Nat) (s : State) : State := (s.journalRemove r).journalAppend p r

/-! ## Rollback sources (R90, R91) -/

/-- Whether a rollback is in its restore phase. -/
def State.restoring (s : State) : Bool := s.sweep.kind == .rollback && s.sweep.phase == .restore

/-- Whether a record is a rollback source: at an UNWINDING slot, or in the target's journal at or before the boundary
(R90, R91). -/
def State.isSource (s : State) (r : Nat) : Bool :=
  match s.slotOf (s.record r) with
  | none => false
  | some q =>
    if (s.slot q).state = .unwinding then true
    else if s.sweep.target = some q then
      match s.sweep.boundary with
      | none => false
      | some b => (readUntil (fun x => x == b) (s.journal q)).contains r && (s.journal q).contains b
    else false

/-- Whether a record's mark sequence is below the target's; with no target every record counts as below. -/
def State.belowTarget (s : State) (r : Nat) : Bool :=
  match s.sweep.target with
  | none => true
  | some q => decide (s.recSeq r < (s.slot q).seq)

/-- A page's records at marks with sequence not below the target's: those from the head down to the last that is not below
it, and none where the head is below (R52). -/
def State.sinceTarget (s : State) (p : Nat) : List Nat :=
  if (s.chain p).head?.any s.belowTarget = true then [] else (s.chain p).rdropWhile s.belowTarget

/-- A page's rollback sources, newest first (R90, R97). -/
def State.sources (s : State) (p : Nat) : List Nat := (s.sinceTarget p).filter s.isSource

/-- The page's oldest rollback source: its restore target (R92, R95). -/
def State.oldestSource (s : State) (p : Nat) : Option Nat := (s.sources p).getLast?

/-- The records a look-up of a page's rollback sources reads: the head alone where it is below the target, and otherwise the
whole chain, since only its end shows which record is the last (R52; log 24). -/
def State.sourceReads (s : State) (p : Nat) : List Nat :=
  if s.sweep.target = none then []
  else if (s.chainReads p).head?.any s.belowTarget = true then (s.chainReads p).take 1
  else s.chainReads p

end Sys2Proof.Machine
end

