-- ==== Sys2Proof/Machine/Ops.lean ====
section
/-! DEFINITION. Shared operations of the request port and the memory port: credits, the intake, completions, freeing an
entry, taking and issuing a request, the end of a downstream request, and the wait lists (06; 07, 7.3; 01, 1.4). -/

namespace Sys2Proof.Machine

/-! ## Credits and the intake (R109, R120) -/

/-- One credit is earned (R109): with the link up it falls due in this step, or goes to `owed` while the intake is not
OPEN; with the link down nothing is earned. -/
def State.earnCredit (s : State) : State :=
  if s.port.up = false then s
  else if s.port.intake = .opened then s.setPort { s.port with due := s.port.due + 1 }
  else s.setPort { s.port with owed := s.port.owed + 1 }

/-- The credits of one step are sent in one CREDIT message carrying their sum, after the step's completions (R109). -/
def State.sendCredits (s : State) : State :=
  if s.port.due = 0 then s
  else s.setPort
    { s.port with
      credits := s.port.credits + s.port.due, due := 0, sent := s.port.sent ++ [.credit s.port.due] }

/-- An entry number range, 0 to 127 (R107). -/
def entryIds : List Nat := List.range Config.entries

/-- How many entries are not FREE (R124). -/
def State.busyEntries (s : State) : Nat := (entryIds.filter (fun n => (s.entry n).state != .free)).length

/-- How many entries are FREE. -/
def State.freeEntries (s : State) : Nat := (entryIds.filter (fun n => (s.entry n).state == .free)).length

/-- The copy channels by number (R126). -/
def chanIds : List Nat := [0, 1, 2, 3]

/-- Whether the copy engine is idle (R125). -/
def State.copyIdle (s : State) : Bool :=
  s.wp.queue.isEmpty && s.wp.backlog.isEmpty && s.sweep.demand.isEmpty && s.sweep.offer.isNone &&
    chanIds.all (fun c => (s.chan c).job.isNone)

/-- The empty condition (R120). -/
def State.emptyCondition (s : State) : Bool :=
  entryIds.all (fun n => (s.entry n).state == .free) && s.copyIdle

/-- An arrival accepted, or a copy job made: a CLOSED intake becomes CLOSING (R120). -/
def State.noteWork (s : State) : State :=
  if s.port.intake = .closed then s.setPort { s.port with intake := .closing } else s

/-- The empty condition, where it holds, takes a CLOSING intake to CLOSED and sets QUIESCED (R120). -/
def State.checkIntake (s : State) : State :=
  if s.port.intake = .closing ∧ s.emptyCondition = true then
    (s.setPort { s.port with intake := .closed }).raise .quiesced
  else s

/-! ## Completions and freeing an entry (R106, R108, R113) -/

/-- Send a message upstream; while the link is down none is sent (R105). -/
def State.sendUp (m : UpMessage) (s : State) : State :=
  if s.port.up = true then s.setPort { s.port with sent := s.port.sent ++ [m] } else s

/-- Entry `n` leaves the drain set (R89). -/
def State.leaveDrain (n : Nat) (s : State) : State :=
  s.setSweep { s.sweep with drainSet := s.sweep.drainSet.filter (fun x => x != n) }

/-- Entry `n` becomes FREE, leaves the drain set and earns its credit (R108, R89, R109). -/
def State.freeEntry (n : Nat) (s : State) : State :=
  if (s.entry n).state = .free then s else ((s.setEntry n .freed).leaveDrain n).earnCredit

/-- Complete entry `n` upstream and free it. -/
def State.complete (n : Nat) (status : Status) (reason : Reason) (data : List Byte) (s : State) : State :=
  (s.sendUp (.completion n status reason data)).freeEntry n

/-- Complete entry `n` REFUSED; the refusal counter of the window recorded in the entry rises (R75). -/
def State.refuse (n : Nat) (reason : Reason) (s : State) : State :=
  (s.countRefusal (s.entry n).window).complete n .refused reason []

/-- Capture an error with entry `n`'s tag, address and window (R176). -/
def State.captureEntry (kind : ErrKind) (n : Nat) (s : State) : State :=
  s.capture kind (some n) (some (s.entry n).address) (s.entry n).window

/-- How the memory port reports the end of a downstream request (R113). -/
inductive ReqEnd where
  | ok (data : List Byte)
  | error
  | timeoutQuarantined
  | timeoutQueued
  | linkDown
  deriving DecidableEq, Repr

/-- An entry is told of the end of its downstream request (R113; R122 for an ORPHANED entry). -/
def State.endEntry (n : Nat) (e : ReqEnd) (s : State) : State :=
  match (s.entry n).state with
  | .issued =>
    match e with
    | .ok data => s.complete n .ok .none (if (s.entry n).kind = .read then data else [])
    | .error => s.complete n .dataErr .memoryError []
    | .timeoutQuarantined =>
      let t := s.sendUp (.completion n .dataErr .memoryTimeout [])
      (t.setEntry n { t.entry n with state := .quarantined }).leaveDrain n
    | .timeoutQueued => s.complete n .dataErr .memoryTimeout []
    | .linkDown => s.complete n .dataErr .linkDown []
  | .orphaned =>
    match e with
    | .timeoutQuarantined => s
    | _ => s.freeEntry n
  | _ => s

/-- An entry is told that its quarantined tag is released (R114, R122). -/
def State.releaseEntry (n : Nat) (s : State) : State :=
  match (s.entry n).state with
  | .quarantined | .orphaned => s.freeEntry n
  | _ => s

/-! ## Taking and issuing (R112, R133) -/

/-- The response deadline of a request taken now (R133, R135). -/
def State.responseDeadline (s : State) : Nat := s.now + orMax s.mem.responseTimeout

/-- The memory port takes a request on tag `t`, its link being up (R133). -/
def State.take (t : Nat) (kind : ReqKind) (a : Addr) (lines : Nat) (masks : List (BitVec 64)) (data : List Byte)
    (s : State) : State :=
  (s.setTag t ⟨.queued, kind, a, lines, masks, data, 0, some s.responseDeadline⟩).setMem
    { s.mem with takeList := s.mem.takeList ++ [t], sendQueue := s.mem.sendQueue ++ [t] }

/-- Issue entry `n` to address `a` (R112). With the memory-port link down it is reported back at once as ended by link
down (R133). -/
def State.issueTo (n : Nat) (a : Addr) (s : State) : State :=
  let e := s.entry n
  let s := s.setEntry n { e with state := .issued, next := none, heldOn := none, deadline := none, issueAddress := a }
  if s.mem.up = true then s.take n e.kind a e.lines e.masks e.data else s.endEntry n .linkDown

/-- Issue entry `n` to its own address. -/
def State.issue (n : Nat) (s : State) : State := s.issueTo n (s.entry n).address

/-- The request on tag `t` ends: the tag becomes IDLE and leaves the take list and the send queue (R133, R134). -/
def State.idleTag (t : Nat) (s : State) : State :=
  (s.setTag t .idle).setMem
    { s.mem with
      takeList := s.mem.takeList.filter (fun x => x != t), sendQueue := s.mem.sendQueue.filter (fun x => x != t) }

/-! ## Wait lists (R10, R12) -/

/-- Append entry `n` at the tail of page `p`'s wait list (R10). -/
def State.waitAppend (p n : Nat) (s : State) : State :=
  match (s.page p).waitTail with
  | none => s.putPage p { s.page p with waitHead := some n, waitTail := some n }
  | some t => (s.setEntry t { s.entry t with next := some n }).putPage p { s.page p with waitTail := some n }

/-- The entry `n` at the head of page `p`'s wait list leaves it; the next request becomes the head (R12). -/
def State.popHead (p n : Nat) (s : State) : State :=
  let next := (s.entry n).next
  (s.setEntry n { s.entry n with next := none }).putPage p
    { s.page p with waitHead := next, waitTail := if next = none then none else (s.page p).waitTail }

/-- Walk a wait list along the next links. A list holds each of the 128 entries once at most. -/
def State.waitFrom (s : State) : Nat → Option Nat → List Nat
  | 0, _ => []
  | _, none => []
  | k + 1, some n => n :: s.waitFrom k (s.entry n).next

/-- A page's wait list, head first. -/
def State.waitList (s : State) (p : Nat) : List Nat := s.waitFrom (Config.entries + 1) (s.page p).waitHead

/-- The request before entry `n` in a wait list. -/
def before (n : Nat) : List Nat → Option Nat
  | x :: y :: t => if y = n then some x else before n (y :: t)
  | _ => none

/-- Entry `n` leaves page `p`'s wait list from its place; the order of the rest is kept (R12). -/
def State.waitRemove (p n : Nat) (s : State) : State :=
  if (s.page p).waitHead = some n then s.popHead p n
  else
    match before n (s.waitList p) with
    | none => s
    | some x =>
      let next := (s.entry n).next
      let s := s.setEntry x { s.entry x with next := next }
      let s := s.setEntry n { s.entry n with next := none }
      if (s.page p).waitTail = some n then s.putPage p { s.page p with waitTail := some x } else s

/-- The head of page `p`'s list, if it is a write HELD behind record `r` (R64). -/
def State.heldBehind (p r : Nat) (s : State) : Option Nat :=
  match (s.page p).waitHead with
  | none => none
  | some n => if (s.entry n).state = .held ∧ (s.entry n).heldOn = some (.record r) then some n else none

/-- Whether the head of page `p`'s list is a write HELD for a demand restore (R96). -/
def State.heldForDemand (p : Nat) (s : State) : Bool :=
  match (s.page p).waitHead with
  | none => false
  | some n => (s.entry n).state == .held && (s.entry n).heldOn == some .demand

/-- Whether entry `n` is one that a wait list holds: WAITING, HELD or FRAME_WAIT (R10, R14). -/
def State.isListed (s : State) (n : Nat) : Bool :=
  (s.entry n).state == .waiting || (s.entry n).state == .held || (s.entry n).state == .frameWait

end Sys2Proof.Machine
end

