-- ==== Sys2Proof/Machine/WritePath.lean ====
section
/-! DEFINITION. The write path (04): table faults and the entry to DEGRADED (R14, R43, R148, R151), the decision (R61),
allocation and preservation (R45, R62), the exhaustion policies (R69 to R71), frame returns (R47), freeing a record
(R46), and the outcomes of copies (R65, R66, R94, R99).

A table fault found in a decision enters DEGRADED, and the entry issues the writes in FRAME_WAIT, which decides further
writes. So the operations take the flush of FRAME_WAIT writes as the parameter `flush`. In DEGRADED no fault enters
DEGRADED again, so the decisions inside the flush never use theirs. -/

namespace Sys2Proof.Machine

/-! ## State control: DEGRADED and table faults (R148, R151) -/

/-- A degraded cause (R143). -/
inductive DegradedCause where
  | link | table | command
  deriving DecidableEq, Repr

/-- Add a cause to the degraded cause (R148). -/
def State.addCause (c : DegradedCause) (s : State) : State :=
  match c with
  | .link => s.setCtl { s.ctl with causeLink := true }
  | .table => s.setCtl { s.ctl with causeTable := true }
  | .command => s.setCtl { s.ctl with causeCommand := true }

/-- Enter DEGRADED (R148): the state, the LIVE marks' damage, the writes in FRAME_WAIT, the flag. -/
def enterDegradedWith (flush : State → State) (s : State) : State :=
  (flush (s.setCtl { s.ctl with state := .degraded }).damageLive).raise .degraded

/-- The consequences of a table fault at state control (R151). -/
def tableFaultWith (flush : State → State) (s : State) : State :=
  let s := s.setCtl { s.ctl with tableFault := true }
  match s.ctl.state with
  | .guarding => enterDegradedWith flush (s.addCause .table)
  | .degraded => s.addCause .table
  | .recovering => s.setCtl { s.ctl with spoiled := true, faultDuring := true }
  | .config => s

/-- The address of PST index `p`'s page, where the index is assigned. -/
def State.pstAddress (s : State) (p : Nat) : Option Addr := (s.pstWindow p).map (fun w => addrAt (s.pstPage w p) 0)

/-- The entries of page `p`'s wait list, found in the transaction table (R14, step 3). -/
def State.listedAt (s : State) (p : Nat) : List Nat :=
  entryIds.filter (fun n => s.isListed n && (s.entry n).pst == some p)

/-- The PST entry of page `p` with head and tail recomputed from the transaction table and the chain head kept (R14,
steps 3 and 4). -/
def State.repaired (s : State) (p : Nat) : PstEntry :=
  let l := s.listedAt p
  { s.page p with
    waitHead := l.find? (fun n => l.all (fun m => (s.entry m).next != some n))
    waitTail := l.find? (fun n => (s.entry n).next == none) }

/-- The PST entry of page `p` rewritten with parity consistent (R14, step 5). -/
def State.repairPage (p : Nat) (s : State) : State := s.putPage p (s.repaired p)

/-- Read page `p`'s GUARD entry, checking its parity (R14). -/
def checkPageWith (flush : State → State) (p : Nat) (tag : Option Nat) (s : State) : State :=
  if (s.page p).parityOk = true then s
  else tableFaultWith flush ((s.capture .parity tag (s.pstAddress p) (s.pstWindow p)).repairPage p)

/-- Capture a record's parity error (R43, step 1). A record that is not FREE and names no page gives no address and no
window (log 29). -/
def State.captureRec (r : Nat) (tag : Option Nat) (s : State) : State :=
  if (s.record r).state = .free then s.capture .parity tag (some (addrAt (s.framePage r) 0)) none
  else
    match (s.record r).pageNumber with
    | none => s.capture .parity tag none none
    | some n => s.capture .parity tag (some (addrAt n 0)) (s.windowOf n)

/-- Read record `r`, checking its parity (R43). -/
def checkRecWith (flush : State → State) (r : Nat) (tag : Option Nat) (s : State) : State :=
  if (s.record r).parityOk = true then s
  else tableFaultWith flush ((s.captureRec r tag).putRec r { s.record r with suspect := true })

/-- Read a list of records. -/
def checkRecsWith (flush : State → State) (l : List Nat) (tag : Option Nat) (s : State) : State :=
  l.foldl (fun s r => checkRecWith flush r tag s) s

/-! ## Holding, allocating, exhaustion (R45, R62, R64, R69 to R71, R96) -/

/-- Hold write `n` (R64, R96). -/
def State.hold (n : Nat) (on : HeldOn) (s : State) : State :=
  s.setEntry n { s.entry n with state := .held, heldOn := some on }

/-- HELD for a demand restore (R96): the page joins the demand queue unless its target is RESTORING, it is queued
already, or the queue is full. -/
def State.holdForDemand (p n : Nat) (s : State) : State :=
  let s := s.hold n .demand
  let restoring := match s.oldestSource p with
    | none => false
    | some r => (s.record r).state == .restoring
  if restoring = true ∨ p ∈ s.sweep.demand ∨ Config.demandPages ≤ s.sweep.demand.length then s
  else (s.setSweep { s.sweep with demand := s.sweep.demand ++ [p] }).noteWork

/-- A preservation job joins the preservation queue, or the backlog while the queue is full (R63). -/
def State.queueJob (j : Job) (s : State) : State :=
  if s.wp.queue.length < Config.preserveJobs then (s.setWp { s.wp with queue := s.wp.queue ++ [j] }).noteWork
  else (s.setWp { s.wp with backlog := s.wp.backlog ++ [j] }).noteWork

/-- Allocate record `r`, already out of the free-frame queue, for write `n` on page `p` at mark slot `e`, and start the
preservation (R45, R50, R53, R57, R62). Every field takes a new value: what a record that reads FREE has kept from a fault in
the queue, its suspect bit among it, goes here and not before, the model's choice (log 31). -/
def State.allocate (r p n e : Nat) (s : State) : State :=
  let number := pageOf (s.entry n).address
  let s := s.putRec r ⟨.copying, some p, some number, some e, none, none, none, false, true⟩
  let s := (s.chainInsert p r).journalAppend e r
  let s := if s.pool.free.length < s.pool.lowWater.toNat then s.raise .framesLow else s
  let s := s.queueJob ⟨.preservation, r, number, s.framePage r, false⟩
  (s.hold n (.record r)).countPreserve (s.entry n).window

/-- What became of the head that was decided: it left its list, it stays, or it stays and took the returned frame. -/
inductive Verdict where
  | left | stays | took
  deriving DecidableEq, Repr

/-- The head `n` of page `p` leaves its list and is issued to address `a` (R112). -/
def State.issueHead (p n : Nat) (a : Addr) (s : State) : State := (s.popHead p n).issueTo n a

/-- No frame is free: FRAMES_EMPTY, then the exhaustion policy (R58, R69 to R71). -/
def State.exhausted (p n e : Nat) (s : State) : Verdict × State :=
  let s := s.raise .framesEmpty
  match s.wp.policy with
  | .refuse => (.left, ((s.captureEntry .refusal n).popHead p n).refuse n .exhausted)
  | .break =>
    let s := (s.damage e).setWp { s.wp with breaks := satInc s.wp.breaks }
    (.left, s.issueHead p n (s.entry n).address)
  | .wait =>
    let s := s.setEntry n { s.entry n with state := .frameWait, heldOn := none }
    (.stays, (s.setPool { s.pool with wait := s.pool.wait ++ [n] }).pressureCheck)

/-- The records that an allocation for page `p` at mark slot `e` reads: of the chain, down to the first whose mark sequence
is lower (R50), and a journal tail that the tables do not bear out (R43, R53). -/
def State.allocReads (s : State) (p e : Nat) : List Nat :=
  readUntil (fun x => decide (s.recSeq x < (s.slot e).seq)) (s.chainReads p) ++ s.rejected (s.slot e).tail

/-- Take the frame at hand, or the head of the free-frame queue (R45, R62). -/
def State.preserve (hand : Option Nat) (p n e : Nat) (s : State) : Verdict × State :=
  match hand with
  | some r => (.took, s.allocate r p n e)
  | none =>
    match s.pool.free with
    | r :: rest => (.stays, (s.setPool { s.pool with free := rest }).allocate r p n e)
    | [] => s.exhausted p n e

/-- The decision reaches step 6 (R62). A table fault met as the allocation reads chain and journal makes the decision one
of DEGRADED (R14, R43); without a frame nothing is read. -/
def preserveWith (flush : State → State) (hand : Option Nat) (p n e : Nat) (s : State) : Verdict × State :=
  if hand = none ∧ s.pool.free = [] then s.exhausted p n e
  else
    let s := checkRecsWith flush (s.allocReads p e) (some n) s
    if s.ctl.state = .degraded then (.left, s.issueHead p n (s.entry n).address) else s.preserve hand p n e

/-! ## The decision (R61) -/

/-- Steps 4 to 6 of R61, the chain head having been read in a state that is not DEGRADED. -/
def decideHeadWith (flush : State → State) (hand : Option Nat) (p n e : Nat) (s : State) : Verdict × State :=
  match s.chainTop p with
  | none => preserveWith flush hand p n e s
  | some r =>
    if (s.record r).state = .copying then (.stays, s.hold n (.record r))
    else if (s.record r).state = .valid ∧ s.resolved (s.record r) = some e then
      (.left, s.issueHead p n (s.entry n).address)
    else preserveWith flush hand p n e s

/-- Steps 2 to 6 of R61. -/
def decideMarksWith (flush : State → State) (hand : Option Nat) (p n : Nat) (s : State) : Verdict × State :=
  if s.ctl.state = .degraded then (.left, s.issueHead p n (s.entry n).address)
  else
    match s.effective (s.entry n).stamp with
    | none => (.left, s.issueHead p n (s.entry n).address)
    | some e =>
      let s := checkRecsWith flush (s.page p).chainHead.toList (some n) s
      if s.ctl.state = .degraded then (.left, s.issueHead p n (s.entry n).address)
      else decideHeadWith flush hand p n e s

/-- Decide write `n` at the head of page `p`'s wait list (R60, R61), with a returned record at hand or none. -/
def decideWriteWith (flush : State → State) (hand : Option Nat) (p n : Nat) (s : State) : Verdict × State :=
  if s.restoring = true then
    let s := checkRecsWith flush (s.sourceReads p) (some n) s
    if (s.sources p).isEmpty = true then decideMarksWith flush hand p n s else (.stays, s.holdForDemand p n)
  else decideMarksWith flush hand p n s

/-- Issue the read `n` at the head of page `p`'s wait list: in a restore phase to the frame of the page's oldest rollback
source, if it has one; to its own address otherwise (R11, R95). -/
def issueReadWith (flush : State → State) (p n : Nat) (s : State) : State :=
  if s.restoring = true then
    let s := checkRecsWith flush (s.sourceReads p) (some n) s
    match s.oldestSource p with
    | none => s.issueHead p n (s.entry n).address
    | some r => s.issueHead p n (addrAt (s.framePage r) (pageOffset (s.entry n).address))
  else s.issueHead p n (s.entry n).address

/-- Decide the head of page `p`'s wait list, and each next head, until one stays or the list is empty (R11, R12). A list
holds 128 entries at most. -/
def decidePageWith (flush : State → State) (p : Nat) : Nat → State → State
  | 0, s => s
  | k + 1, s =>
    let s := checkPageWith flush p (s.repaired p).waitHead s
    match (s.page p).waitHead with
    | none => s
    | some n =>
      if s.isListed n = false then s
      else
        match (s.entry n).kind with
        | .read => decidePageWith flush p k (issueReadWith flush p n s)
        | .write =>
          match decideWriteWith flush none p n s with
          | (.left, s) => decidePageWith flush p k s
          | (_, s) => s

/-- Enough rounds for any wait list or frame-wait queue: 128 entries (R107). -/
def listRounds : Nat := Config.entries + 1

/-- The writes in FRAME_WAIT leave the frame-wait queue, oldest first, and are issued; the requests behind each are
decided (R148, step 3). -/
def flushWaitersWith (flush : State → State) : Nat → State → State
  | 0, s => s
  | k + 1, s =>
    match s.pool.wait with
    | [] => s
    | n :: rest =>
      let s := s.setPool { s.pool with wait := rest }
      match (s.entry n).pst with
      | none => flushWaitersWith flush k (s.issue n)
      | some p =>
        let s := checkPageWith flush p (some n) s
        flushWaitersWith flush k (decidePageWith flush p listRounds (s.issueHead p n (s.entry n).address))

/-- The flush that the entry to DEGRADED makes. Its own decisions are made in DEGRADED, where a table fault only adds a
cause. -/
def flushWaiters (s : State) : State := flushWaitersWith id listRounds s

/-- The operations above with the flush in place. -/
def State.enterDegraded (cause : DegradedCause) (s : State) : State := enterDegradedWith flushWaiters (s.addCause cause)

def State.tableFault (s : State) : State := tableFaultWith flushWaiters s

def State.checkPage (p : Nat) (tag : Option Nat) (s : State) : State := checkPageWith flushWaiters p tag s

def State.checkRec (r : Nat) (tag : Option Nat) (s : State) : State := checkRecWith flushWaiters r tag s

def State.checkRecs (l : List Nat) (tag : Option Nat) (s : State) : State := checkRecsWith flushWaiters l tag s

def State.decidePage (p : Nat) (s : State) : State := decidePageWith flushWaiters p listRounds s

/-! ## Frame returns and freeing a record (R46, R47) -/

/-- A returned frame passes along the frame-wait queue, oldest first, until a write takes it or the queue is empty
(R47). Each entry meets it once at most. -/
def returnFrameFrom (r : Nat) : Nat → State → State
  | 0, s => s.setPool { s.pool with free := s.pool.free ++ [r] }
  | k + 1, s =>
    match s.pool.wait with
    | [] => s.setPool { s.pool with free := s.pool.free ++ [r] }
    | n :: rest =>
      let s := s.setPool { s.pool with wait := rest }
      match (s.entry n).pst with
      | none => returnFrameFrom r k s
      | some p =>
        let s := s.checkPage p (some n)
        match decideWriteWith flushWaiters (some r) p n s with
        | (.took, s) => s
        | (.left, s) => returnFrameFrom r k (s.decidePage p)
        | (.stays, s) => returnFrameFrom r k s

/-- Return the frame of record `r` (R47), unless the free-frame queue holds the record, which it does at most once (R44). -/
def State.returnFrame (r : Nat) (s : State) : State := if r ∈ s.pool.free then s else returnFrameFrom r listRounds s

/-- Take record `r` out of its page's chain; the records that this reads are checked (R51, R43). -/
def State.unlinkRec (r : Nat) (s : State) : State :=
  match (s.record r).pageIndex with
  | none => s
  | some p =>
    let s := s.checkPage p none
    (s.checkRecs (s.unlinkReads p r) none).chainUnlink p r

/-- Take record `r` out of its slot's journal (R54, R43). -/
def State.leaveJournal (r : Nat) (s : State) : State := (s.checkRecs (s.leaveReads r) none).journalRemove r

/-- A job that names record `r` is orphaned (log 26). -/
def Job.orphan (r : Nat) (j : Job) : Job := if j.record = r then { j with orphaned := true } else j

/-- Whether a job that waits or runs names record `r`. -/
def State.namesJob (s : State) (r : Nat) : Bool :=
  (s.wp.queue ++ s.wp.backlog).any (fun j => j.record == r) ||
    chanIds.any (fun c => match (s.chan c).job with
      | none => false
      | some j => j.record == r)

/-- The jobs that name record `r` are orphaned: they run on, and their ends find no record of theirs (log 26). -/
def State.orphanJobs (r : Nat) (s : State) : State :=
  if s.namesJob r = true then
    chanIds.foldl (fun s c => s.setChan c { s.chan c with job := (s.chan c).job.map (Job.orphan r) })
      (s.setWp { s.wp with queue := s.wp.queue.map (Job.orphan r), backlog := s.wp.backlog.map (Job.orphan r) })
  else s

/-- Record `r` takes the FREE values (R41, R46), which leaves a job of it, if there is one, without its record. -/
def State.clearRec (r : Nat) (s : State) : State := (s.setRec r .freed).orphanJobs r

/-- Free record `r` (R46). -/
def State.freeRecord (r : Nat) (s : State) : State :=
  (((s.unlinkRec r).leaveJournal r).clearRec r).returnFrame r

/-! ## Outcomes of preservations (R65, R66) -/

/-- A sweep that waits for record `r` waits no longer (R42, R82). -/
def State.stopWaiting (r : Nat) (s : State) : State :=
  if s.sweep.waitingOn = some r then s.setSweep { s.sweep with waitingOn := none } else s

/-- Decide page `p` again if a write HELD behind record `r` is at its head (R60, R65). -/
def State.redecideBehind (r : Nat) (p : Option Nat) (s : State) : State :=
  match p with
  | none => s
  | some p =>
    let s := s.checkPage p none
    match s.heldBehind p r with
    | none => s
    | some _ => s.decidePage p

/-- A preservation succeeds: the record becomes VALID, and the write HELD behind it is decided again (R65). -/
def State.preservationSuccess (r : Nat) (s : State) : State :=
  let s := (s.putRec r { s.record r with state := .valid }).stopWaiting r
  s.redecideBehind r (s.record r).pageIndex

/-- Step 4 of R66 for the write `n` that was HELD behind a failed record of slot `q`. -/
def State.afterFailure (p n : Nat) (q : Option Nat) (s : State) : State :=
  if s.ctl.state ≠ .degraded ∧ q.isSome = true ∧ s.effective (s.entry n).stamp = q then
    match s.wp.policy with
    | .refuse => (((s.captureEntry .refusal n).popHead p n).refuse n .preserveFailed).decidePage p
    | .break | .wait => (s.issueHead p n (s.entry n).address).decidePage p
  else s.decidePage p

/-- Capture a copy error of the page with a given number, with the tag of a write HELD behind the copy (R66, R99). Without a
page number there is no address and no window (log 29). -/
def State.captureCopy (held page : Option Nat) (s : State) : State :=
  s.capture .copy held (page.map (fun n => addrAt n 0)) (page.bind s.windowOf)

/-- Read the PST entry of a page, where there is one (R14). -/
def State.checkPageOf (p : Option Nat) (s : State) : State :=
  match p with
  | none => s
  | some p => s.checkPage p none

/-- A preservation fails (R66). -/
def State.preservationFailure (r : Nat) (s : State) : State :=
  let v := s.record r
  let s := s.checkPageOf v.pageIndex
  let held := v.pageIndex.bind (fun p => s.heldBehind p r)
  let s := (s.raise .preserveFail).captureCopy held v.pageNumber
  let q := s.slotOf v
  let s : State := match q with
    | none => s
    | some q => if s.wp.policy = .refuse then s else s.damage q
  let s := (s.freeRecord r).stopWaiting r
  match v.pageIndex, held with
  | some p, some n => s.afterFailure p n q
  | _, _ => s

/-! ## Outcomes of restores (R94, R99, R100) -/

/-- Change the rollback report (R103). -/
def State.editReport (f : Report → Report) (s : State) : State :=
  s.setSweep { s.sweep with report := f s.sweep.report }

/-- Decide page `p` again if a write HELD for a demand restore is at its head (R94). -/
def State.redecideDemand (p : Option Nat) (s : State) : State :=
  match p with
  | none => s
  | some p =>
    let s := s.checkPage p none
    if s.heldForDemand p = true then s.decidePage p else s

/-- The rollback report's count of pages restored rises by one (R94). -/
def State.countRestored (s : State) : State := s.editReport (fun t => { t with restored := t.restored + 1#16 })

/-- A restore succeeds: the target is freed and the page counted (R94). -/
def State.restoreSuccess (r : Nat) (s : State) : State :=
  let p := (s.record r).pageIndex
  ((s.freeRecord r).stopWaiting r).countRestored.redecideDemand p

/-- Append a page number to the restore fault list, or set the overflow flag; the fault count rises (R99, R100). With no
page number to append, list and flag stay as they are (log 29). -/
def State.appendFault (page : Option Nat) (s : State) : State :=
  let s := s.setSweep { s.sweep with faultCount := satInc s.sweep.faultCount }
  match page with
  | none => s
  | some n =>
    if s.sweep.faultList.length < Config.faultPages then
      s.setSweep { s.sweep with faultList := s.sweep.faultList ++ [n] }
    else s.setSweep { s.sweep with faultOverflow := true }

/-- Steps 2 to 4 of R99 for the page with a given number: the fault list, the flag, the counts and the capture. -/
def State.restoreFault (page : Option Nat) (s : State) : State :=
  let s := ((s.appendFault page).raise .restoreFault).editReport (fun t => { t with faults := t.faults + 1#16 })
  s.captureCopy none page

/-- A restore fails, or its target is not used (R99). -/
def State.restoreFailure (r : Nat) (s : State) : State :=
  let v := s.record r
  (((s.freeRecord r).stopWaiting r).restoreFault v.pageNumber).redecideDemand v.pageIndex

end Sys2Proof.Machine
end

