-- ==== Sys2Proof/Machine/Copy.lean ====
section
/-! DEFINITION. The copy engine (07, 7.1 and 7.2): the chunk sequence, the end of a job, the arbiter, and demand restores
and offers as a channel takes them (R92, R97). -/

namespace Sys2Proof.Machine

/-! ## Channels and their tags (R126) -/

/-- The four downstream tags of channel `c` (R126). -/
def chanTags (c : Nat) : List Nat := [128 + 4 * c, 129 + 4 * c, 130 + 4 * c, 131 + 4 * c]

/-- The channel that owns tag `t` (R126). -/
def chanOf (t : Nat) : Nat := (t - 128) / 4

/-- Whether a tag is in READ or WRITE use. -/
def TagUse.busy : TagUse → Bool
  | .read _ | .write _ => true
  | .free | .quarantined => false

/-- Whether channel `c` has a FREE tag. -/
def State.hasFreeTag (s : State) (c : Nat) : Bool := (chanTags c).any (fun t => (s.copyTag t).use == .free)

/-- Set a tag's use, its slot kept. -/
def State.useTag (t : Nat) (u : TagUse) (s : State) : State := s.setCopyTag t { s.copyTag t with use := u }

/-- A chunk has failed: the first failure moves the channel to STOPPING (R128). -/
def State.chunkFailed (c : Nat) (s : State) : State :=
  if (s.chan c).state = .running then s.setChan c { s.chan c with state := .stopping } else s

/-- Hand a chunk's request to the memory port on tag `t`; with the link down it ends at once and the chunk fails (R127,
R133). -/
def State.takeChunk (c t : Nat) (u : TagUse) (kind : ReqKind) (a : Addr) (masks : List (BitVec 64)) (data : List Byte)
    (s : State) : State :=
  if s.mem.up = true then (s.useTag t u).take t kind a 4 masks data else (s.useTag t .free).chunkFailed c

/-- Issue the read of the next chunk on tag `t` (R127). -/
def State.chunkRead (c t : Nat) (s : State) : State :=
  match (s.chan c).job with
  | none => s
  | some j =>
    let k := (s.chan c).nextChunk
    (s.setChan c { s.chan c with nextChunk := k + 1 }).takeChunk c t (.read k) .read
      (addrAt j.source (k * Config.chunkBytes)) [] []

/-- Every byte of four lines enabled (R127). -/
def fullMasks : List (BitVec 64) := List.replicate 4 (BitVec.allOnes 64)

/-- Issue the write of chunk `k` on tag `t` from its slot (R127). -/
def State.chunkWrite (c t k : Nat) (s : State) : State :=
  match (s.chan c).job with
  | none => s
  | some j =>
    s.takeChunk c t (.write k) .write (addrAt j.dest (k * Config.chunkBytes)) fullMasks (s.copyTag t).slot

/-- The PST index of a page number that a GUARD window holds (R9). -/
def State.guardIndex (s : State) (page : Nat) : Option Nat :=
  (s.windowOf page).bind (fun w => if (s.window w).mode = .guard then some (s.pstIndex w page) else none)

/-- The write HELD behind preservation job `j` is decided again, the page being the one that the job names (R60). -/
def State.redecideJob (j : Job) (s : State) : State := s.redecideBehind j.record (s.guardIndex j.source)

/-- Step 1 of R66 for a preservation job whose record has been freed meanwhile: the flag and the capture. -/
def State.orphanFailure (j : Job) (s : State) : State :=
  let p := s.guardIndex j.source
  let s := s.checkPageOf p
  (s.raise .preserveFail).captureCopy (p.bind (fun p => s.heldBehind p j.record)) (some j.source)

/-- Report the outcome of a job whose record has been freed meanwhile (R125): what the outcome brings beside the record, the
page being the one that the job names (R66, R94, R99; log 26). -/
def State.reportOrphan (j : Job) (ok : Bool) (s : State) : State :=
  match j.kind, ok with
  | .preservation, true => s.redecideJob j
  | .preservation, false => (s.orphanFailure j).redecideJob j
  | .restore, true => s.countRestored.redecideDemand (s.guardIndex j.dest)
  | .restore, false => (s.restoreFault (some j.dest)).redecideDemand (s.guardIndex j.dest)

/-- Report a job's outcome to the block that made it (R125). The completion finds its record by a read (R43). A record that
reads FREE does not become VALID (R42; log 26); every other outcome takes its steps with the fields as read. -/
def State.reportJob (j : Job) (ok : Bool) (s : State) : State :=
  if j.orphaned = true then s.reportOrphan j ok
  else
    let s := s.checkRec j.record none
    match j.kind, ok with
    | .preservation, true =>
      if (s.record j.record).state = .free then (s.stopWaiting j.record).redecideJob j
      else s.preservationSuccess j.record
    | .preservation, false => s.preservationFailure j.record
    | .restore, true => s.restoreSuccess j.record
    | .restore, false => s.restoreFailure j.record

/-- The channel gives up its job and becomes IDLE, or BLOCKED with all four tags QUARANTINED (R128, R129). -/
def State.idleChan (c : Nat) (s : State) : State :=
  s.setChan c { s.chan c with job := none, state := if s.hasFreeTag c = true then .idle else .blocked }

/-- The job of channel `c` is over when it has 16 chunks done, or is STOPPING with no tag in use (R128, R129). -/
def State.settleChan (c : Nat) (s : State) : State :=
  match (s.chan c).job with
  | none => s
  | some j =>
    if (chanTags c).any (fun t => (s.copyTag t).use.busy) = true then s
    else if (s.chan c).state = .running ∧ (s.chan c).done = Config.chunks then (s.idleChan c).reportJob j true
    else if (s.chan c).state = .stopping then (s.idleChan c).reportJob j false
    else s

/-- Channel `c` starts job `j`: a chunk read on each FREE tag, lowest first (R127). -/
def State.startJob (c : Nat) (j : Job) (s : State) : State :=
  let tags := (chanTags c).filter (fun t => (s.copyTag t).use == .free)
  let s := s.setChan c ⟨.running, some j, 0, 0⟩
  (tags.foldl (fun s t => s.chunkRead c t) s).settleChan c

/-- If chunks are left and the channel is RUNNING, read the next chunk on the tag that has become FREE (R127, R137). -/
def State.nextRead (c t : Nat) (s : State) : State :=
  if (s.chan c).state = .running ∧ (s.chan c).nextChunk < Config.chunks then s.chunkRead c t else s

/-- A chunk's request ends with anything but OK (R128, R129). -/
def State.chunkEndBad (c t : Nat) (e : ReqEnd) (s : State) : State :=
  (s.useTag t (if e = .timeoutQuarantined then .quarantined else .free)).chunkFailed c

/-- Channel tag `t` is told of the end of its request (R127 to R129). -/
def State.endChunk (t : Nat) (e : ReqEnd) (s : State) : State :=
  let c := chanOf t
  match (s.copyTag t).use, e with
  | .read k, .ok data =>
    if (s.chan c).state = .running then ((s.setCopyTag t ⟨.free, data⟩).chunkWrite c t k).settleChan c
    else (s.useTag t .free).settleChan c
  | .write _, .ok _ =>
    let s := (s.useTag t .free).setChan c { s.chan c with done := (s.chan c).done + 1 }
    (s.nextRead c t).settleChan c
  | .read _, e | .write _, e => (s.chunkEndBad c t e).settleChan c
  | _, _ => s

/-- Channel tag `t` is released from quarantine (R137, R131). -/
def State.releaseChunk (t : Nat) (s : State) : State :=
  let c := chanOf t
  match (s.copyTag t).use with
  | .quarantined =>
    let s := s.useTag t .free
    if (s.chan c).state = .blocked then s.setChan c { s.chan c with state := .idle } else s.nextRead c t
  | _ => s

/-! ## The arbiter (R130) -/

/-- The cursor moves past record `r`, which stays in its journal (R81, R92). -/
def State.passOver (r : Nat) (s : State) : State := (s.checkRecs (s.moveReads r) none).walkPast r

/-- Start the restore of target `r` in channel `c`: it becomes RESTORING, and an offer of it is withdrawn, the walk going
on past it (R92, R93, R97). The destination is the page whose number the record holds. A target whose page number reads none,
as only a corruption that its parity does not show can make it (R41), is copied to page 0, the model's choice (log 29). -/
def State.startRestore (c r : Nat) (s : State) : State :=
  let s := s.putRec r { s.record r with state := .restoring }
  let s := if s.sweep.offer = some r then (s.setSweep { s.sweep with offer := none }).passOver r else s
  s.startJob c ⟨.restore, r, s.framePage r, (s.record r).pageNumber.getD 0, false⟩

/-- The offer of target `r`, if it is on offer, is withdrawn. -/
def State.dropOffer (r : Nat) (s : State) : State :=
  if s.sweep.offer = some r then s.setSweep { s.sweep with offer := none } else s

/-- A target as a channel takes it: not used if it is suspect, restored otherwise (R41, R99). -/
def State.takeTarget (c r : Nat) (s : State) : State :=
  if (s.record r).suspect = true then (s.dropOffer r).restoreFailure r else s.startRestore c r

/-- Free a rollback source without a copy, and count it released (R92, R97). -/
def State.releaseSource (r : Nat) (s : State) : State :=
  (s.freeRecord r).editReport (fun t => { t with released := t.released + 1#16 })

/-- Whether the rollback sources of page `p` are all VALID: no other record is freed or restored by a demand (R42). -/
def State.sourcesValid (s : State) (p : Nat) : Bool := (s.sources p).all (fun r => (s.record r).state == .valid)

/-- Channel `c` takes the demand for page `p`, which has left the queue (R97). The newer sources are freed newest first, as
the chain walk meets them, the model's choice (log 33). Where a source is COPYING or RESTORING, none is freed and none
restored (R42): the entry is dropped, and the page waits for its restore in sweep order, the model's choice (log 30). -/
def State.takeDemand (c p : Nat) (s : State) : State :=
  let s := s.checkPage p none
  let s := s.checkRecs (s.sourceReads p) none
  match (s.sources p).reverse with
  | [] => s
  | r :: newer =>
    if s.sourcesValid p = false then s
    else
      let s := newer.reverse.foldl (fun s x => s.releaseSource x) s
      (s.editReport (fun t => { t with demands := t.demands + 1#16 })).takeTarget c r

/-- Channel `c` takes the head of the preservation queue; the oldest backlog job joins the queue's tail (R63, R130). -/
def State.takePreservation (c : Nat) (j : Job) (rest : List Job) (s : State) : State :=
  (s.setWp { s.wp with queue := rest ++ s.wp.backlog.take 1, backlog := s.wp.backlog.drop 1 }).startJob c j

/-- Channel `c` takes the restore on offer (R92, R130). An offered record that reads no longer VALID is not restored (R42):
the offer is withdrawn, and the walk, still at the record, treats it by its state, the model's choice (log 30). -/
def State.takeOffer (c r : Nat) (s : State) : State :=
  let s := s.checkRec r none
  if (s.record r).state = .valid then s.takeTarget c r else s.dropOffer r

/-- The lowest-numbered IDLE channel with a FREE tag (R130). -/
def State.idleChannel (s : State) : Option Nat :=
  chanIds.find? (fun c => (s.chan c).state == .idle && s.hasFreeTag c)

/-- The arbiter: while an IDLE channel and an available job remain, the demand queue first, then the preservation queue,
then the restore on offer (R130). -/
def arbitrateFrom : Nat → State → State
  | 0, s => s
  | k + 1, s =>
    match s.idleChannel with
    | none => s
    | some c =>
      match s.sweep.demand with
      | p :: rest => arbitrateFrom k ((s.setSweep { s.sweep with demand := rest }).takeDemand c p)
      | [] =>
        match s.wp.queue with
        | j :: rest => arbitrateFrom k (s.takePreservation c j rest)
        | [] =>
          match s.sweep.offer with
          | some r => arbitrateFrom k (s.takeOffer c r)
          | none => s

/-- Rounds enough for every job that is waiting or that the failures of those jobs can make: a decision follows from one
of 128 entries (log 23). -/
def State.arbiterRounds (s : State) : Nat :=
  s.wp.queue.length + s.wp.backlog.length + s.sweep.demand.length + 513

/-- The arbiter acts at the end of a step (R130, log 6). -/
def State.arbitrate (s : State) : State := arbitrateFrom s.arbiterRounds s

/-- The end of a step that can free channels, make jobs or free entries: the arbiter, the empty condition, the step's
credits (R109, R120, R130, log 6). -/
def State.finish (s : State) : State := s.arbitrate.checkIntake.sendCredits

/-! ## Memory-port link down at the channels (R139) -/

/-- Channel `c`'s job, if it has one, fails by link down: its tags in use become FREE (R139). -/
def State.failChan (c : Nat) (s : State) : State :=
  match (s.chan c).job with
  | none => s
  | some j =>
    let s := (chanTags c).foldl (fun s t => s.useTag t .free) s
    (s.idleChan c).reportJob j false

/-- Every QUARANTINED channel tag becomes FREE, and every BLOCKED channel IDLE (R139). -/
def State.releaseChannels (s : State) : State :=
  let s := (chanIds.flatMap chanTags).foldl
    (fun s t => if (s.copyTag t).use = .quarantined then s.useTag t .free else s) s
  chanIds.foldl
    (fun s c => if (s.chan c).state = .blocked then s.setChan c { s.chan c with state := .idle } else s) s

/-- The channels with a job. -/
def State.busyChannels (s : State) : List Nat := chanIds.filter (fun c => (s.chan c).job.isSome)

end Sys2Proof.Machine
end

