-- ==== Sys2Proof/Machine/Sweeps.lean ====
section
/-! DEFINITION. The sweep engine (05): acceptance of commits and rollbacks, the walk steps of the four walks, the start and
end of the restore phase, and the completion steps. A step whose occasion does not hold has no effect (log 3). -/

namespace Sys2Proof.Machine

/-! ## Slots in order of sequence -/

/-- Slots in increasing order of sequence (R85). -/
def State.bySeq (s : State) (l : List Nat) : List Nat := l.insertionSort (fun i j => (s.slot i).seq ≤ (s.slot j).seq)

/-- The slots in a given state. -/
def State.slotsIn (s : State) (st : SlotState) : List Nat := slotIds.filter (fun i => (s.slot i).state == st)

/-- Change the state of a list of slots. -/
def State.setSlotStates (st : SlotState) (l : List Nat) (s : State) : State :=
  l.foldl (fun s i => s.setSlot i { s.slot i with state := st }) s

/-- Free a list of slots (R18). -/
def State.freeSlots (l : List Nat) (s : State) : State := l.foldl (fun s i => s.setSlot i .freed) s

/-- Pass the damage of slot `q` on to `p` (R28). -/
def State.passDamage (q : Nat) (p : Option Nat) (s : State) : State :=
  match p with
  | none => s
  | some p => if (s.slot q).damaged = true then s.damage p else s

/-- The engine returns to idle, which is itself a pressure check (R80, R165). -/
def State.endSweep (f : EventFlag) (s : State) : State := (s.raise f).sweepIdle.pressureCheck

/-! ## Accepting a commit or a rollback (R37, R38, R85, R87) -/

/-- A commit sweep starts: every LIVE slot becomes RETIRING (R37, R85). -/
def State.startCommit (cause : Cause) (s : State) : State :=
  let live := s.bySeq s.liveSlots
  let order := live.map (fun q => (q, (s.slot q).head))
  let place := firstPlace order
  let t := s.setSlotStates .retiring live
  t.setSweep
    { t.sweep with
      kind := .commit, cause := some cause, phase := .walk, retiring := none, predecessor := none,
      order := order, cursor := place.map (fun e => e.2), walkSlot := place.map (fun e => e.1), walked := []
      waitingOn := none }

/-- Whether an entry joins the drain set of a rollback accepted now (R87). -/
def EntryState.drains : EntryState → Bool
  | .waiting | .held | .frameWait | .issued => true
  | _ => false

/-- A rollback to slot `q` starts its drain (R87). -/
def State.startRollback (q : Nat) (force drop : Bool) (s : State) : State :=
  s.setSweep
    { s.sweep with
      kind := .rollback, cause := some .rollback, phase := .drain, target := some q, force := force, drop := drop,
      order := [], cursor := none, walkSlot := none, walked := [], waitingOn := none, boundary := none,
      drainSet := entryIds.filter (fun n => (s.entry n).state.drains),
      report := ⟨(s.slot q).seq, 0#16, 0#16, 0#16, 0#16⟩ }

/-! ## Walks towards newer records: discard, MERGE, commit (R81, R82, R85, R102) -/

/-- Wait for the COPYING record `r` (R42, R82). -/
def State.waitFor (r : Nat) (s : State) : State := s.setSweep { s.sweep with waitingOn := some r }

/-- Whether the tables bear the cursor's record `r` out: it is not FREE, and the walk has not met it before (R43). A record
of another slot is walked as it is read (R84, R104). -/
def State.onWalk (s : State) (r : Nat) : Bool := s.walkLink s.sweep.walked (some r) == some r

/-- The walk of a journal ends at a record that the tables do not bear out (R43); the next journal follows. -/
def State.endJournal (s : State) : State := (s.checkRecs (s.startReads s.laterSlots) none).nextJournal

/-- Relabel record `r` to slot `p` (R55); the links and the tail it reads are checked (R43). -/
def State.moveTo (p r : Nat) (s : State) : State :=
  (s.checkRecs (s.leaveReads r ++ s.rejected (s.slot p).tail) none).relabel r p

/-- Treat the VALID record `r` of a slot being discarded: freed without a predecessor or where its page has a record
there, relabelled otherwise (R81). A record that names no page is freed, the model's choice (log 29). -/
def State.retireValid (r : Nat) (s : State) : State :=
  match s.sweep.predecessor, (s.record r).pageIndex with
  | some p, some x =>
    let s := s.checkPage x none
    let s := s.checkRecs (readUntil (fun y => (s.record y).slot == some p) (s.chainReads x)) none
    match s.recordAt x p with
    | some _ => s.freeRecord r
    | none => s.moveTo p r
  | _, _ => s.freeRecord r

/-- One step of a discard's or a MERGE's walk, at record `r` (R81, R102). A RESTORING record, which R81 excludes, is passed
over (log 30). -/
def State.retireStep (r : Nat) (s : State) : State :=
  let s := s.checkRec r none
  if s.onWalk r = false then s.endJournal
  else
    match (s.record r).state with
    | .copying => s.waitFor r
    | .valid => s.retireValid r
    | .restoring | .free => s.passOver r

/-- One step of a commit's walk, at record `r` (R85). A RESTORING record, which no rule admits there, is passed over
(log 30). -/
def State.commitStep (r : Nat) (s : State) : State :=
  let s := s.checkRec r none
  if s.onWalk r = false then s.endJournal
  else
    match (s.record r).state with
    | .copying => s.waitFor r
    | .valid => s.freeRecord r
    | .restoring | .free => s.passOver r

/-- A discard completes (R84). -/
def State.discardComplete (s : State) : State :=
  match s.sweep.retiring with
  | none => s.endSweep .sweepDone
  | some q => ((s.passDamage q s.sweep.predecessor).freeSlots [q]).endSweep .sweepDone

/-- A MERGE completes (R102). -/
def State.mergeComplete (s : State) : State :=
  match s.sweep.retiring with
  | none => s.endSweep .rollbackDone
  | some q => ((s.passDamage q s.sweep.predecessor).freeSlots [q]).endSweep .rollbackDone

/-! ## The completion of a commit (R23, R86, R153) -/

/-- The records inside the pool still not FREE, which a walk ended by a fault did not reach (R43, R86), and those that read
FREE though the free-frame queue does not hold them (R44), in increasing order of index, the model's choice (log 31). -/
def State.leftRecords (s : State) : List Nat :=
  (List.range s.pool.frames.toNat).filter (fun r => (s.record r).state != .free || !s.pool.free.contains r)

/-- The PST indices of the entries whose chain head is not none, in increasing order. -/
def State.chainedPages (s : State) : List Nat :=
  (s.pst.cells.filter (fun c => c.2.chainHead.isSome)).map (fun c => c.1)

/-- Every chain head is none at a commit's completion (R16, R43); an entry is read before it is rewritten (R14). The entries
are read in increasing order of PST index, and before the left-over records: the spec names no order, and this one decides
which of several faults the first-error record holds, the model's choice (log 31). -/
def State.clearChains (s : State) : State :=
  let s := s.chainedPages.foldl (fun s p => s.checkPage p none) s
  { s with
    pst := s.pst.mapCells .clear
      (fun _ e => if e.chainHead = none then e else { e with chainHead := none, parityOk := true }) }

/-- The records left over are read and freed (R43), the lowest index first: the spec names no order, and the order is that
of the free-frame queue afterwards (log 31). -/
def State.freeLeft (s : State) : State :=
  let s := s.clearChains
  s.leftRecords.foldl (fun s r => ((s.checkRec r none).clearRec r).returnFrame r) s

/-- Every transaction entry's stamp becomes 0 (R23, R146). -/
def State.zeroStamps (s : State) : State :=
  { s with entries := s.entries.mapCells .freed (fun _ e => { e with stamp := 0#32 }) }

/-- Every CENSUS touch stamp becomes 0 (R16). -/
def State.zeroTouches (s : State) : State :=
  { s with pst := s.pst.mapCells .clear (fun _ e => { e with touch := 0#32 }) }

/-- The sequence restarts: counter, stamps, touch stamps (R23). -/
def State.sequenceRestart (s : State) : State := { s.zeroStamps.zeroTouches with nextSeq := 1#32 }

/-- State control after a RECOVER sweep (R153). -/
def State.recoverComplete (s : State) : State :=
  let c := s.ctl
  let t := if c.spoiled = false then
      s.setCtl
        { c with state := .guarding, causeLink := false, causeTable := false, causeCommand := false, tableFault := false }
    else
      enterDegradedWith flushWaiters (s.setCtl
        { c with
          causeLink := c.linkLost, causeTable := c.faultDuring, causeCommand := false
          tableFault := c.faultDuring && c.tableFault })
  t.setCtl { t.ctl with spoiled := false, faultDuring := false, linkLost := false }

/-- A commit completes (R86), and with it a RECOVER (R153). -/
def State.commitComplete (s : State) : State :=
  let s := s.freeLeft
  let s := (s.freeSlots (s.slotsIn .retiring)).sequenceRestart
  let recover := s.sweep.cause == some .recover
  let s := (s.raise .sweepDone).sweepIdle
  (if recover = true then s.recoverComplete else s).pressureCheck

/-- A commit with no slot to walk goes straight to its completion step (R85). -/
def State.commitIfEmpty (s : State) : State := if s.sweep.order.isEmpty = true then s.commitComplete else s

/-! ## The restore phase (R91, R92, R101) -/

/-- Whether a job of a given kind is in a channel. -/
def State.jobInChannel (s : State) (k : JobKind) : Bool :=
  chanIds.any (fun c => match (s.chan c).job with
    | none => false
    | some j => j.kind == k)

/-- The drain has ended (R89). -/
def State.drained (s : State) : Bool :=
  s.sweep.drainSet.isEmpty && s.wp.queue.isEmpty && s.wp.backlog.isEmpty && !s.jobInChannel .preservation

/-- A request joins its page's wait list: stamp, hold deadline, place, count, and the decision if it is the head (R10,
R24, R117). -/
def State.joinList (p n : Nat) (s : State) : State :=
  let s := s.checkPage p (some n)
  let first := (s.page p).waitHead.isNone
  let s := s.setEntry n
    { s.entry n with
      state := .waiting, stamp := s.stampNow, next := none, deadline := some (s.now + orMax s.port.holdTimeout) }
  let s := (s.waitAppend p n).countRequest (s.entry n).kind (s.entry n).window
  if first = true then s.decidePage p else s

/-- Unpark one entry (R91). -/
def State.unpark (n : Nat) (s : State) : State :=
  match (s.entry n).pst with
  | none => s
  | some p => s.joinList p n

/-- The LIVE slots with sequence not below slot `q`'s (R28). -/
def State.liveFrom (s : State) (q : Nat) : List Nat :=
  s.liveSlots.filter (fun i => decide ((s.slot q).seq ≤ (s.slot i).seq))

/-- The marks at and above target `q` when the restore phase starts: inherited damage, and the newer ones UNWINDING (R28,
R91). -/
def State.unwind (q : Nat) (s : State) : State :=
  let s := if (s.liveFrom q).any (fun i => (s.slot i).damaged) = true then s.damage q else s
  s.setSlotStates .unwinding ((s.liveFrom q).filter (fun i => i != q))

/-- The walk order of a restore to slot `q`: the UNWINDING slots, newest first, then `q`, each from its journal tail
(R91). -/
def State.restoreOrder (s : State) (q : Nat) : List (Nat × Option Nat) :=
  ((s.bySeq (s.slotsIn .unwinding)).reverse ++ [q]).map (fun i => (i, s.journalLink (s.slot i).tail))

/-- The journal tails that the start of a restore reads and the tables do not bear out (R43). -/
def State.tailReads (s : State) (q : Nat) : List Nat :=
  (s.slotsIn .unwinding ++ [q]).flatMap (fun i => s.rejected (s.slot i).tail)

/-- The sweep engine enters the restore phase: the walk order, the cursor, the source boundary, and no request parked any
more (R91). -/
def State.enterRestore (q : Nat) (s : State) : State :=
  let order := s.restoreOrder q
  let place := firstPlace order
  s.setSweep
    { s.sweep with
      phase := .restore, order := order, cursor := place.map (fun e => e.2), walkSlot := place.map (fun e => e.1)
      walked := [], boundary := s.journalLink (s.slot q).tail, park := [] }

/-- The restore phase of a rollback to slot `q` starts, and the requests that were parked join their lists, the oldest
first (R91). -/
def State.beginRestore (q : Nat) (s : State) : State :=
  let s := s.unwind q
  let s := s.checkRecs (s.tailReads q) none
  s.sweep.park.foldl (fun s n => s.unpark n) (s.enterRestore q)

/-- Treat the VALID record `r` under the restore walk: released if its page holds an older source, offered otherwise (R92),
or, if suspect, not used (R99). A record that is no source, which a link out of the journal brings, is passed over
(log 30). The model's choice too is a source that its page's chain, cut by a table fault, no longer holds, or whose page index
reads none: it is released where the chain holds a source, and otherwise offered or, if suspect, not used (log 30). -/
def State.restoreValid (r : Nat) (s : State) : State :=
  let s : State := match (s.record r).pageIndex with
    | none => s
    | some x =>
      let s := s.checkPage x none
      s.checkRecs (s.sourceReads x) none
  let oldest := (s.record r).pageIndex.bind s.oldestSource
  if s.isSource r = false ∧ (s.record r).suspect = false then s.passOver r
  else if oldest ≠ none ∧ oldest ≠ some r then s.releaseSource r
  else if (s.record r).suspect = true then s.restoreFailure r
  else (s.setSweep { s.sweep with offer := some r }).noteWork

/-- One step of the restore walk, at record `r` (R92). A sweep that reaches a COPYING record waits until it is VALID or FREE
(R42). -/
def State.restoreStep (r : Nat) (s : State) : State :=
  let s := s.checkRec r none
  if s.onWalk r = false then s.endJournal
  else
    match (s.record r).state with
    | .copying => s.waitFor r
    | .valid => s.restoreValid r
    | .restoring | .free => s.passOver r

/-- The restore phase has ended (R101). -/
def State.restoreOver (s : State) : Bool :=
  s.sweep.cursor.isNone && s.sweep.demand.isEmpty && s.sweep.offer.isNone && !s.jobInChannel .restore

/-- The MERGE phase of a rollback to slot `q` starts (R102); with an empty journal it completes at once. -/
def State.beginMerge (q : Nat) (s : State) : State :=
  let p := s.olderLive q
  let s := s.setSlotStates .retiring [q]
  let head := (s.slot q).head
  let s := s.setSweep
    { s.sweep with
      phase := .merge, retiring := some q, predecessor := p, order := [(q, head)], cursor := head, walkSlot := some q
      walked := [], waitingOn := none, boundary := none }
  if head = none then s.mergeComplete else s

/-- The end step of the restore phase (R101). -/
def State.endRestore (s : State) : State :=
  let s := s.freeSlots (s.slotsIn .unwinding)
  match s.sweep.drop, s.sweep.target with
  | true, some q => s.beginMerge q
  | _, _ => s.endSweep .rollbackDone

/-! ## The six rows -/

/-- DISCARD_WALK_STEP (R81, R82, R84). -/
def execDiscardWalkStep (s : State) : Host.Outcome State Fault Refusal :=
  if s.sweep.kind = .discard ∧ s.sweep.waitingOn = none then
    match s.sweep.cursor with
    | none => .next s.discardComplete.finish
    | some r => .next (s.retireStep r).finish
  else .next s

/-- COMMIT_WALK_STEP (R85, R86). -/
def execCommitWalkStep (s : State) : Host.Outcome State Fault Refusal :=
  if s.sweep.kind = .commit ∧ s.sweep.waitingOn = none then
    match s.sweep.cursor with
    | none => .next s.commitComplete.finish
    | some r => .next (s.commitStep r).finish
  else .next s

/-- RESTORE_PHASE_START (R89, R91). -/
def execRestorePhaseStart (s : State) : Host.Outcome State Fault Refusal :=
  if s.sweep.kind = .rollback ∧ s.sweep.phase = .drain ∧ s.drained = true then
    match s.sweep.target with
    | none => .next s
    | some q => .next (s.beginRestore q).finish
  else .next s

/-- RESTORE_WALK_STEP (R42, R92). The walk stands still while a restore is on offer, and while it waits for a record. -/
def execRestoreWalkStep (s : State) : Host.Outcome State Fault Refusal :=
  if s.restoring = true ∧ s.sweep.offer = none ∧ s.sweep.waitingOn = none then
    match s.sweep.cursor with
    | none => .next s
    | some r => .next (s.restoreStep r).finish
  else .next s

/-- RESTORE_PHASE_END (R101, R102). -/
def execRestorePhaseEnd (s : State) : Host.Outcome State Fault Refusal :=
  if s.restoring = true ∧ s.restoreOver = true then .next s.endRestore.finish else .next s

/-- MERGE_WALK_STEP (R102). -/
def execMergeWalkStep (s : State) : Host.Outcome State Fault Refusal :=
  if s.sweep.kind = .rollback ∧ s.sweep.phase = .merge ∧ s.sweep.waitingOn = none then
    match s.sweep.cursor with
    | none => .next s.mergeComplete.finish
    | some r => .next (s.retireStep r).finish
  else .next s

end Sys2Proof.Machine
end

