-- ==== Sys2Proof/Machine/Requests.lean ====
section
/-! DEFINITION. The request port's events (01, 1.2 and 1.5; 06): arrivals and their classes, misdirected and unknown
messages, the hold timeout, link down and link up. -/

namespace Sys2Proof.Machine

/-! ## Classes (R3 to R7, R15, R88) -/

/-- The class of a window's mode (R3). -/
def Mode.toClass : Mode → ReqClass
  | .pass => .pass
  | .guard => .guard
  | .census => .census
  | .fence => .fence

/-- Classify a page: class and window (R3; R4 in CONFIG). -/
def State.classify (s : State) (page : Nat) : ReqClass × Option Nat :=
  if s.ctl.state = .config then (.passThrough, none)
  else if s.poolHolds page = true then (.pool, none)
  else
    match s.windowOf page with
    | none => (.unwindowed, none)
    | some w => ((s.window w).mode.toClass, some w)

/-- The PST index recorded with a class (R9). -/
def State.classIndex (s : State) (c : ReqClass) (w : Option Nat) (page : Nat) : Option Nat :=
  match c, w with
  | .guard, some w => some (s.pstIndex w page)
  | .census, some w => some (s.pstIndex w page)
  | _, _ => none

/-- A request as it arrives: tag, kind, length code, address, masks and data, and whether its payload has the form its
header calls for (R105, R180). -/
structure Arrival where
  tag : Byte
  kind : ReqKind
  len : BitVec 2
  address : Addr
  masks : List (BitVec 64)
  data : List Byte
  payloadGood : Bool
  deriving DecidableEq, Repr

/-- The entry that an accepted request fills, before its class is handled (R107). -/
def Arrival.entry (a : Arrival) (c : Option ReqClass) (w p : Option Nat) : Entry :=
  { Entry.freed with
    state := .parked, kind := a.kind, address := a.address, lines := lenLines a.len, masks := a.masks, data := a.data,
    cls := c, window := w, pst := p }

/-- A census write (R15, R24): stamped, counted, and a touch where the page's touch stamp differs from the effective
mark's sequence. -/
def State.censusWrite (n p : Nat) (w : Option Nat) (s : State) : State :=
  let s := (s.setEntry n { s.entry n with stamp := s.stampNow }).countWrite w
  match s.effective (s.entry n).stamp with
  | none => s
  | some e =>
    if (s.page p).touch = (s.slot e).seq then s
    else (s.setPage p { s.page p with touch := (s.slot e).seq }).countPreserve w

/-- Refuse a request at acceptance: its flag, a refusal capture, and the completion (R5, R7). -/
def State.refuseNow (n : Nat) (f : EventFlag) (reason : Reason) (s : State) : State :=
  ((s.raise f).captureEntry .refusal n).refuse n reason

/-- Park a guarded request during a rollback drain (R88, R117). -/
def State.parkEntry (n : Nat) (s : State) : State :=
  (s.setEntry n { s.entry n with state := .parked, deadline := some (s.now + orMax s.port.holdTimeout) }).setSweep
    { s.sweep with park := s.sweep.park ++ [n] }

/-- Whether a rollback is draining (R88). -/
def State.draining (s : State) : Bool := s.sweep.kind == .rollback && s.sweep.phase == .drain

/-- Handle an accepted request by its class (R4 to R7, R10, R15, R88). -/
def State.handleClass (n : Nat) (s : State) : State :=
  let e := s.entry n
  match e.cls, e.kind, e.pst with
  | some .pool, _, _ => s.refuseNow n .poolAccess .pool
  | some .pass, k, _ => (s.countRequest k e.window).issue n
  | some .fence, .read, _ => (s.countRead e.window).issue n
  | some .fence, .write, _ => s.refuseNow n .fenceRefused .fence
  | some .census, .read, _ => (s.countRead e.window).issue n
  | some .census, .write, some p => (s.censusWrite n p e.window).issue n
  | some .guard, _, some p => if s.draining = true then s.parkEntry n else s.joinList p n
  | _, _, _ => s.issue n

/-- Accept a well-formed request into its entry and handle it (R110, test 5). -/
def State.acceptRequest (n : Nat) (a : Arrival) (s : State) : State :=
  let page := pageOf a.address
  let c := s.classify page
  ((s.setEntry n (a.entry (some c.1) c.2 (s.classIndex c.1 c.2 page))).noteWork).handleClass n

/-- Accept a malformed request and complete it at once REFUSED/PROTOCOL (R110, test 4). -/
def State.acceptMalformed (n : Nat) (a : Arrival) (s : State) : State :=
  (((s.setEntry n (a.entry none none none)).noteWork).protocolError (some n) (some a.address)).refuse n .protocol

/-- A tag as a capture holds it: none above 127 (R110). -/
def capturedTag (t : Byte) : Option Nat := if t.toNat < Config.entries then some t.toNat else none

/-- A READ or WRITE arrives (R110, R111, R180). While the link is down no message is received (R105). -/
def State.arrive (a : Arrival) (s : State) : State :=
  let n := a.tag.toNat
  if s.port.up = false then s
  else if s.port.credits = 0 then s.protocolError (capturedTag a.tag) (some a.address)
  else
    let s := s.setPort { s.port with credits := s.port.credits - 1 }
    if Config.entries ≤ n ∨ (s.entry n).state ≠ .free then
      (s.protocolError (capturedTag a.tag) (some a.address)).earnCredit.sendCredits
    else if formOk a.len a.address = true ∧ a.payloadGood = true then (s.acceptRequest n a).finish
    else (s.acceptMalformed n a).finish

/-- READ (R110). A READ that carries a payload is malformed (R180). -/
def execRead (tag : Byte) (len : BitVec 2) (addr : Addr) (payload : List Byte) (s : State) :
    Host.Outcome State Fault Refusal :=
  .next (s.arrive ⟨tag, .read, len, addr, [], [], payload.isEmpty⟩)

/-- WRITE (R110). A WRITE needs one mask and 64 data bytes per line (R180). -/
def execWrite (tag : Byte) (len : BitVec 2) (addr : Addr) (masks : List (BitVec 64)) (data : List Byte) (s : State) :
    Host.Outcome State Fault Refusal :=
  .next (s.arrive ⟨tag, .write, len, addr, masks, data, payloadOk len masks data⟩)

/-- MISDIRECTED_UPSTREAM_MESSAGE: a COMPLETION or CREDIT on the request port (R105). -/
def execMisdirectedUpstreamMessage (_type : BitVec 4) (s : State) : Host.Outcome State Fault Refusal :=
  if s.port.up = false then .next s else .next (s.protocolError none none)

/-- UNKNOWN_TYPE_MESSAGE on either port (R180). -/
def execUnknownTypeMessage (port : LinkPort) (_type : BitVec 4) (s : State) : Host.Outcome State Fault Refusal :=
  if (match port with | .request => s.port.up | .memory => s.mem.up) = false then .next s
  else .next (s.protocolError none none)

/-! ## Hold timeout (R118) -/

/-- Whether a deadline has been reached (R117, R136). -/
def State.expired (s : State) (d : Option Nat) : Bool :=
  match d with
  | none => false
  | some t => decide (t ≤ s.now)

/-- Complete entry `n` REFUSED/HOLD_TIMEOUT, with flag and capture (R118, steps 2 to 4). -/
def State.holdExpired (n : Nat) (s : State) : State :=
  ((s.raise .holdTimeout).captureEntry .timeout n).refuse n .holdTimeout

/-- The hold timeout of an entry in a wait list (R118). A table fault found as the list is read may have issued the entry
by entering DEGRADED; the timeout then does not happen (R119). -/
def State.holdListed (p n : Nat) (s : State) : State :=
  let s := s.checkPage p (some n)
  if s.isListed n = false then s
  else
    let head := (s.page p).waitHead == some n
    let s := s.setPool { s.pool with wait := s.pool.wait.filter (fun x => x != n) }
    let s := (s.waitRemove p n).holdExpired n
    if head = true then s.decidePage p else s

/-- The hold timeout of a PARKED entry (R88, R118). -/
def State.holdParked (n : Nat) (s : State) : State :=
  (s.setSweep { s.sweep with park := s.sweep.park.filter (fun x => x != n) }).holdExpired n

/-- HOLD_TIMEOUT (R118); no effect before the deadline (log 4). -/
def execHoldTimeout (n : Nat) (s : State) : Host.Outcome State Fault Refusal :=
  if s.expired (s.entry n).deadline = true then
    match (s.entry n).state, (s.entry n).pst with
    | .parked, _ => .next (s.holdParked n).finish
    | .waiting, some p | .held, some p | .frameWait, some p => .next (s.holdListed p n).finish
    | _, _ => .next s
  else .next s

/-! ## Link down and up (R109, R121, R123) -/

/-- What a request-port link down does to entry `n` (R121). -/
def State.orphanOrFree (n : Nat) (s : State) : State :=
  match (s.entry n).state with
  | .parked | .waiting | .held | .frameWait => s.freeEntry n
  | .issued => (s.setEntry n { s.entry n with state := .orphaned }).leaveDrain n
  | .free | .quarantined | .orphaned => s

/-- Every wait list becomes empty (R12, R121). The entries are rewritten with sound parity and are not read, so none is
checked, the model's choice (log 24). -/
def State.emptyWaitLists (s : State) : State :=
  { s with
    pst := s.pst.mapCells .clear (fun _ e =>
      if e.waitHead = none ∧ e.waitTail = none then e
      else { e with waitHead := none, waitTail := none, parityOk := true }) }

/-- The port's counts, the park list and the frame-wait queue at a link down (R109, R121). -/
def State.portDown (s : State) : State :=
  let s := s.setPort { s.port with up := false, credits := 0, owed := 0, due := 0 }
  (s.setSweep { s.sweep with park := [] }).setPool { s.pool with wait := [] }

/-- REQUEST_PORT_LINK_DOWN (R121). -/
def execRequestPortLinkDown (s : State) : Host.Outcome State Fault Refusal :=
  if s.port.up = false then .next s
  else
    let t := s.portDown.emptyWaitLists
    .next ((entryIds.foldl (fun s n => s.orphanOrFree n) t).raise .linkChange).finish

/-- Credits advertised at link up (R109). -/
def State.advertise (s : State) : State :=
  let n := s.freeEntries
  if s.port.intake = .opened then
    s.setPort { s.port with credits := n, sent := if n = 0 then s.port.sent else s.port.sent ++ [.credit n] }
  else s.setPort { s.port with owed := n }

/-- REQUEST_PORT_LINK_UP (R123). -/
def execRequestPortLinkUp (s : State) : Host.Outcome State Fault Refusal :=
  if s.port.up = true then .next s
  else .next (((s.setPort { s.port with up := true }).advertise).raise .linkChange)

end Sys2Proof.Machine
end

