-- ==== Sys2Proof/Machine/MemoryPort.lean ====
section
/-! DEFINITION. The memory port's events (07, 7.3 to 7.7): sending, completions, retries, late and unknown responses, the
response timeout, credits, link down and link up. -/

namespace Sys2Proof.Machine

/-! ## The end of a request, told to its owner (R132, R134) -/

/-- Tell the owner of tag `t` how its request ended: a transaction entry, or a copy channel (R132). -/
def State.tellOwner (t : Nat) (e : ReqEnd) (s : State) : State :=
  if t < Config.entries then s.endEntry t e else s.endChunk t e

/-- Tell the owner of tag `t` that the tag is released (R137). -/
def State.tellReleased (t : Nat) (s : State) : State :=
  if t < Config.entries then s.releaseEntry t else s.releaseChunk t

/-- The request on tag `t` ends, and the tag becomes IDLE (R134). -/
def State.endTag (t : Nat) (e : ReqEnd) (s : State) : State := (s.idleTag t).tellOwner t e

/-- The request on tag `t` ends with an error (R134, R135). -/
def State.endError (t : Nat) (s : State) : State :=
  (s.setMem { s.mem with errorCount := satInc s.mem.errorCount }).endTag t .error

/-- The tag number range, 0 to 143 (R132). -/
def tagIds : List Nat := List.range Config.tags

/-! ## Sending (R133) -/

/-- SEND_REQUEST: the port sends the head of the send queue (R133). -/
def execSendRequest (s : State) : Host.Outcome State Fault Refusal :=
  match s.mem.sendQueue with
  | [] => .next s
  | t :: rest =>
    if s.mem.up = false ∨ s.mem.credits = 0 then .next s
    else
      let r := s.tag t
      .next ((s.setTag t { r with state := .outstanding }).setMem
        { s.mem with
          credits := s.mem.credits - 1, sendQueue := rest,
          sent := s.mem.sent ++ [⟨t, r.kind, r.address, r.lines, r.masks, r.data⟩] })

/-! ## Completions (R134, R135, R137) -/

/-- Count a late or unknown response and flag it (R137). -/
def State.countLate (s : State) : State :=
  (s.setMem { s.mem with lateCount := satInc s.mem.lateCount }).raise .lateResponse

/-- A late response: counted, and the tag released (R137). -/
def State.lateResponse (t : Nat) (s : State) : State := ((s.countLate).idleTag t).tellReleased t

/-- A RETRY below the limit: the request rejoins the send queue at the place its take order gives (R135). -/
def State.requeue (t : Nat) (s : State) : State :=
  let r := s.tag t
  (s.setTag t { r with state := .queued, retries := r.retries + 1, deadline := some s.responseDeadline }).setMem
    { s.mem with
      retryCount := satInc s.mem.retryCount,
      sendQueue := s.mem.takeList.filter (fun x => x == t || s.mem.sendQueue.contains x) }

/-- Whether a read's data holds exactly 64 bytes for each line (R180). -/
def TagRecord.dataGood (r : TagRecord) (data : List Byte) : Bool :=
  r.kind == .write || data.length == r.lines * Config.lineBytes

/-- A response to an OUTSTANDING tag (R134, R135, R180). A RETRY whose tag has more retries than a limit lowered meanwhile
ends the request as at the limit, the model's choice (log 34). -/
def State.respond (t : Nat) (status : BitVec 4) (data : List Byte) (s : State) : State :=
  if status = 0#4 then
    if (s.tag t).dataGood data = true then (s.endTag t (.ok data)).finish else (s.endError t).finish
  else if status = 3#4 then
    if (s.tag t).retries < s.mem.retryLimit.toNat then s.requeue t else (s.endError t).finish
  else (s.endError t).finish

/-- COMPLETION received on the memory port (R134). The reason is ignored (R180). -/
def execCompletion (tag : Byte) (status : BitVec 4) (_reason : BitVec 4) (data : List Byte) (s : State) :
    Host.Outcome State Fault Refusal :=
  let t := tag.toNat
  if s.mem.up = false then .next s
  else if Config.tags ≤ t then .next s.countLate
  else
    match (s.tag t).state with
    | .outstanding => .next (s.respond t status data)
    | .quarantined => .next (s.lateResponse t).finish
    | .idle | .queued => .next s.countLate

/-- CREDIT received on the memory port (R140, R180). -/
def execCredit (count : BitVec 16) (s : State) : Host.Outcome State Fault Refusal :=
  if s.mem.up = false then .next s
  else .next (s.setMem { s.mem with credits := min 65535 (s.mem.credits + count.toNat) })

/-- MISDIRECTED_DOWNSTREAM_MESSAGE: a READ or WRITE on the memory port (R134). -/
def execMisdirectedDownstreamMessage (_type : BitVec 4) (s : State) : Host.Outcome State Fault Refusal :=
  if s.mem.up = false then .next s else .next (s.protocolError none none)

/-! ## Response timeout (R136) -/

/-- The counter, the flag and, for a transaction entry, the capture of an expired response deadline (R136). -/
def State.countTimeout (t : Nat) (s : State) : State :=
  let s := (s.setMem { s.mem with timeoutCount := satInc s.mem.timeoutCount }).raise .memTimeout
  if t < Config.entries then s.captureEntry .timeout t else s

/-- An OUTSTANDING tag is quarantined: its request has ended and left the take list (R133, R136). -/
def State.quarantineTag (t : Nat) (s : State) : State :=
  (s.setTag t { s.tag t with state := .quarantined, deadline := none }).setMem
    { s.mem with takeList := s.mem.takeList.filter (fun x => x != t) }

/-- RESPONSE_TIMEOUT of tag `t` (R136); no effect before the deadline (log 4). -/
def execResponseTimeout (t : Nat) (s : State) : Host.Outcome State Fault Refusal :=
  if t < Config.tags ∧ s.expired (s.tag t).deadline = true then
    match (s.tag t).state with
    | .queued => .next ((s.countTimeout t).endTag t .timeoutQueued).finish
    | .outstanding => .next (((s.countTimeout t).quarantineTag t).tellOwner t .timeoutQuarantined).finish
    | .idle | .quarantined => .next s
  else .next s

/-! ## Link down and up (R139, R140, R150) -/

/-- The owners of tags 0 to 127 are told of a link down, the tag's state before it given (R139). -/
def State.downEntry (n : Nat) (before : TagState) (s : State) : State :=
  match before with
  | .idle => s
  | .queued | .outstanding => s.endEntry n .linkDown
  | .quarantined => s.releaseEntry n

/-- The port's own step at a link down: tags IDLE, queues empty, credits 0 (R139). -/
def State.memDown (s : State) : State :=
  { s with tags := .empty }.setMem { s.mem with up := false, credits := 0, takeList := [], sendQueue := [] }

/-- The memory-port link down at the transaction entries (R139; ascending order, log 7). -/
def State.downEntries (s : State) : State :=
  entryIds.foldl (fun t n => t.downEntry n (s.tag n).state) s.memDown

/-- The memory-port link down at state control (R150). -/
def State.linkDownControl (s : State) : State :=
  match s.ctl.state with
  | .config => s
  | .guarding => s.enterDegraded .link
  | .degraded => s.addCause .link
  | .recovering => s.setCtl { s.ctl with spoiled := true, linkLost := true }

/-- The first `k` failures that the link down brings are taken: the channels with a job in ascending order, then the jobs
that the arbiter gives (R73, R139, log 5). -/
def State.takeFailures (k : Nat) (s : State) : State :=
  let busy := s.busyChannels
  let t := (busy.take k).foldl (fun s c => s.failChan c) s
  arbitrateFrom (k - busy.length) t

/-- MEMORY_PORT_LINK_DOWN (R139, R150), with `failuresFirst` failures taken before the entry to DEGRADED (R73). -/
def execMemoryPortLinkDown (failuresFirst : Nat) (s : State) : Host.Outcome State Fault Refusal :=
  if s.mem.up = false then .next s
  else
    let t := (s.downEntries.raise .linkChange).releaseChannels
    let t := (t.takeFailures failuresFirst).linkDownControl
    .next (t.busyChannels.foldl (fun s c => s.failChan c) t).finish

/-- MEMORY_PORT_LINK_UP (R140). -/
def execMemoryPortLinkUp (s : State) : Host.Outcome State Fault Refusal :=
  if s.mem.up = true then .next s else .next ((s.setMem { s.mem with up := true }).raise .linkChange)

end Sys2Proof.Machine
end

