-- ==== Sys2Proof/Machine/Time.lean ====
section
/-! DEFINITION. The time base, the sampling timer, the interval end, the auto-mark scheduler, and the writes of the sampler
and scheduler control words (09). -/

namespace Sys2Proof.Machine

/-! ## The interval end (R159 to R165) -/

/-- The latch: every last-interval counter takes its running counter, which becomes 0 (R160). -/
def State.latch (s : State) : State :=
  { s with activity := s.activity.mapCells .zero (fun _ a => ⟨.zero, a.running⟩) }.raise .sampleEnd

/-- The guarded write total: the last-interval writes of the enabled GUARD windows (R163). -/
def State.guardedTotal (s : State) : Nat :=
  ((windowIds.filter (fun w => (s.window w).enable && (s.window w).mode == .guard)).map
    (fun w => (s.act w).last.writes.toNat)).sum

/-- How a mark claim's result reads as the scheduler's last outcome (R164). -/
def Result.toOutcome : Result → AutoOutcome
  | .done => .taken
  | .badState => .badState
  | .busy => .busy
  | .seqLimit => .seqLimit
  | .stackFull => .stackFull
  | _ => .none

/-- The counters after a due mark is taken or missed (R164). -/
def State.autoEnd (o : AutoOutcome) (s : State) : State :=
  s.setSched { s.sched with outcome := o, periodCounter := s.sched.period, deferrals := 0#4 }

/-- A due mark is taken or missed (R164). -/
def State.autoMark (s : State) : State :=
  match s.markClaim .auto s.sched.roll .autoRoll with
  | (.done, t) => ((t.setSched { t.sched with lastSeq := s.nextSeq }).autoEnd .taken).raise .autoMark
  | (r, t) => (t.autoEnd r.toOutcome).raise .autoMarkMissed

/-- Whether a due mark is put off (R163). -/
def State.defers (s : State) : Bool :=
  decide (s.sched.quiet.toNat < s.guardedTotal) && decide (s.sched.deferrals.toNat < s.sched.maxDeferrals.toNat)

/-- The auto-mark step (R163). -/
def State.autoStep (s : State) : State :=
  if s.sched.enable = false then s
  else
    let s := s.setSched
      { s.sched with periodCounter := if s.sched.periodCounter = 0#8 then 0#8 else s.sched.periodCounter - 1#8 }
    if s.sched.periodCounter ≠ 0#8 then s
    else if s.defers = true then s.setSched { s.sched with deferrals := s.sched.deferrals + 1#4 }
    else s.autoMark

/-- The interval end: reload, latch, auto-mark step, pressure check (R159). The tick that brings it is taken. -/
def State.intervalEnd (s : State) : State :=
  (((s.setSampler { s.sampler with count := s.sampler.reload, tick := false }).latch).autoStep).pressureCheck

/-- Whether a sampling tick has come and is not yet taken (R155). -/
def State.tickDue (s : State) : Bool := s.sampler.running && s.sampler.tick

/-- Take the sampling tick that has come (R159): the count falls by one, or the interval ends where it is 1; no effect
where none has come (log 4). -/
def State.takeTick (s : State) : State :=
  if s.tickDue = false then s
  else if s.sampler.count = 1#16 then s.intervalEnd
  else s.setSampler { s.sampler with count := s.sampler.count - 1#16, tick := false }

/-- SAMPLING_TICK (R155, R159). -/
def execSamplingTick (s : State) : Host.Outcome State Fault Refusal := .next s.takeTick

/-- INTERVAL_END (R159): the tick as the part sends it where the count is 1. A restart taken before it has reloaded the
count, and the tick is then a tick like any other (R158). -/
def execIntervalEnd (s : State) : Host.Outcome State Fault Refusal := .next s.takeTick

/-! ## The control words (R155 to R158, R162, R165, R181) -/

/-- Set the run state; a change restarts the prescaler (R157), and with the timer STOPPED no tick occurs (R155). -/
def State.setRun (run : Bool) (s : State) : State :=
  if run = s.sampler.running then s
  else s.setSampler { s.sampler with running := run, prescaler := 0, tick := false }

/-- Store reload and tick select; a changed tick select restarts the prescaler, and the first tick comes one whole new
tick later (R155, R156). -/
def State.storeSampler (sel : BitVec 2) (reload : BitVec 16) (s : State) : State :=
  s.setSampler
    { s.sampler with
      tickSelect := sel, reload := if reload = 0#16 then 1#16 else reload,
      prescaler := if sel = s.sampler.tickSelect then s.sampler.prescaler else 0
      tick := s.sampler.tick && sel == s.sampler.tickSelect }

/-- Restart: the count is reloaded and the prescaler starts from 0 (R158). A tick that has come still follows: R158 gives
both orders of a restart and a tick that reach the timer together. -/
def State.restartSampler (s : State) : State :=
  s.setSampler { s.sampler with count := s.sampler.reload, prescaler := 0 }

/-- A write of the sampler control word, as one step: reload and tick select, then restart, then the run state (R158). -/
def State.writeSampler (d : Word) (s : State) : State :=
  let s := s.storeSampler (BitVec.ofNat 2 (field d 2 2)) (BitVec.ofNat 16 (field d 16 16))
  let s := if bitAt d 1 = true then s.restartSampler else s
  s.setRun (bitAt d 0)

/-- The scheduler's settings as a write stores them (R162, R181). -/
def Scheduler.store (c : Scheduler) (d : Word) : Scheduler :=
  let period := BitVec.ofNat 8 (field d 8 8)
  { c with
    enable := bitAt d 0, roll := bitAt d 1, maxDeferrals := BitVec.ofNat 6 (min 15 (field d 2 6)),
    period := if period = 0#8 then 1#8 else period, quiet := BitVec.ofNat 16 (field d 16 16) }

/-- A write of the scheduler control word (R162); roll retention set from 0 to 1 makes a pressure check (R165).
Where the write that enables the scheduler changes mark period too, the period counter loads the new period, the model's
choice (log 37). -/
def State.writeScheduler (d : Word) (s : State) : State :=
  let was := s.sched
  let now := was.store d
  let now := if was.enable = false ∧ now.enable = true then { now with periodCounter := now.period, deferrals := 0#4 }
    else now
  let s := s.setSched now
  if was.roll = false ∧ now.roll = true then s.pressureCheck else s

/-- RUN (R157): a sampler control write with run 1. -/
def execRun (d : Word) (s : State) : Host.Outcome State Fault Refusal := .next (s.writeSampler d)

/-- STOP (R157): a sampler control write with run 0. -/
def execStop (d : Word) (s : State) : Host.Outcome State Fault Refusal := .next (s.writeSampler d)

/-- RESTART (R158): a sampler control write with restart 1. -/
def execRestart (d : Word) (s : State) : Host.Outcome State Fault Refusal := .next (s.writeSampler d)

/-- TICK_SELECT_WRITE (R155): a sampler control write that changes tick select. -/
def execTickSelectWrite (d : Word) (s : State) : Host.Outcome State Fault Refusal := .next (s.writeSampler d)

/-- AUTO_ENABLE_WRITE (R162): a scheduler control write that changes auto enable. -/
def execAutoEnableWrite (d : Word) (s : State) : Host.Outcome State Fault Refusal := .next (s.writeScheduler d)

/-- ROLL_RETENTION_WRITE (R165): a scheduler control write that changes roll retention. -/
def execRollRetentionWrite (d : Word) (s : State) : Host.Outcome State Fault Refusal := .next (s.writeScheduler d)

/-! ## One microsecond (R154, R155): what a step does on an empty queue (log 2) -/

/-- One microsecond at the prescaler (R155): at the tick length a tick comes, and the count starts again from 0. -/
def Sampler.advance (m : Sampler) : Sampler :=
  if m.running = false then { m with prescaler := 0, tick := false }
  else if tickLength m.tickSelect ≤ m.prescaler + 1 then { m with prescaler := 0, tick := true }
  else { m with prescaler := m.prescaler + 1 }

/-- The time base advances, and the prescaler with it (R154, R155). -/
def State.advance (s : State) : State := { s with now := s.now + 1 }.setSampler s.sampler.advance

/-- Whether entry `n` waits under a hold deadline that has been reached (R117, R118). -/
def State.holdDue (s : State) (n : Nat) : Bool :=
  ((s.entry n).state == .parked || s.isListed n) && s.expired (s.entry n).deadline

/-- Whether tag `t`'s response deadline has been reached (R136). -/
def State.responseDue (s : State) (t : Nat) : Bool :=
  ((s.tag t).state == .queued || (s.tag t).state == .outstanding) && s.expired (s.tag t).deadline

/-- The timed events that have come due: the tick, then hold timeouts, then response timeouts, each in ascending order
(log 2). -/
def State.dueEvents (s : State) : List Instr :=
  (if s.tickDue = true then [if s.sampler.count = 1#16 then .intervalEnd else .samplingTick] else []) ++
    ((entryIds.filter (fun n => s.holdDue n)).map .holdTimeout ++
      (tagIds.filter (fun t => s.responseDue t)).map .responseTimeout)

/-- One microsecond passes with no command waiting: time advances, and the events that come due join the queue. -/
def State.idle (s : State) : State := { s.advance with pending := s.pending ++ s.advance.dueEvents }

end Sys2Proof.Machine
end

