-- ==== Sys2Proof/Machine/Commands.lean ====
section
/-! DEFINITION. The command unit (10, 10.3) and the twelve commands with BAD_OPCODE (R31, R35 to R37, R120, R145 to R149,
R152, R161, R172, R178), and the checks of CONFIG_EXIT. -/

namespace Sys2Proof.Machine

/-- What a command's evaluation answers: the result, with detail and subject for CONFIG_INVALID (R172). -/
structure Answer where
  result : Result
  detail : Detail
  subject : BitVec 12
  deriving DecidableEq, Repr

/-- A result without detail. -/
def Answer.plain (r : Result) : Answer := ⟨r, .none, 0#12⟩

/-- The command unit's own part of a command: the count, the result word, CMD_DONE (R172, steps 2, 3 and 5). -/
def State.answer (code : Byte) (a : Answer) (s : State) : State :=
  (s.setMgmt
    { s.mgmt with cmdCount := s.mgmt.cmdCount + 1#32, result := ⟨code, a.result, a.detail, a.subject⟩ }).raise .cmdDone

/-- A command with its evaluation `f`: the claim, then the command unit's part (R172). -/
def State.command (code : Byte) (f : State → Answer × State) (s : State) : State := (f s).2.answer code (f s).1

/-- Refuse a command: nothing changes at its block. -/
def State.refuses (r : Result) (s : State) : Answer × State := (.plain r, s)

/-! ## CONFIG_EXIT (R8, R145, R146) -/

/-- A subject (11.3): first window, second window, pool. A window field whose valid bit is 0 holds 0, the model's choice
(log 32). -/
def subjectOf (a b : Option Nat) (pool : Bool) : BitVec 12 :=
  BitVec.ofNat 12 (packNat
    [(3, a.getD 0), (3, b.getD 0), (1, bitNat a.isSome), (1, bitNat b.isSome), (1, bitNat pool)])

/-- The enabled windows in increasing index. -/
def State.enabledIds (s : State) : List Nat := windowIds.filter (fun w => (s.window w).enable)

/-- One past a window's last page. -/
def Window.stop (w : Window) : Nat := w.base.toNat + w.pages

/-- Two page ranges share at least one page. -/
def overlaps (a aStop b bStop : Nat) : Bool := decide (a < bStop) && decide (b < aStop) && decide (a < aStop) && decide (b < bStop)

/-- Pairs of windows, by the lower index and then by the higher (R145). -/
def pairsOf : List Nat → List (Nat × Nat)
  | [] => []
  | a :: t => t.map (fun b => (a, b)) ++ pairsOf t

/-- One past the pool's last page. -/
def State.poolStop (s : State) : Nat := s.pool.base.toNat + s.pool.frames.toNat

/-- The pages that take PST indices among a list of windows (R8). -/
def State.pstPages (s : State) (l : List Nat) : Nat :=
  ((l.filter (fun w => (s.window w).inPst)).map (fun w => (s.window w).pages)).sum

/-- Check 1 of R145: a window past the last page. -/
def State.rangeCheck (s : State) : Option Answer :=
  (s.enabledIds.find? (fun w => decide (Config.pageLimit < (s.window w).stop))).map
    (fun w => ⟨.configInvalid, .range, subjectOf (some w) none false⟩)

/-- Checks 2 and 3 of R145: the pool's size and range. -/
def State.poolCheck (s : State) : Option Answer :=
  if Config.records < s.pool.frames.toNat ∨
      (s.pool.frames = 0#16 ∧ (s.enabledIds.any (fun w => (s.window w).mode == .guard)) = true) then
    some ⟨.configInvalid, .poolSize, subjectOf none none true⟩
  else if Config.pageLimit < s.poolStop then some ⟨.configInvalid, .range, subjectOf none none true⟩
  else none

/-- Check 4 of R145: two windows that overlap. -/
def State.overlapCheck (s : State) : Option Answer :=
  ((pairsOf s.enabledIds).find? (fun p =>
      overlaps (s.window p.1).base.toNat (s.window p.1).stop (s.window p.2).base.toNat (s.window p.2).stop)).map
    (fun p => ⟨.configInvalid, .overlap, subjectOf (some p.1) (some p.2) false⟩)

/-- Check 5 of R145: a window that overlaps the pool. -/
def State.poolOverlapCheck (s : State) : Option Answer :=
  (s.enabledIds.find? (fun w =>
      overlaps (s.window w).base.toNat (s.window w).stop s.pool.base.toNat s.poolStop)).map
    (fun w => ⟨.configInvalid, .overlap, subjectOf (some w) none true⟩)

/-- Check 6 of R145: more GUARD and CENSUS pages than the PST has entries. -/
def State.pstCheck (s : State) : Option Answer :=
  if Config.pstEntries < s.pstPages windowIds then some ⟨.configInvalid, .pstFull, 0#12⟩ else none

/-- The first failure of the checks of R145, in their order. -/
def State.configCheck (s : State) : Option Answer :=
  s.rangeCheck <|> s.poolCheck <|> s.overlapCheck <|> s.poolOverlapCheck <|> s.pstCheck

/-- The first index of window `w` (R8). -/
def State.firstIndexOf (s : State) (w : Nat) : Nat :=
  if (s.window w).inPst = true then s.pstPages (windowIds.filter (fun v => decide (v < w))) else 0

/-- PST indices assigned and the entries initialised (R8). -/
def State.assignPst (s : State) : State :=
  let t := windowIds.foldl
    (fun t w => t.setWindow w { s.window w with firstIndex := BitVec.ofNat 16 (s.firstIndexOf w) }) s
  { t with pst := .empty, pstAssigned := s.pstPages windowIds }

/-- Degraded cause and recovery latches emptied (R146, R147). -/
def Control.cleared (c : Control) : Control :=
  { c with
    causeLink := false, causeTable := false, causeCommand := false, spoiled := false, faultDuring := false,
    linkLost := false }

/-- The step of a CONFIG_EXIT that passes (R146). The free-frame queue is filled with every record of the pool, which R59 and
R44 have FREE there. A record that a discard's walk, ended by a table fault, has left not FREE is queued all the same, and its
fields stand until it is allocated or a commit completes: the model's choice (log 35). -/
def State.leaveConfig (s : State) : State :=
  let s := s.assignPst.zeroStamps
  let s := { s with pool := { s.pool with free := List.range s.pool.frames.toNat }, nextSeq := 1#32 }
  let s := s.setCtl { s.ctl.cleared with tableFault := false, invalid := false, detail := .none, subject := 0#12 }
  if s.mem.up = true then s.setCtl { s.ctl with state := .guarding } else s.enterDegraded .link

/-- CONFIG_EXIT's evaluation (R145). -/
def State.configExit (s : State) : Answer × State :=
  if s.ctl.state ≠ .config then s.refuses .badState
  else
    match s.configCheck with
    | some a => (a, s.setCtl { s.ctl with invalid := true, detail := a.detail, subject := a.subject })
    | none => (.plain .done, s.leaveConfig)

/-! ## CONFIG_ENTER (R147) -/

/-- The step of an accepted CONFIG_ENTER (R17, R44, R70, R100, R141, R147, R177). It changes no record: one that a discard's
walk, ended by a table fault, has left not FREE, where R59 has every record FREE, stays as it stands, the model's choice
(log 35). -/
def State.enterConfig (s : State) : State :=
  { s with
    ctl := { s.ctl.cleared with state := .config }, pst := .empty, pstAssigned := 0,
    pool := { s.pool with free := [] }, activity := .empty,
    sweep := { s.sweep with faultList := [], faultOverflow := false, faultCount := 0#32 },
    mgmt := { s.mgmt with firstError := .empty }, wp := { s.wp with breaks := 0#32 },
    mem := { s.mem with retryCount := 0#32, errorCount := 0#32, timeoutCount := 0#32, lateCount := 0#32 } }

/-- CONFIG_ENTER's evaluation (R147). -/
def State.configEnter (s : State) : Answer × State :=
  if s.ctl.state = .config ∨ s.ctl.state = .recovering then s.refuses .badState
  else if s.sweep.kind ≠ .none ∨ s.copyIdle = false then s.refuses .busy
  else if s.occupied ≠ [] then s.refuses .badState
  else (.plain .done, s.enterConfig)

/-! ## The mark table's commands (R31, R35 to R37) -/

/-- MARK's evaluation; on DONE the new sequence goes to COMMAND_ARG (R31, R172, step 4). -/
def State.markCommand (s : State) : Answer × State :=
  match s.markClaim .command s.mgmt.argRoll .markRoll with
  | (.done, t) => (.plain .done, t.setMgmt { t.mgmt with argSeq := s.nextSeq })
  | (r, t) => (.plain r, t)

/-- DISCARD's evaluation (R35). -/
def State.discardCommand (s : State) : Answer × State :=
  if s.ctl.state = .config ∨ s.ctl.state = .recovering then s.refuses .badState
  else if s.sweep.kind ≠ .none then s.refuses .busy
  else
    match s.liveWith s.mgmt.argSeq with
    | none => s.refuses .noSuchMark
    | some q => (.plain .accepted, s.startDiscard q (s.olderLive q) .discard)

/-- COMMIT's evaluation (R37). -/
def State.commitCommand (s : State) : Answer × State :=
  if s.ctl.state ≠ .guarding then s.refuses .badState
  else if s.sweep.kind ≠ .none then s.refuses .busy
  else (.plain .accepted, (s.startCommit .commit).commitIfEmpty)

/-- ROLLBACK's evaluation (R36). -/
def State.rollbackCommand (s : State) : Answer × State :=
  if s.ctl.state = .config ∨ s.ctl.state = .recovering then s.refuses .badState
  else if s.sweep.kind ≠ .none then s.refuses .busy
  else if s.ctl.tableFault = true then s.refuses .tableFault
  else
    match s.liveWith s.mgmt.argSeq with
    | none => s.refuses .noSuchMark
    | some q =>
      if s.mgmt.argForce = false ∧ (s.liveFrom q).any (fun i => (s.slot i).damaged) = true then s.refuses .damaged
      else (.plain .accepted, s.startRollback q s.mgmt.argForce s.mgmt.argDrop)

/-! ## The other commands (R120, R149, R152, R161, R178) -/

/-- QUIESCE's evaluation (R120); the empty condition is then tested at the end of the step. -/
def State.quiesceCommand (s : State) : Answer × State :=
  (.plain .done, if s.port.intake = .opened then s.setPort { s.port with intake := .closing } else s)

/-- RESUME's evaluation: the intake opens and the owed credits are returned (R109, R120). -/
def State.resumeCommand (s : State) : Answer × State :=
  let s := if s.port.owed = 0 then s else s.sendUp (.credit s.port.owed)
  (.plain .done, s.setPort { s.port with intake := .opened, credits := s.port.credits + s.port.owed, owed := 0 })

/-- DEGRADE's evaluation (R149). -/
def State.degradeCommand (s : State) : Answer × State :=
  match s.ctl.state with
  | .guarding => (.plain .done, s.enterDegraded .command)
  | .degraded => (.plain .done, s.addCause .command)
  | .config | .recovering => s.refuses .badState

/-- RECOVER's evaluation (R152). -/
def State.recoverCommand (s : State) : Answer × State :=
  if s.ctl.state ≠ .degraded ∨ s.mem.up = false then s.refuses .badState
  else if s.sweep.kind ≠ .none ∨ s.copyIdle = false then s.refuses .busy
  else
    let s := s.setCtl { s.ctl with state := .recovering, spoiled := false, faultDuring := false, linkLost := false }
    (.plain .accepted, (s.startCommit .recover).commitIfEmpty)

/-- CLEAR_COUNTS' evaluation (R161). -/
def State.clearCountsCommand (s : State) : Answer × State := (.plain .done, { s with activity := .empty })

/-- FAULT_POP's evaluation (R178). -/
def State.faultPopCommand (s : State) : Answer × State :=
  match s.sweep.faultList with
  | [] =>
    (.plain .done,
      (s.setMgmt { s.mgmt with faultData := ⟨false, 0, 0, s.sweep.faultOverflow⟩ }).setSweep
        { s.sweep with faultOverflow := false })
  | n :: rest =>
    (.plain .done,
      (s.setMgmt { s.mgmt with faultData := ⟨true, n, rest.length, s.sweep.faultOverflow⟩ }).setSweep
        { s.sweep with faultList := rest })

/-! ## The thirteen rows -/

/-- CONFIG_ENTER, code 1 (R147). -/
def execConfigEnter (s : State) : Host.Outcome State Fault Refusal := .next (s.command 1#8 State.configEnter)

/-- CONFIG_EXIT, code 2 (R145, R146). -/
def execConfigExit (s : State) : Host.Outcome State Fault Refusal := .next (s.command 2#8 State.configExit)

/-- MARK, code 3 (R31). -/
def execMark (s : State) : Host.Outcome State Fault Refusal := .next (s.command 3#8 State.markCommand)

/-- DISCARD, code 4 (R35). -/
def execDiscard (s : State) : Host.Outcome State Fault Refusal := .next (s.command 4#8 State.discardCommand)

/-- COMMIT, code 5 (R37). -/
def execCommit (s : State) : Host.Outcome State Fault Refusal := .next (s.command 5#8 State.commitCommand).finish

/-- ROLLBACK, code 6 (R36). -/
def execRollback (s : State) : Host.Outcome State Fault Refusal := .next (s.command 6#8 State.rollbackCommand)

/-- QUIESCE, code 7 (R120). -/
def execQuiesce (s : State) : Host.Outcome State Fault Refusal :=
  .next (s.command 7#8 State.quiesceCommand).checkIntake

/-- RESUME, code 8 (R120). -/
def execResume (s : State) : Host.Outcome State Fault Refusal := .next (s.command 8#8 State.resumeCommand)

/-- DEGRADE, code 9 (R149). -/
def execDegrade (s : State) : Host.Outcome State Fault Refusal := .next (s.command 9#8 State.degradeCommand).finish

/-- RECOVER, code 10 (R152). -/
def execRecover (s : State) : Host.Outcome State Fault Refusal := .next (s.command 10#8 State.recoverCommand).finish

/-- CLEAR_COUNTS, code 11 (R161). -/
def execClearCounts (s : State) : Host.Outcome State Fault Refusal :=
  .next (s.command 11#8 State.clearCountsCommand)

/-- FAULT_POP, code 12 (R178). -/
def execFaultPop (s : State) : Host.Outcome State Fault Refusal := .next (s.command 12#8 State.faultPopCommand)

/-- BAD_OPCODE: a code that names no command (R172). -/
def execBadOpcode (code : Byte) (s : State) : Host.Outcome State Fault Refusal :=
  .next (s.command code (State.refuses .badOpcode))

end Sys2Proof.Machine
end

