-- ==== Sys2Proof/Machine/Registers.lean ====
section
/-! DEFINITION. The register window (10, 10.2; 11.3): what each index reads, the summary byte, and what a write of each
index does (R144, R168 to R171, R174, R175, R177, R181). -/

namespace Sys2Proof.Machine

/-! ## Encodings (11.2, 11.3) -/

def OpState.code : OpState → Nat
  | .config => 0 | .guarding => 1 | .degraded => 2 | .recovering => 3

def Intake.code : Intake → Nat
  | .opened => 0 | .closing => 1 | .closed => 2

def Detail.code : Detail → Nat
  | .none => 0 | .overlap => 1 | .range => 2 | .pstFull => 3 | .poolSize => 4

def ChanState.code : ChanState → Nat
  | .idle => 0 | .running => 1 | .stopping => 2 | .blocked => 3

def JobKind.code : JobKind → Nat
  | .preservation => 0 | .restore => 1

def SweepKind.code : SweepKind → Nat
  | .none => 0 | .discard => 1 | .commit => 2 | .rollback => 3

def Cause.code : Cause → Nat
  | .discard => 0 | .markRoll => 1 | .autoRoll => 2 | .pressure => 3 | .commit => 4 | .recover => 5 | .rollback => 6

def Phase.code : Phase → Nat
  | .walk => 0 | .drain => 1 | .restore => 2 | .merge => 3

def SlotState.code : SlotState → Nat
  | .free => 0 | .live => 1 | .retiring => 2 | .unwinding => 3

def Origin.code : Origin → Nat
  | .command => 0 | .auto => 1

def ErrKind.code : ErrKind → Nat
  | .none => 0 | .protocol => 1 | .refusal => 2 | .timeout => 3 | .copy => 4 | .parity => 5

def Result.code : Result → Nat
  | .none => 0 | .accepted => 1 | .done => 2 | .busy => 3 | .badState => 4 | .noSuchMark => 5 | .stackFull => 6
  | .damaged => 7 | .seqLimit => 8 | .tableFault => 9 | .configInvalid => 10 | .badOpcode => 11

def Mode.code : Mode → Nat
  | .pass => 0 | .guard => 1 | .census => 2 | .fence => 3

/-- Every mode value is defined (R181). -/
def Mode.ofCode (n : Nat) : Mode := if n = 0 then .pass else if n = 1 then .guard else if n = 2 then .census else .fence

def Policy.code : Policy → Nat
  | .refuse => 0 | .break => 1 | .wait => 2

/-- An encoding that names no policy is stored as REFUSE (R68, R181). -/
def Policy.ofCode (n : Nat) : Policy := if n = 1 then .break else if n = 2 then .wait else .refuse

def AutoOutcome.code : AutoOutcome → Nat
  | .none => 0 | .taken => 1 | .badState => 2 | .busy => 3 | .seqLimit => 4 | .stackFull => 5

/-! ## Counts shown by the status words (R124, R141) -/

/-- How many entries are in a state. -/
def State.entriesIn (s : State) (st : EntryState) : Nat := (entryIds.filter (fun n => (s.entry n).state == st)).length

/-- How many of a list of tags are in a state. -/
def State.tagsIn (s : State) (l : List Nat) (st : TagState) : Nat := (l.filter (fun t => (s.tag t).state == st)).length

/-- Transactions pending: some entry is not FREE (R124). -/
def State.transactionsPending (s : State) : Bool := entryIds.any (fun n => (s.entry n).state != .free)

/-- Tags of the copy channels, 128 to 143 (R132). -/
def channelTags : List Nat := chanIds.flatMap chanTags

/-- The fields of one channel in a copy engine status word (R141; 11.3). With no job the kind reads 0, the model's choice
(log 32). -/
def State.chanFields (s : State) (c : Nat) : List (Nat × Nat) :=
  let h := s.chan c
  [(2, h.state.code), (1, match h.job with | none => 0 | some j => j.kind.code), (5, h.done),
    (3, ((chanTags c).filter (fun t => (s.copyTag t).use == .quarantined)).length)]

/-- The sequence shown by sweep status 1: the retiring or the target mark's, 0 while idle and for a commit (R80). -/
def State.sweepSeq (s : State) : Seq :=
  match s.sweep.kind, s.sweep.retiring, s.sweep.target with
  | .discard, some q, _ => (s.slot q).seq
  | .rollback, _, some q => (s.slot q).seq
  | _, _, _ => 0#32

/-! ## Reads (R170): an index that names no register reads 0 -/

/-- The words 0x02 to 0x08: state, ports, copy engine. -/
def State.readStatus (s : State) (i : Nat) : Word :=
  let c := s.ctl
  if i = 0x02 then
    pack [(2, c.state.code), (1, bitNat c.tableFault), (1, bitNat c.causeLink), (1, bitNat c.causeTable),
      (1, bitNat c.causeCommand), (1, bitNat c.spoiled), (1, bitNat c.faultDuring), (1, bitNat c.linkLost),
      (1, bitNat c.invalid), (3, c.detail.code), (12, c.subject.toNat)]
  else if i = 0x03 then
    pack [(1, bitNat s.port.up), (2, s.port.intake.code), (1, bitNat s.transactionsPending), (8, s.port.credits),
      (8, s.port.owed), (8, s.busyEntries)]
  else if i = 0x04 then
    pack [(8, s.entriesIn .quarantined), (8, s.entriesIn .orphaned), (8, s.sweep.park.length)]
  else if i = 0x05 then
    pack [(1, bitNat s.mem.up), (8, s.mem.sendQueue.length), (8, s.tagsIn tagIds .outstanding),
      (8, s.tagsIn entryIds .quarantined), (5, s.tagsIn channelTags .quarantined)]
  else if i = 0x06 then pack [(16, s.mem.credits)]
  else if i = 0x07 then pack (s.chanFields 0 ++ s.chanFields 1)
  else if i = 0x08 then pack (s.chanFields 2 ++ s.chanFields 3 ++ [(1, bitNat s.sweep.offer.isSome)])
  else 0#32

/-- The words 0x09 to 0x0E: pool and sweep. -/
def State.readSweep (s : State) (i : Nat) : Word :=
  let w := s.sweep
  if i = 0x09 then pack [(15, s.pool.free.length), (8, s.pool.wait.length)]
  else if i = 0x0A then pack [(16, s.pool.frames.toNat), (8, s.wp.queue.length)]
  else if i = 0x0B then
    pack [(2, w.kind.code), (3, match w.cause with | none => 0 | some c => c.code), (2, w.phase.code),
      (8, w.demand.length), (8, w.park.length), (1, bitNat w.waitingOn.isSome)]
  else if i = 0x0C then s.sweepSeq
  else if i = 0x0D then w.faultCount
  else if i = 0x0E then pack [(5, w.faultList.length), (1, bitNat w.faultOverflow)]
  else 0#32

/-- The words 0x10 to 0x28: rollback report, slot readouts, marks, counters. -/
def State.readMarks (s : State) (i : Nat) : Word :=
  let r := s.sweep.report
  if i = 0x10 then r.target
  else if i = 0x11 then pack [(16, r.restored.toNat), (16, r.faults.toNat)]
  else if i = 0x12 then pack [(16, r.demands.toNat), (16, r.released.toNat)]
  else if 0x18 ≤ i ∧ i ≤ 0x21 then
    let q := s.slot ((i - 0x18) / 2)
    if i % 2 = 0 then q.seq
    else pack [(2, q.state.code), (1, q.origin.code), (1, bitNat q.damaged), (15, q.count)]
  else if i = 0x22 then s.nextSeq
  else if i = 0x23 then pack [(3, s.liveCount), (3, s.occupied.length)]
  else if i = 0x24 then s.wp.breaks
  else if i = 0x25 then s.mem.retryCount
  else if i = 0x26 then s.mem.errorCount
  else if i = 0x27 then s.mem.timeoutCount
  else if i = 0x28 then s.mem.lateCount
  else 0#32

/-- The words 0x2C to 0x37: flags, mask, first error, command unit, FAULT_DATA. A first-error field whose valid bit is 0
reads 0, the model's choice (log 32). -/
def State.readMgmt (s : State) (i : Nat) : Word :=
  let m := s.mgmt
  let e := m.firstError
  if i = 0x2C then m.flags.setWidth 32
  else if i = 0x2D then m.mask.setWidth 32
  else if i = 0x2E then
    pack [(3, e.kind.code), (1, bitNat e.tag.isSome), (7, e.tag.getD 0), (1, bitNat e.window.isSome),
      (3, e.window.getD 0), (1, bitNat e.address.isSome), (1, bitNat e.more),
      (8, (e.address.getD 0#40).toNat / 2 ^ 32)]
  else if i = 0x2F then (e.address.getD 0#40).setWidth 32
  else if i = 0x32 then m.argSeq
  else if i = 0x33 then pack [(1, bitNat m.argRoll), (1, bitNat m.argForce), (1, bitNat m.argDrop)]
  else if i = 0x34 then
    pack [(8, m.result.code.toNat), (4, m.result.result.code), (3, m.result.detail.code),
      (12, m.result.subject.toNat)]
  else if i = 0x35 then m.cmdCount
  else if i = 0x36 then pack [(28, m.faultData.page)]
  else if i = 0x37 then
    pack [(1, bitNat m.faultData.valid), (4, m.faultData.remaining), (1, bitNat m.faultData.overflow)]
  else 0#32

/-- One of a counter set's four counters (11.3). -/
def Counts.pick (c : Counts) (k : Nat) : Word :=
  if k = 0 then c.reads else if k = 1 then c.writes else if k = 2 then c.preserves else c.refusals

/-- The words 0x40 to 0x7F: activity counters. -/
def State.readActivity (s : State) (i : Nat) : Word :=
  let a := s.act ((i - 0x40) / 8)
  if i % 8 < 4 then a.running.pick (i % 8) else a.last.pick (i % 8 - 4)

/-- The words 0x80 to 0x9E: configuration, sampler, scheduler. -/
def State.readConfig (s : State) (i : Nat) : Word :=
  let m := s.sampler
  let c := s.sched
  if i < 0x90 then
    let w := s.window ((i - 0x80) / 2)
    if i % 2 = 0 then pack [(28, w.base.toNat), (2, w.mode.code), (1, 0), (1, bitNat w.enable)]
    else pack [(16, w.count.toNat), (16, w.firstIndex.toNat)]
  else if i = 0x90 then pack [(28, s.pool.base.toNat)]
  else if i = 0x91 then pack [(16, s.pool.frames.toNat)]
  else if i = 0x92 then pack [(15, s.pool.lowWater.toNat)]
  else if i = 0x93 then pack [(2, s.wp.policy.code)]
  else if i = 0x94 then pack [(16, s.port.holdTimeout.toNat)]
  else if i = 0x95 then pack [(16, s.mem.responseTimeout.toNat), (8, s.mem.retryLimit.toNat)]
  else if i = 0x98 then
    pack [(1, bitNat m.running), (1, 0), (2, m.tickSelect.toNat), (12, 0), (16, m.reload.toNat)]
  else if i = 0x99 then pack [(16, m.count.toNat), (16, m.reload.toNat)]
  else if i = 0x9A then pack [(1, bitNat m.running), (2, m.tickSelect.toNat)]
  else if i = 0x9C then
    pack [(1, bitNat c.enable), (1, bitNat c.roll), (6, c.maxDeferrals.toNat), (8, c.period.toNat),
      (16, c.quiet.toNat)]
  else if i = 0x9D then
    pack [(8, c.periodCounter.toNat), (4, c.deferrals.toNat), (3, c.outcome.code), (1, 0), (1, bitNat c.enable),
      (1, bitNat c.roll)]
  else if i = 0x9E then c.lastSeq
  else 0#32

/-- The word a read of an index returns (R170, R179; 11.3). COMMAND and first-error clear read 0. -/
def State.readWord (s : State) (index : Byte) : Word :=
  let i := index.toNat
  if i = 0x00 then Config.identification
  else if i = 0x01 then Config.capability
  else if i < 0x09 then s.readStatus i
  else if i < 0x10 then s.readSweep i
  else if i < 0x2C then s.readMarks i
  else if i < 0x40 then s.readMgmt i
  else if i < 0x80 then s.readActivity i
  else if i < 0x9F then s.readConfig i
  else 0#32

/-- The summary byte (R169; 11.2). -/
def State.summaryByte (s : State) : Byte :=
  BitVec.ofNat 8 (packNat
    [(1, 0), (1, bitNat s.transactionsPending), (1, bitNat (s.sweep.kind != .none)), (1, bitNat s.alert),
      (2, s.port.intake.code), (2, s.ctl.state.code)])

/-! ## Writes (R171) -/

/-- A write that is ignored (R171). -/
def State.reject (s : State) : State := s.raise .mgmtReject

/-- A write of the event flag word: a one clears its flag (R174). -/
def State.clearFlags (d : Word) (s : State) : State :=
  s.setMgmt { s.mgmt with flags := s.mgmt.flags &&& ~~~(d.setWidth 21) }

/-- A write of the alert mask (R175). -/
def State.writeMask (d : Word) (s : State) : State := s.setMgmt { s.mgmt with mask := d.setWidth 21 }

/-- A write of the first-error clear index (R177). -/
def State.clearError (s : State) : State := s.setMgmt { s.mgmt with firstError := .empty }

/-- A write of a window word (R1, R181). -/
def State.writeWindow (i : Nat) (d : Word) (s : State) : State :=
  let w := (i - 0x80) / 2
  if i % 2 = 0 then
    s.setWindow w
      { s.window w with
        base := BitVec.ofNat 28 (field d 0 28), mode := Mode.ofCode (field d 28 2), enable := bitAt d 31 }
  else s.setWindow w { s.window w with count := BitVec.ofNat 16 (field d 0 16) }

/-- A protected word as CONFIG stores it: window, pool, policy, hold timeout and memory port words (R144, R181). -/
def State.storeProtected (i : Nat) (d : Word) (s : State) : State :=
  if i < 0x90 then s.writeWindow i d
  else if i = 0x90 then s.setPool { s.pool with base := BitVec.ofNat 28 (field d 0 28) }
  else if i = 0x91 then s.setPool { s.pool with frames := BitVec.ofNat 16 (field d 0 16) }
  else if i = 0x92 then s.setPool { s.pool with lowWater := BitVec.ofNat 15 (min 16384 (field d 0 15)) }
  else if i = 0x93 then s.setWp { s.wp with policy := Policy.ofCode (field d 0 2) }
  else if i = 0x94 then s.setPort { s.port with holdTimeout := BitVec.ofNat 16 (field d 0 16) }
  else
    s.setMem
      { s.mem with
        responseTimeout := BitVec.ofNat 16 (field d 0 16), retryLimit := BitVec.ofNat 8 (min 15 (field d 16 8)) }

/-- Whether an index is one of the protected words (R144; 11.3). -/
def isProtected (i : Nat) : Bool := decide (0x80 ≤ i) && decide (i ≤ 0x95)

/-- A write of COMMAND_ARG (R173). -/
def State.writeArg (i : Nat) (d : Word) (s : State) : State :=
  if i = 0x32 then s.setMgmt { s.mgmt with argSeq := d }
  else s.setMgmt { s.mgmt with argRoll := bitAt d 0, argForce := bitAt d 1, argDrop := bitAt d 2 }

/-- What a register write of any index without a row of its own does (R171). Read-only words and indices that name no
register: ignored, and MGMT_REJECT. -/
def State.writeWord (index : Byte) (d : Word) (s : State) : State :=
  let i := index.toNat
  if isProtected i = true then if s.ctl.state = .config then s.storeProtected i d else s.reject
  else if i = 0x32 ∨ i = 0x33 then s.writeArg i d
  else if i = 0x98 then s.writeSampler d
  else if i = 0x9C then s.writeScheduler d
  else s.reject

/-- EVENT_FLAG_WRITE (R174). -/
def execEventFlagWrite (d : Word) (s : State) : Host.Outcome State Fault Refusal := .next (s.clearFlags d)

/-- FIRST_ERROR_CLEAR (R177). -/
def execFirstErrorClear (_d : Word) (s : State) : Host.Outcome State Fault Refusal := .next s.clearError

/-- ALERT_MASK_WRITE (R175). -/
def execAlertMaskWrite (d : Word) (s : State) : Host.Outcome State Fault Refusal := .next (s.writeMask d)

/-- The command that a write of COMMAND delivers (R172; 11.3): the low eight bits are the code. -/
def commandOf (d : Word) : Instr :=
  let c := field d 0 8
  if c = 1 then .configEnter else if c = 2 then .configExit else if c = 3 then .mark else if c = 4 then .discard
  else if c = 5 then .commit else if c = 6 then .rollback else if c = 7 then .quiesce else if c = 8 then .resume
  else if c = 9 then .degrade else if c = 10 then .recover else if c = 11 then .clearCounts
  else if c = 12 then .faultPop else .badOpcode (BitVec.ofNat 8 c)

/-- The command that a write of a register word is (R171): the words with a row of their own, and REGISTER_WRITE. -/
def writeCommand (index : Byte) (d : Word) : Instr :=
  if index = 0x31#8 then commandOf d
  else if index = 0x2C#8 then .eventFlagWrite d
  else if index = 0x2D#8 then .alertMaskWrite d
  else if index = 0x30#8 then .firstErrorClear d
  else .registerWrite index d

/-- A write of COMMAND given as a register write, so that REGISTER_WRITE is total (log 16). -/
def State.writeCommandWord (d : Word) (s : State) : State :=
  match commandOf d with
  | .configEnter => s.command 1#8 State.configEnter
  | .configExit => s.command 2#8 State.configExit
  | .mark => s.command 3#8 State.markCommand
  | .discard => s.command 4#8 State.discardCommand
  | .commit => (s.command 5#8 State.commitCommand).finish
  | .rollback => s.command 6#8 State.rollbackCommand
  | .quiesce => (s.command 7#8 State.quiesceCommand).checkIntake
  | .resume => s.command 8#8 State.resumeCommand
  | .degrade => (s.command 9#8 State.degradeCommand).finish
  | .recover => (s.command 10#8 State.recoverCommand).finish
  | .clearCounts => s.command 11#8 State.clearCountsCommand
  | .faultPop => s.command 12#8 State.faultPopCommand
  | .badOpcode c => s.command c (State.refuses .badOpcode)
  | _ => s

/-- REGISTER_WRITE (R171, R181). An index with a row of its own does what that row does (log 16). -/
def execRegisterWrite (index : Byte) (d : Word) (s : State) : Host.Outcome State Fault Refusal :=
  if index = 0x2C#8 then .next (s.clearFlags d)
  else if index = 0x2D#8 then .next (s.writeMask d)
  else if index = 0x30#8 then .next s.clearError
  else if index = 0x31#8 then .next (s.writeCommandWord d)
  else .next (s.writeWord index d)

/-! ## The resets (R143, and the reset values of every chapter) -/

/-- POWER_ON_RESET: every block in its reset state. The queue holds what the agents have asked for and is kept (log 1). -/
def execPowerOnReset (s : State) : Host.Outcome State Fault Refusal :=
  .next { State.reset with pending := s.pending }

/-- RST_N: as power-on reset; a frame in progress is abandoned and the time base restarts (R154, R168). -/
def execRstN (s : State) : Host.Outcome State Fault Refusal := .next { State.reset with pending := s.pending }

end Sys2Proof.Machine
end

