-- ==== Sys2Proof/Machine/Link.lean ====
section
/-! DEFINITION. What a line-link message and an SPI frame are to the part: the command that a received message or a write
frame is, the messages it sends in the header layout, and what an SPI frame shifts out (10, 10.1; 11.1, 11.2; R168 to
R170, R180). The agents' side of the block: the sender of a command uses these, and `exec` does not (log 16). -/

namespace Sys2Proof.Machine

/-! ## Line-link messages (11.1) -/

/-- The header's fields at receipt; bits that a type marks zero are ignored (R180), and so are those to which 11.1 gives
neither a field nor zero, the model's choice (log 18). -/
def headerType (h : BitVec 64) : BitVec 4 := h.extractLsb' 60 4
def headerTag (h : BitVec 64) : Byte := h.extractLsb' 52 8
def headerLen (h : BitVec 64) : BitVec 2 := h.extractLsb' 50 2
def headerStatus (h : BitVec 64) : BitVec 4 := h.extractLsb' 48 4
def headerReason (h : BitVec 64) : BitVec 4 := h.extractLsb' 44 4
def headerCount (h : BitVec 64) : BitVec 16 := h.extractLsb' 32 16
def headerAddr (h : BitVec 64) : Addr := h.extractLsb' 0 40

/-- A line's byte mask of 8 bytes, the first byte covering the line's bytes 0 to 7 (11.1; log 18). -/
def maskOf (bytes : List Byte) : BitVec 64 :=
  bytes.foldr (fun b m => (m <<< 8) ||| b.setWidth 64) 0#64

/-- The 8 bytes of a mask. -/
def maskBytes (m : BitVec 64) : List Byte := (List.range 8).map (fun k => m.extractLsb' (8 * k) 8)

/-- The lines of a WRITE's payload, each its mask and its 64 data bytes; none where the payload is not of whole lines
(11.1). -/
def payloadLines : Nat → List Byte → Option (List (BitVec 64) × List Byte)
  | 0, bytes => if bytes = [] then some ([], []) else none
  | k + 1, bytes =>
    if bytes.length < 8 + Config.lineBytes then none
    else
      (payloadLines k (bytes.drop (8 + Config.lineBytes))).map fun rest =>
        (maskOf (bytes.take 8) :: rest.1, (bytes.drop 8).take Config.lineBytes ++ rest.2)

/-- The payload of masks and data, line by line (11.1). -/
def linesPayload : List (BitVec 64) → List Byte → List Byte
  | [], _ => []
  | m :: masks, data => maskBytes m ++ data.take Config.lineBytes ++ linesPayload masks (data.drop Config.lineBytes)

/-- The masks and data of a WRITE as received; a payload that its length code does not give whole stays as it came, with no
masks, which makes the WRITE malformed (R180). -/
def writeParts (len : BitVec 2) (payload : List Byte) : List (BitVec 64) × List Byte :=
  (payloadLines (lenLines len) payload).getD ([], payload)

/-- The command that a message received on the request port is, header and payload (R105, R180). A READ carries its
payload, whatever it is, since one that has any is malformed. -/
def requestPortMessage (h : BitVec 64) (payload : List Byte) : Instr :=
  if headerType h = 1#4 then .read (headerTag h) (headerLen h) (headerAddr h) payload
  else if headerType h = 2#4 then
    .write (headerTag h) (headerLen h) (headerAddr h) (writeParts (headerLen h) payload).1
      (writeParts (headerLen h) payload).2
  else if headerType h = 3#4 ∨ headerType h = 4#4 then .misdirectedUpstreamMessage (headerType h)
  else .unknownTypeMessage .request (headerType h)

/-- The command that a message received on the memory port is, header and payload (R134, R140, R180). A COMPLETION's
payload is its data, without masks. A payload after a CREDIT's header, which R180 names for a READ only, is dropped and the
CREDIT counts, the model's choice (log 18). -/
def memoryPortMessage (h : BitVec 64) (payload : List Byte) : Instr :=
  if headerType h = 3#4 then .completion (headerTag h) (headerStatus h) (headerReason h) payload
  else if headerType h = 4#4 then .credit (headerCount h)
  else if headerType h = 1#4 ∨ headerType h = 2#4 then .misdirectedDownstreamMessage (headerType h)
  else .unknownTypeMessage .memory (headerType h)

def Status.code : Status → Nat
  | .ok => 0 | .dataErr => 1 | .refused => 2

def Reason.code : Reason → Nat
  | .none => 0 | .memoryError => 1 | .memoryTimeout => 2 | .linkDown => 3 | .protocol => 4 | .fence => 5 | .pool => 6
  | .exhausted => 7 | .preserveFailed => 8 | .holdTimeout => 9

/-- The header of a message sent upstream (11.1). The bits to which 11.1 gives neither a field nor zero are sent 0, the
model's choice (log 18). -/
def UpMessage.header : UpMessage → BitVec 64
  | .completion tag st r _ =>
    BitVec.ofNat 64 (3 * 2 ^ 60 + tag % 256 * 2 ^ 52 + st.code * 2 ^ 48 + r.code * 2 ^ 44)
  | .credit n => BitVec.ofNat 64 (4 * 2 ^ 60 + n % 65536 * 2 ^ 32)

/-- The payload of a message sent upstream: a read's data, lines in increasing address order, without masks (11.1). -/
def UpMessage.payload : UpMessage → List Byte
  | .completion _ _ _ data => data
  | .credit _ => []

/-- The length code of 1, 2 or 4 lines (R105). -/
def lenCode (lines : Nat) : Nat := if lines = 1 then 0 else if lines = 2 then 1 else if lines = 4 then 2 else 3

/-- The header of a request sent to the memory (11.1). The bits to which 11.1 gives neither a field nor zero are sent 0, the
model's choice (log 18). -/
def DownRequest.header (r : DownRequest) : BitVec 64 :=
  BitVec.ofNat 64
    ((match r.kind with | .read => 1 | .write => 2) * 2 ^ 60 + r.tag % 256 * 2 ^ 52 + lenCode r.lines * 2 ^ 50 +
      r.address.toNat)

/-- The payload of a request sent to the memory: a WRITE's masks and data, line by line; a READ has none (11.1). -/
def DownRequest.payload (r : DownRequest) : List Byte :=
  match r.kind with
  | .read => []
  | .write => linesPayload r.masks r.data

/-! ## SPI frames (R168 to R170; 11.2) -/

/-- CS_N falls: a frame starts, and the summary byte is captured (R169). -/
def State.spiSelect (s : State) : State := { s with spi := ⟨true, [], s.summaryByte, 0#32⟩ }

/-- CS_N rises: the frame ends, and one that is not complete does nothing further (R168). -/
def State.spiDeselect (s : State) : State := { s with spi := ⟨false, [], 0#8, 0#32⟩ }

/-- Byte `k` of a word, most significant first (0.5). -/
def wordByte (w : Word) (k : Nat) : Byte := w.extractLsb' (8 * (3 - k)) 8

/-- The word of four bytes, most significant first. -/
def wordOf (a b c d : Byte) : Word := a ++ b ++ c ++ d

/-- The byte the part shifts out while the next byte is shifted in (R168). -/
def State.misoByte (s : State) : Byte :=
  match s.spi.bytes with
  | [] => s.spi.summary
  | op :: t => if op = 0xC1#8 ∧ 2 ≤ t.length ∧ t.length ≤ 5 then wordByte s.spi.word (t.length - 2) else 0#8

/-- A whole byte has been shifted in (R168): a read captures its word at the end of the index byte (R170), and a write is
made at the end of its last data byte (R171), as the command it is, behind those that wait (log 16). Bytes beyond the
frame's last are counted no further. -/
def State.spiByte (b : Byte) (s : State) : State :=
  if s.spi.selected = false ∨ 7 ≤ s.spi.bytes.length then s
  else
    let t := { s with spi := { s.spi with bytes := s.spi.bytes ++ [b] } }
    match t.spi.bytes with
    | [0xC1#8, i] => { t with spi := { t.spi with word := s.readWord i } }
    | [0xC2#8, i, d3, d2, d1, d0] => { t with pending := s.pending ++ [writeCommand i (wordOf d3 d2 d1 d0)] }
    | _ => t

end Sys2Proof.Machine
end

