-- ==== Sys2Proof/Machine/Dispatch.lean ====
section
/-! DEFINITION. The meaning of each command: one arm per row of spec/opcode_table.json, each one call of its meaning. -/

namespace Sys2Proof.Machine

/-- The effect of a command on everything but the queue. -/
def exec (i : Instr) (s : State) : Host.Outcome State Fault Refusal :=
  match i with
  | .powerOnReset => Sys2Proof.Machine.execPowerOnReset s
  | .rstN => Sys2Proof.Machine.execRstN s
  | .requestPortLinkDown => Sys2Proof.Machine.execRequestPortLinkDown s
  | .requestPortLinkUp => Sys2Proof.Machine.execRequestPortLinkUp s
  | .memoryPortLinkDown failuresFirst => Sys2Proof.Machine.execMemoryPortLinkDown failuresFirst s
  | .memoryPortLinkUp => Sys2Proof.Machine.execMemoryPortLinkUp s
  | .read tag len addr payload => Sys2Proof.Machine.execRead tag len addr payload s
  | .write tag len addr masks data => Sys2Proof.Machine.execWrite tag len addr masks data s
  | .misdirectedUpstreamMessage type => Sys2Proof.Machine.execMisdirectedUpstreamMessage type s
  | .unknownTypeMessage port type => Sys2Proof.Machine.execUnknownTypeMessage port type s
  | .completion tag status reason data => Sys2Proof.Machine.execCompletion tag status reason data s
  | .credit count => Sys2Proof.Machine.execCredit count s
  | .misdirectedDownstreamMessage type => Sys2Proof.Machine.execMisdirectedDownstreamMessage type s
  | .sendRequest => Sys2Proof.Machine.execSendRequest s
  | .samplingTick => Sys2Proof.Machine.execSamplingTick s
  | .intervalEnd => Sys2Proof.Machine.execIntervalEnd s
  | .holdTimeout entry => Sys2Proof.Machine.execHoldTimeout entry s
  | .responseTimeout tag => Sys2Proof.Machine.execResponseTimeout tag s
  | .discardWalkStep => Sys2Proof.Machine.execDiscardWalkStep s
  | .commitWalkStep => Sys2Proof.Machine.execCommitWalkStep s
  | .restorePhaseStart => Sys2Proof.Machine.execRestorePhaseStart s
  | .restoreWalkStep => Sys2Proof.Machine.execRestoreWalkStep s
  | .restorePhaseEnd => Sys2Proof.Machine.execRestorePhaseEnd s
  | .mergeWalkStep => Sys2Proof.Machine.execMergeWalkStep s
  | .configEnter => Sys2Proof.Machine.execConfigEnter s
  | .configExit => Sys2Proof.Machine.execConfigExit s
  | .mark => Sys2Proof.Machine.execMark s
  | .discard => Sys2Proof.Machine.execDiscard s
  | .commit => Sys2Proof.Machine.execCommit s
  | .rollback => Sys2Proof.Machine.execRollback s
  | .quiesce => Sys2Proof.Machine.execQuiesce s
  | .resume => Sys2Proof.Machine.execResume s
  | .degrade => Sys2Proof.Machine.execDegrade s
  | .recover => Sys2Proof.Machine.execRecover s
  | .clearCounts => Sys2Proof.Machine.execClearCounts s
  | .faultPop => Sys2Proof.Machine.execFaultPop s
  | .badOpcode code => Sys2Proof.Machine.execBadOpcode code s
  | .eventFlagWrite data => Sys2Proof.Machine.execEventFlagWrite data s
  | .firstErrorClear data => Sys2Proof.Machine.execFirstErrorClear data s
  | .alertMaskWrite data => Sys2Proof.Machine.execAlertMaskWrite data s
  | .run data => Sys2Proof.Machine.execRun data s
  | .stop data => Sys2Proof.Machine.execStop data s
  | .restart data => Sys2Proof.Machine.execRestart data s
  | .tickSelectWrite data => Sys2Proof.Machine.execTickSelectWrite data s
  | .autoEnableWrite data => Sys2Proof.Machine.execAutoEnableWrite data s
  | .rollRetentionWrite data => Sys2Proof.Machine.execRollRetentionWrite data s
  | .registerWrite index data => Sys2Proof.Machine.execRegisterWrite index data s

end Sys2Proof.Machine
end

