-- ==== Sys2Proof/Safety.lean ====
section
/-! DEFINITION. Predicates that the statements use: the laws that hold in every state a run reaches, what the part holds
fixed outside CONFIG, and the conditions under which a command's effect is its own alone. -/

namespace Sys2Proof.Machine

/-! ## Laws of single blocks -/

/-- Every table is in its canonical form (log 25), so that equal contents are equal data. -/
def State.tablesCanonical (s : State) : Bool :=
  s.windows.canonical .reset && s.activity.canonical .zero && s.pst.canonical .clear && s.slots.canonical .freed &&
    s.records.canonical .freed && s.entries.canonical .freed && s.channels.canonical .reset &&
    s.copyTags.canonical .reset && s.tags.canonical .idle

/-- A channel holds a job exactly while it is RUNNING or STOPPING (R126). -/
def Channel.lawful (c : Channel) : Bool := c.job.isSome == (c.state == .running || c.state == .stopping)

/-- The preservation queue holds at most 128 jobs, and jobs are in the backlog only while it is full (R63). -/
def WritePath.lawful (w : WritePath) : Bool :=
  decide (w.queue.length ≤ Config.preserveJobs) && (w.backlog.isEmpty || w.queue.length == Config.preserveJobs)

/-- Some degraded cause is held (R143). -/
def Control.caused (c : Control) : Bool := c.causeLink || c.causeTable || c.causeCommand

/-- In DEGRADED some cause is held (R148), and a spoiled recovery met a table fault or lost the link (R150, R151). -/
def Control.lawful (c : Control) : Bool :=
  (c.state != .degraded || c.caused) && (!c.spoiled || c.faultDuring || c.linkLost)

/-- Reload and count are never 0, the prescaler stands below the tick length, and a STOPPED timer's is 0 with no tick to
take (R155, R156). -/
def Sampler.lawful (m : Sampler) : Bool :=
  m.reload != 0#16 && m.count != 0#16 && decide (m.prescaler < tickLength m.tickSelect) &&
    (m.running || (m.prescaler == 0 && !m.tick))

/-- The stored values lie in the ranges a write leaves them in (R48, R135, R162, R181). -/
def State.rangesLawful (s : State) : Bool :=
  decide (s.pool.lowWater.toNat ≤ Config.records) && decide (s.mem.retryLimit.toNat ≤ 15) &&
    decide (s.sched.maxDeferrals.toNat ≤ 15) && s.sched.period != 0#8

/-- The bounds and forms together that every step keeps. -/
structure State.Lawful (s : State) : Prop where
  live : s.liveCount ≤ Config.liveMarks
  tables : s.tablesCanonical = true
  channels : ∀ c, (s.chan c).lawful = true
  writePath : s.wp.lawful = true
  control : s.ctl.lawful = true
  sampler : s.sampler.lawful = true
  ranges : s.rangesLawful = true
  faultList : s.sweep.faultList.length ≤ Config.faultPages
  demand : s.sweep.demand.length ≤ Config.demandPages
  memoryCredits : s.mem.credits ≤ 65535

/-! ## What CONFIG protects (R144) -/

/-- The fields that software programs in a window entry (R1). -/
def Window.programmed (w : Window) : Bool × Mode × BitVec 28 × BitVec 16 := (w.enable, w.mode, w.base, w.count)

/-- The protected words of two states agree (R144): windows, pool words, policy, hold timeout, memory port word. -/
structure State.SameProtected (s t : State) : Prop where
  windows : ∀ w, (t.window w).programmed = (s.window w).programmed
  poolBase : t.pool.base = s.pool.base
  poolFrames : t.pool.frames = s.pool.frames
  lowWater : t.pool.lowWater = s.pool.lowWater
  policy : t.wp.policy = s.wp.policy
  holdTimeout : t.port.holdTimeout = s.port.holdTimeout
  responseTimeout : t.mem.responseTimeout = s.mem.responseTimeout
  retryLimit : t.mem.retryLimit = s.mem.retryLimit

/-! ## What no port or engine command touches -/

/-- What only register writes, the scheduler, the commands, the resets and time change: windows, the rest of the protected
words, time base, timer, scheduler settings, alert mask, COMMAND_ARG, command result, FAULT_DATA, and the queue of
commands. -/
structure State.SameSettings (s t : State) : Prop extends State.SameProtected s t where
  windowTable : t.windows = s.windows
  assigned : t.pstAssigned = s.pstAssigned
  now : t.now = s.now
  sampler : t.sampler = s.sampler
  sched : t.sched = s.sched
  mask : t.mgmt.mask = s.mgmt.mask
  argSeq : t.mgmt.argSeq = s.mgmt.argSeq
  argRoll : t.mgmt.argRoll = s.mgmt.argRoll
  argForce : t.mgmt.argForce = s.mgmt.argForce
  argDrop : t.mgmt.argDrop = s.mgmt.argDrop
  cmdCount : t.mgmt.cmdCount = s.mgmt.cmdCount
  result : t.mgmt.result = s.mgmt.result
  faultData : t.mgmt.faultData = s.mgmt.faultData
  spi : t.spi = s.spi
  pending : t.pending = s.pending

/-! ## Kinds of command -/

/-- The commands of the ports and of the sweep engine: link events, messages, sends, timeouts and walk steps. -/
def engineCommand : Instr → Bool
  | .requestPortLinkDown | .requestPortLinkUp | .memoryPortLinkDown _ | .memoryPortLinkUp | .read .. | .write ..
  | .misdirectedUpstreamMessage _ | .unknownTypeMessage .. | .completion .. | .credit _
  | .misdirectedDownstreamMessage _ | .sendRequest | .holdTimeout _ | .responseTimeout _ | .discardWalkStep
  | .commitWalkStep | .restorePhaseStart | .restoreWalkStep | .restorePhaseEnd | .mergeWalkStep => true
  | _ => false

/-- The two resets (R143). -/
def isReset : Instr → Bool
  | .powerOnReset | .rstN => true
  | _ => false

/-- The commands that may clear an event flag: a write of the event flag word, and the resets (R174). -/
def clearsFlags : Instr → Bool
  | .eventFlagWrite _ | .powerOnReset | .rstN => true
  | .registerWrite i _ => i == 0x2C#8
  | _ => false

/-! ## When a command's effect is its own alone -/

/-- The end of a step has nothing to do: no credit of an earlier step is due (R109), the arbiter has no IDLE channel with a
FREE tag or no job to give (R130), and the empty condition does not hold under a CLOSING intake (R120). Every step ends
in such a state. -/
structure State.Settled (s : State) : Prop where
  due : s.port.due = 0
  arbiter : s.idleChannel = none ∨ (s.sweep.demand = [] ∧ s.wp.queue = [] ∧ s.sweep.offer = none)
  intake : s.port.intake = .closing → s.emptyCondition = false

/-- A request that passes the five tests of R110: the link is up, a credit is at hand, the tag's entry is FREE, and the
length, the address and the payload have their form. -/
def State.Accepts (s : State) (tag : Byte) (len : BitVec 2) (addr : Addr) : Prop :=
  s.port.up = true ∧ 0 < s.port.credits ∧ tag.toNat < Config.entries ∧ (s.entry tag.toNat).state = .free ∧
    formOk len addr = true

end Sys2Proof.Machine
end

