-- ==== Sys2Proof/Certificates/Slice0/Obligations.lean ====
section
/-! DEFINITION. The statements for the provers. Each names what it states; OBLIGATIONS.json gives its rule or section. -/

open Sys2Proof Sys2Proof.Machine

/-! ## The machine: steps, resets, laws -/

/-- A step takes the command at the front of the queue and runs it on the queue's rest. -/
def Obligations.StepRunsTheFrontCommand : Prop :=
  ∀ (c : Instr) (rest : List Instr) (s : State),
    step { s with pending := c :: rest } = exec c { s with pending := rest }

/-- Entry `n` waits under a hold deadline that time `now` has reached (R117). -/
def holdReached (s : State) (now n : Nat) : Bool :=
  (match (s.entry n).state with
    | .parked | .waiting | .held | .frameWait => true
    | .free | .issued | .quarantined | .orphaned => false) &&
  (s.entry n).deadline.any fun d => decide (d ≤ now)

/-- Tag `k` has a response deadline that time `now` has reached (R136). -/
def responseReached (s : State) (now k : Nat) : Bool :=
  ((s.tag k).state == .queued || (s.tag k).state == .outstanding) &&
  (s.tag k).deadline.any fun d => decide (d ≤ now)

/-- With no command waiting, one microsecond passes: the time base advances by one; while the timer RUNS the prescaler
counts, and at the tick length it starts again from 0 and a sampling tick has come; it holds 0 otherwise; the timed events
that are due become the queue, each once: the tick, as INTERVAL_END where the count is 1 and as SAMPLING_TICK otherwise, then
the hold timeouts and then the response timeouts, each in ascending order; and nothing else changes. That a step on an empty
queue is a microsecond, and the order of its events, is the model's choice (log 2), and so are the field `tick` and the row
that takes the tick (log 4). -/
def Obligations.IdleStepPassesOneMicrosecond : Prop :=
  ∀ s : State, s.pending = [] → ∃ t, step s = .next t ∧
    t = { s with
      now := s.now + 1, sampler := t.sampler
      pending :=
        (if t.sampler.running = true ∧ t.sampler.tick = true then
          [if t.sampler.count = 1#16 then Instr.intervalEnd else .samplingTick] else []) ++
        ((List.range 128).filter (holdReached s (s.now + 1))).map .holdTimeout ++
        ((List.range 144).filter (responseReached s (s.now + 1))).map .responseTimeout } ∧
    (s.sampler.running = false → t.sampler = { s.sampler with prescaler := 0, tick := false }) ∧
    (s.sampler.running = true → s.sampler.prescaler + 1 < tickLength s.sampler.tickSelect →
      t.sampler = { s.sampler with prescaler := s.sampler.prescaler + 1 }) ∧
    (s.sampler.running = true → tickLength s.sampler.tickSelect ≤ s.sampler.prescaler + 1 →
      t.sampler = { s.sampler with prescaler := 0, tick := true })

/-- The reset values of the register index map (11.3). -/
def resetReading (i : Nat) : Word :=
  if i = 0x00 then 0x04127A01#32 else if i = 0x01 then 0x0010E448#32 else if i = 0x22 then 1#32
  else if 0x80 ≤ i ∧ i < 0x90 then (if i % 2 = 1 then 1#32 else 0#32)
  else if i = 0x92 then 256#32 else if i = 0x94 then 1000#32 else if i = 0x95 then 0x000300C8#32
  else if i = 0x98 then 0x03E80008#32 else if i = 0x99 then 0x03E803E8#32 else if i = 0x9A then 0x00000004#32
  else if i = 0x9C then 0x00400A0C#32 else if i = 0x9D then 0x0000000A#32 else 0#32

/-- Both resets leave every register at the reset value of the index map, ALERT_N released, both links down, every entry,
tag, slot, record and channel at rest, and the time base at 0. The queue of commands is kept (log 1). -/
def Obligations.ResetsLeaveTheResetValues : Prop :=
  ∀ (c : Instr) (s : State), c = .powerOnReset ∨ c = .rstN → ∃ t, exec c s = .next t ∧ t.pending = s.pending ∧
    (∀ i : Byte, t.readWord i = resetReading i.toNat) ∧ t.alert = false ∧ t.summaryByte = 0#8 ∧
    t.port.up = false ∧ t.mem.up = false ∧ t.now = 0 ∧ t.sampler.prescaler = 0 ∧
    (∀ n, t.entry n = .freed) ∧ (∀ k, t.tag k = .idle) ∧ (∀ q, t.slot q = .freed) ∧ (∀ r, t.record r = .freed) ∧
    (∀ k, t.chan k = .reset) ∧ (∀ p, t.page p = .clear) ∧ t.pool.free = [] ∧ t.pool.wait = [] ∧ t.wp.queue = [] ∧
    t.wp.backlog = [] ∧ t.mem.takeList = [] ∧ t.mem.sendQueue = [] ∧ t.sweep = .reset

/-- The bounds and forms that every step keeps hold at reset. -/
def Obligations.LawsHoldAtReset : Prop := State.Lawful State.reset

/-- Every step that answers a next state keeps these bounds and forms of the tables: at most 4 marks LIVE, canonical tables
(the form of the model's own data, log 25), a job in a channel exactly while it is RUNNING or STOPPING, the preservation
queue within 128 and the backlog in use only while it is full, a cause in DEGRADED, reload and count above 0, the prescaler
below the tick length and no tick (the model's own field, log 4) while STOPPED, stored values in range, at most 16 pages in
the fault list, at most 128 in the demand queue, at most 65,535 memory credits. -/
def Obligations.EveryStepKeepsTheLaws : Prop :=
  ∀ s t : State, s.Lawful → step s = .next t → t.Lawful

/-- Every command answers a next state, and leaves the queue of commands to the step. -/
def Obligations.EveryCommandAnswersNext : Prop :=
  ∀ (c : Instr) (s : State), ∃ t, exec c s = .next t ∧ t.pending = s.pending

/-- The commands of the ports and of the sweep engine leave the window table, the protected words, the time base, the
timer, the scheduler, the alert mask, COMMAND_ARG, the command result and FAULT_DATA alone. -/
def Obligations.EngineCommandsKeepSettings : Prop :=
  ∀ (c : Instr) (s : State), engineCommand c = true → ∃ t, exec c s = .next t ∧ s.SameSettings t

/-- Outside CONFIG no command but a reset changes a protected word. -/
def Obligations.ProtectedWordsHoldOutsideConfig : Prop :=
  ∀ (c : Instr) (s : State), s.ctl.state ≠ .config → isReset c = false →
    ∃ t, exec c s = .next t ∧ s.SameProtected t

/-- An event flag that is set stays set through every command but a write of the event flag word and a reset; and a filled
first-error record keeps its kind, tag, address and window through every command of the ports and of the sweep engine,
and `more` goes from 0 to 1 only. -/
def Obligations.FlagsAndFirstErrorAreSticky : Prop :=
  (∀ (c : Instr) (s : State), clearsFlags c = false →
    ∃ t, exec c s = .next t ∧ ∀ f : EventFlag, s.flag f = true → t.flag f = true) ∧
  (∀ (c : Instr) (s : State), engineCommand c = true → s.mgmt.firstError.kind ≠ .none → ∃ t, exec c s = .next t ∧
    t.mgmt.firstError = { s.mgmt.firstError with more := t.mgmt.firstError.more } ∧
    (s.mgmt.firstError.more = true → t.mgmt.firstError.more = true))

/-! ## The register window (10, 11) -/

/-- ALERT_N is driven low exactly while some flag is set and enabled, the summary byte shows it, a mask write stores the 21
enables and changes no flag, both resets leave the mask 0 and ALERT_N released, and CONFIG_ENTER and the four link events
leave the mask unchanged. The mask word reads as stored. -/
def Obligations.AlertFollowsFlagsAndMask : Prop :=
  (∀ s : State, s.alert = true ↔ ∃ f : EventFlag, s.flag f = true ∧ s.mgmt.mask.getLsbD f.bit = true) ∧
  (∀ s : State, s.summaryByte.getLsbD 3 = s.alert) ∧
  (∀ (d : Word) (s : State), exec (.alertMaskWrite d) s =
    .next { s with mgmt := { s.mgmt with mask := d.setWidth 21 } }) ∧
  (∀ s : State, s.readWord 0x2D#8 = s.mgmt.mask.setWidth 32) ∧
  (∀ (c : Instr) (s : State), c = .powerOnReset ∨ c = .rstN →
    ∃ t, exec c s = .next t ∧ t.mgmt.mask = 0#21 ∧ t.alert = false) ∧
  (∀ (c : Instr) (s : State) (k : Nat), c ∈ [Instr.configEnter, .requestPortLinkDown, .requestPortLinkUp,
    .memoryPortLinkDown k, .memoryPortLinkUp] → ∃ t, exec c s = .next t ∧ t.mgmt.mask = s.mgmt.mask)

/-- A write of the event flag word clears each flag that carries a one, leaves each that carries a zero, and changes nothing
else. A write of the first-error clear index empties the record, whatever the data, and changes nothing else; a capture then
fills the empty record, and a capture into a filled record sets `more` alone. -/
def Obligations.FlagAndFirstErrorWritesClear : Prop :=
  (∀ (d : Word) (s : State), ∃ t, exec (.eventFlagWrite d) s = .next t ∧
    (∀ f : EventFlag, t.flag f = (s.flag f && !d.getLsbD f.bit)) ∧
    t = { s with mgmt := { s.mgmt with flags := t.mgmt.flags } }) ∧
  (∀ (d : Word) (s : State), exec (.firstErrorClear d) s =
    .next { s with mgmt := { s.mgmt with firstError := ⟨.none, none, none, none, false⟩ } }) ∧
  (∀ (s : State) k t a w, s.mgmt.firstError.kind = .none →
    s.capture k t a w = { s with mgmt := { s.mgmt with firstError := ⟨k, t, a, w, false⟩ } }) ∧
  (∀ (s : State) k t a w, s.mgmt.firstError.kind ≠ .none →
    s.capture k t a w =
      { s with mgmt := { s.mgmt with firstError := { s.mgmt.firstError with more := true } } })

/-- Word `i` reads these fields, each a lowest bit, a width and a value, and 0 above the last, which ends at bit `top`. -/
def reads (s : State) (i : Byte) (top : Nat) (l : List (Nat × Nat × Nat)) : Prop :=
  (s.readWord i).toNat < 2 ^ top ∧ ∀ e, e ∈ l → field (s.readWord i) e.1 e.2.1 = e.2.2 % 2 ^ e.2.1

/-- How many of the numbers below `n` satisfy `f`. -/
def howMany (n : Nat) (f : Nat → Bool) : Nat := ((List.range n).filter f).length

/-- The fields of channel `c` in a copy engine status word, from bit `lo`. With no job the kind reads 0 (log 32). -/
def channelFields (s : State) (c lo : Nat) : List (Nat × Nat × Nat) :=
  [(lo, 2, match (s.chan c).state with | .idle => 0 | .running => 1 | .stopping => 2 | .blocked => 3),
    (lo + 2, 1, match (s.chan c).job with
      | none => 0
      | some j => match j.kind with | .preservation => 0 | .restore => 1),
    (lo + 3, 5, (s.chan c).done),
    (lo + 8, 3, howMany 4 fun k => (s.copyTag (128 + 4 * c + k)).use == .quarantined)]

/-- The fields of a command result word's enumerations, as 11.3 codes them. -/
def resultCode : Result → Nat
  | .none => 0 | .accepted => 1 | .done => 2 | .busy => 3 | .badState => 4 | .noSuchMark => 5 | .stackFull => 6
  | .damaged => 7 | .seqLimit => 8 | .tableFault => 9 | .configInvalid => 10 | .badOpcode => 11

/-- Detail codes (11.3). -/
def detailCode : Detail → Nat
  | .none => 0 | .overlap => 1 | .range => 2 | .pstFull => 3 | .poolSize => 4

/-- The read-only words read, in every state, the fields that the register index map gives them: identification and
capability, whose fields are the part's sizes; operating state; port, memory port, copy engine, pool and sweep status; the
rollback report; the slot readouts and mark counts; the counters; first error; command result and count; the activity
counters; sampler and scheduler status. A write to one is ignored and sets MGMT_REJECT. A field that its valid bit excludes
reads 0, which is the model's choice (log 32). -/
def Obligations.ReadOnlyWordsShowTheState : Prop :=
  ∀ s : State,
    (s.readWord 0x00#8 = 0x04127A01#32 ∧ s.readWord 0x01#8 = 0x0010E448#32 ∧
      reads s 0x01#8 21 [(0, 4, 8), (4, 4, 4), (8, 4, 4), (12, 4, 14), (16, 5, 16)]) ∧
    reads s 0x02#8 25
      [(0, 2, match s.ctl.state with | .config => 0 | .guarding => 1 | .degraded => 2 | .recovering => 3),
        (2, 1, s.ctl.tableFault.toNat), (3, 1, s.ctl.causeLink.toNat), (4, 1, s.ctl.causeTable.toNat),
        (5, 1, s.ctl.causeCommand.toNat), (6, 1, s.ctl.spoiled.toNat), (7, 1, s.ctl.faultDuring.toNat),
        (8, 1, s.ctl.linkLost.toNat), (9, 1, s.ctl.invalid.toNat), (10, 3, detailCode s.ctl.detail),
        (13, 12, s.ctl.subject.toNat)] ∧
    reads s 0x03#8 28
      [(0, 1, s.port.up.toNat), (1, 2, match s.port.intake with | .opened => 0 | .closing => 1 | .closed => 2),
        (3, 1, if howMany 128 (fun n => (s.entry n).state != .free) = 0 then 0 else 1), (4, 8, s.port.credits),
        (12, 8, s.port.owed), (20, 8, howMany 128 fun n => (s.entry n).state != .free)] ∧
    reads s 0x04#8 24
      [(0, 8, howMany 128 fun n => (s.entry n).state == .quarantined),
        (8, 8, howMany 128 fun n => (s.entry n).state == .orphaned), (16, 8, s.sweep.park.length)] ∧
    reads s 0x05#8 30
      [(0, 1, s.mem.up.toNat), (1, 8, s.mem.sendQueue.length),
        (9, 8, howMany 144 fun k => (s.tag k).state == .outstanding),
        (17, 8, howMany 128 fun k => (s.tag k).state == .quarantined),
        (25, 5, howMany 16 fun k => (s.tag (128 + k)).state == .quarantined)] ∧
    reads s 0x06#8 16 [(0, 16, s.mem.credits)] ∧
    reads s 0x07#8 22 (channelFields s 0 0 ++ channelFields s 1 11) ∧
    reads s 0x08#8 23 (channelFields s 2 0 ++ channelFields s 3 11 ++ [(22, 1, s.sweep.offer.isSome.toNat)]) ∧
    reads s 0x09#8 23 [(0, 15, s.pool.free.length), (15, 8, s.pool.wait.length)] ∧
    reads s 0x0A#8 24 [(0, 16, s.pool.frames.toNat), (16, 8, s.wp.queue.length)] ∧
    reads s 0x0B#8 24
      [(0, 2, match s.sweep.kind with | .none => 0 | .discard => 1 | .commit => 2 | .rollback => 3),
        (2, 3, match s.sweep.cause with
          | none => 0 | some .discard => 0 | some .markRoll => 1 | some .autoRoll => 2 | some .pressure => 3
          | some .commit => 4 | some .recover => 5 | some .rollback => 6),
        (5, 2, match s.sweep.phase with | .walk => 0 | .drain => 1 | .restore => 2 | .merge => 3),
        (7, 8, s.sweep.demand.length), (15, 8, s.sweep.park.length), (23, 1, s.sweep.waitingOn.isSome.toNat)] ∧
    (s.sweep.kind = .none ∨ s.sweep.kind = .commit → s.readWord 0x0C#8 = 0#32) ∧
    (∀ q, s.sweep.kind = .discard → s.sweep.retiring = some q → s.readWord 0x0C#8 = (s.slot q).seq) ∧
    (∀ q, s.sweep.kind = .rollback → s.sweep.target = some q → s.readWord 0x0C#8 = (s.slot q).seq) ∧
    s.readWord 0x0D#8 = s.sweep.faultCount ∧
    reads s 0x0E#8 6 [(0, 5, s.sweep.faultList.length), (5, 1, s.sweep.faultOverflow.toNat)] ∧
    s.readWord 0x10#8 = s.sweep.report.target ∧
    s.readWord 0x11#8 = s.sweep.report.faults ++ s.sweep.report.restored ∧
    s.readWord 0x12#8 = s.sweep.report.released ++ s.sweep.report.demands ∧
    (∀ q, q < 5 → s.readWord (BitVec.ofNat 8 (0x18 + 2 * q)) = (s.slot q).seq ∧
      reads s (BitVec.ofNat 8 (0x19 + 2 * q)) 19
        [(0, 2, match (s.slot q).state with | .free => 0 | .live => 1 | .retiring => 2 | .unwinding => 3),
          (2, 1, match (s.slot q).origin with | .command => 0 | .auto => 1), (3, 1, (s.slot q).damaged.toNat),
          (4, 15, (s.slot q).count)]) ∧
    s.readWord 0x22#8 = s.nextSeq ∧
    reads s 0x23#8 6 [(0, 3, howMany 5 fun q => (s.slot q).state == .live),
      (3, 3, howMany 5 fun q => (s.slot q).state != .free)] ∧
    (s.readWord 0x24#8 = s.wp.breaks ∧ s.readWord 0x25#8 = s.mem.retryCount ∧ s.readWord 0x26#8 = s.mem.errorCount ∧
      s.readWord 0x27#8 = s.mem.timeoutCount ∧ s.readWord 0x28#8 = s.mem.lateCount) ∧
    reads s 0x2E#8 25
      [(0, 3, match s.mgmt.firstError.kind with
          | .none => 0 | .protocol => 1 | .refusal => 2 | .timeout => 3 | .copy => 4 | .parity => 5),
        (3, 1, s.mgmt.firstError.tag.isSome.toNat), (4, 7, s.mgmt.firstError.tag.getD 0),
        (11, 1, s.mgmt.firstError.window.isSome.toNat), (12, 3, s.mgmt.firstError.window.getD 0),
        (15, 1, s.mgmt.firstError.address.isSome.toNat), (16, 1, s.mgmt.firstError.more.toNat),
        (17, 8, (s.mgmt.firstError.address.getD 0#40).toNat / 2 ^ 32)] ∧
    s.readWord 0x2F#8 = (s.mgmt.firstError.address.getD 0#40).extractLsb' 0 32 ∧
    reads s 0x34#8 27
      [(0, 8, s.mgmt.result.code.toNat), (8, 4, resultCode s.mgmt.result.result),
        (12, 3, detailCode s.mgmt.result.detail), (15, 12, s.mgmt.result.subject.toNat)] ∧
    s.readWord 0x35#8 = s.mgmt.cmdCount ∧
    (∀ w, w < 8 → ∀ k, k < 4 →
      s.readWord (BitVec.ofNat 8 (0x40 + 8 * w + k)) =
        ([(s.act w).running.reads, (s.act w).running.writes, (s.act w).running.preserves, (s.act w).running.refusals].getD
          k 0#32) ∧
      s.readWord (BitVec.ofNat 8 (0x44 + 8 * w + k)) =
        ([(s.act w).last.reads, (s.act w).last.writes, (s.act w).last.preserves, (s.act w).last.refusals].getD k 0#32)) ∧
    s.readWord 0x99#8 = s.sampler.reload ++ s.sampler.count ∧
    reads s 0x9A#8 3 [(0, 1, s.sampler.running.toNat), (1, 2, s.sampler.tickSelect.toNat)] ∧
    reads s 0x9D#8 18
      [(0, 8, s.sched.periodCounter.toNat), (8, 4, s.sched.deferrals.toNat),
        (12, 3, match s.sched.outcome with
          | .none => 0 | .taken => 1 | .badState => 2 | .busy => 3 | .seqLimit => 4 | .stackFull => 5),
        (15, 1, 0), (16, 1, s.sched.enable.toNat), (17, 1, s.sched.roll.toNat)] ∧
    s.readWord 0x9E#8 = s.sched.lastSeq ∧
    (∀ (i : Byte) (d : Word), i.toNat < 0x2C ∨ i ∈ [0x2E#8, 0x2F#8, 0x34#8, 0x35#8, 0x99#8, 0x9A#8, 0x9D#8, 0x9E#8] ∨
        (0x40 ≤ i.toNat ∧ i.toNat < 0x80) →
      exec (.registerWrite i d) s = .next { s with mgmt := { s.mgmt with flags := s.mgmt.flags ||| BitVec.twoPow 21 20 } })

/-- In CONFIG a write of a protected word stores its fields: window words, pool words, policy, hold timeout and memory port
word, with the values beyond a field's range stored as R181 gives. Nothing else changes. -/
def Obligations.ProtectedWritesStoreInConfig : Prop :=
  ∀ (i : Byte) (d : Word) (s : State), s.ctl.state = .config →
    (∀ w, w < 8 → i.toNat = 0x80 + 2 * w → ∃ t, exec (.registerWrite i d) s = .next t ∧
      t = { s with windows := t.windows } ∧
      t.window w = { s.window w with
        base := d.extractLsb' 0 28, enable := d.getLsbD 31,
        mode := if d.extractLsb' 28 2 = 0#2 then .pass else if d.extractLsb' 28 2 = 1#2 then .guard
          else if d.extractLsb' 28 2 = 2#2 then .census else .fence } ∧
      ∀ v, v ≠ w → t.window v = s.window v) ∧
    (∀ w, w < 8 → i.toNat = 0x81 + 2 * w → ∃ t, exec (.registerWrite i d) s = .next t ∧
      t = { s with windows := t.windows } ∧ t.window w = { s.window w with count := d.extractLsb' 0 16 } ∧
      ∀ v, v ≠ w → t.window v = s.window v) ∧
    (i = 0x90#8 → exec (.registerWrite i d) s = .next { s with pool := { s.pool with base := d.extractLsb' 0 28 } }) ∧
    (i = 0x91#8 → exec (.registerWrite i d) s =
      .next { s with pool := { s.pool with frames := d.extractLsb' 0 16 } }) ∧
    (i = 0x92#8 → exec (.registerWrite i d) s =
      .next { s with pool := { s.pool with
        lowWater := if 16384 < (d.extractLsb' 0 15).toNat then 16384#15 else d.extractLsb' 0 15 } }) ∧
    (i = 0x93#8 → exec (.registerWrite i d) s =
      .next { s with wp := { s.wp with
        policy := if d.extractLsb' 0 2 = 1#2 then .break else if d.extractLsb' 0 2 = 2#2 then .wait else .refuse } }) ∧
    (i = 0x94#8 → exec (.registerWrite i d) s =
      .next { s with port := { s.port with holdTimeout := d.extractLsb' 0 16 } }) ∧
    (i = 0x95#8 → exec (.registerWrite i d) s =
      .next { s with mem := { s.mem with
        responseTimeout := d.extractLsb' 0 16
        retryLimit := if 15 < (d.extractLsb' 16 8).toNat then 15#8 else d.extractLsb' 16 8 } })

/-- Outside CONFIG a write of a protected word, and in every state a write of a read-only word or of an index that names no
register, is ignored and sets MGMT_REJECT. -/
def Obligations.IgnoredWritesSetMgmtReject : Prop :=
  ∀ (i : Byte) (d : Word) (s : State),
    (0x80 ≤ i.toNat ∧ i.toNat ≤ 0x95 ∧ s.ctl.state ≠ .config) ∨
      ((i.toNat < 0x80 ∨ 0x95 < i.toNat) ∧ i ∉ [0x2C#8, 0x2D#8, 0x30#8, 0x31#8, 0x32#8, 0x33#8, 0x98#8, 0x9C#8]) →
    exec (.registerWrite i d) s =
      .next { s with mgmt := { s.mgmt with flags := s.mgmt.flags ||| BitVec.twoPow 21 20 } }

/-- What the command unit writes when a command ends: the count, the result word and CMD_DONE (R172, steps 2, 3 and 5). -/
def answered (m : Mgmt) (code : Byte) (r : Result) : Mgmt :=
  { m with cmdCount := m.cmdCount + 1#32, result := ⟨code, r, .none, 0#12⟩, flags := m.flags ||| 1#21 }

/-- Every writable word reads as stored, COMMAND, first-error clear and an index that names no register read 0, and the
summary byte shows transactions pending, sweep busy, alert, intake and operating state. COMMAND_ARG is written in every
state: the sequence by index 0x32, the options by index 0x33. A register write of a word
that has a row of its own is that row: the sampler and scheduler control words, the event flag word, the alert mask,
first-error clear, and COMMAND with the command its code names. A code that names no command is refused with BAD_OPCODE: the
command unit's own fields change and nothing else. A complete SPI write frame joins the queue as the command of its index and
word; a read frame captures the indexed word at its index byte, and the summary byte is what goes out first. That
REGISTER_WRITE of a word with its own row is that row, that a frame's end puts the command at the queue's tail, and the
functions that receive the bytes are the model's choice (log 16). -/
def Obligations.ReadWriteWordsAreWritten : Prop :=
  ∀ (d : Word) (s : State),
    (s.readWord 0x2C#8 = s.mgmt.flags.setWidth 32 ∧ s.readWord 0x32#8 = s.mgmt.argSeq ∧
      reads s 0x33#8 3 [(0, 1, s.mgmt.argRoll.toNat), (1, 1, s.mgmt.argForce.toNat), (2, 1, s.mgmt.argDrop.toNat)]) ∧
    (∀ w, w < 8 →
      reads s (BitVec.ofNat 8 (0x80 + 2 * w)) 32
        [(0, 28, (s.window w).base.toNat),
          (28, 2, match (s.window w).mode with | .pass => 0 | .guard => 1 | .census => 2 | .fence => 3), (30, 1, 0),
          (31, 1, (s.window w).enable.toNat)] ∧
      reads s (BitVec.ofNat 8 (0x81 + 2 * w)) 32
        [(0, 16, (s.window w).count.toNat), (16, 16, (s.window w).firstIndex.toNat)]) ∧
    (reads s 0x90#8 28 [(0, 28, s.pool.base.toNat)] ∧ reads s 0x91#8 16 [(0, 16, s.pool.frames.toNat)] ∧
      reads s 0x92#8 15 [(0, 15, s.pool.lowWater.toNat)] ∧
      reads s 0x93#8 2 [(0, 2, match s.wp.policy with | .refuse => 0 | .break => 1 | .wait => 2)] ∧
      reads s 0x94#8 16 [(0, 16, s.port.holdTimeout.toNat)] ∧
      reads s 0x95#8 24 [(0, 16, s.mem.responseTimeout.toNat), (16, 8, s.mem.retryLimit.toNat)]) ∧
    reads s 0x98#8 32
      [(0, 1, s.sampler.running.toNat), (1, 1, 0), (2, 2, s.sampler.tickSelect.toNat), (4, 12, 0),
        (16, 16, s.sampler.reload.toNat)] ∧
    reads s 0x9C#8 32
      [(0, 1, s.sched.enable.toNat), (1, 1, s.sched.roll.toNat), (2, 6, s.sched.maxDeferrals.toNat),
        (8, 8, s.sched.period.toNat), (16, 16, s.sched.quiet.toNat)] ∧
    (∀ i : Byte, i ∈ [0x0F#8, 0x29#8, 0x2A#8, 0x2B#8, 0x30#8, 0x31#8, 0x96#8, 0x97#8, 0x9B#8] ∨
        (0x13 ≤ i.toNat ∧ i.toNat < 0x18) ∨ (0x38 ≤ i.toNat ∧ i.toNat < 0x40) ∨ 0x9F ≤ i.toNat →
      s.readWord i = 0#32) ∧
    (∀ e, e ∈ [(0, 1, 0), (1, 1, if howMany 128 (fun n => (s.entry n).state != .free) = 0 then 0 else 1),
        (2, 1, if s.sweep.kind = .none then 0 else 1), (3, 1, s.alert.toNat),
        (4, 2, match s.port.intake with | .opened => 0 | .closing => 1 | .closed => 2),
        (6, 2, match s.ctl.state with | .config => 0 | .guarding => 1 | .degraded => 2 | .recovering => 3)] →
      field (s.summaryByte.setWidth 32) e.1 e.2.1 = e.2.2) ∧
    exec (.registerWrite 0x32#8 d) s = .next { s with mgmt := { s.mgmt with argSeq := d } } ∧
    exec (.registerWrite 0x33#8 d) s =
      .next { s with mgmt := { s.mgmt with argRoll := d.getLsbD 0, argForce := d.getLsbD 1, argDrop := d.getLsbD 2 } } ∧
    exec (.registerWrite 0x98#8 d) s = exec (.run d) s ∧
    exec (.registerWrite 0x9C#8 d) s = exec (.autoEnableWrite d) s ∧
    exec (.registerWrite 0x2C#8 d) s = exec (.eventFlagWrite d) s ∧
    exec (.registerWrite 0x2D#8 d) s = exec (.alertMaskWrite d) s ∧
    exec (.registerWrite 0x30#8 d) s = exec (.firstErrorClear d) s ∧
    exec (.registerWrite 0x31#8 d) s = exec (commandOf d) s ∧
    (∀ k c, (k, c) ∈ [(1, Instr.configEnter), (2, .configExit), (3, .mark), (4, .discard), (5, .commit), (6, .rollback),
      (7, .quiesce), (8, .resume), (9, .degrade), (10, .recover), (11, .clearCounts), (12, .faultPop)] →
      (d.extractLsb' 0 8).toNat = k → commandOf d = c) ∧
    ((d.extractLsb' 0 8).toNat = 0 ∨ 13 ≤ (d.extractLsb' 0 8).toNat → commandOf d = .badOpcode (d.extractLsb' 0 8)) ∧
    (∀ k : Byte, exec (.badOpcode k) s = .next { s with mgmt := answered s.mgmt k .badOpcode }) ∧
    (∀ i a b c e : Byte,
      ((((((s.spiSelect.spiByte 0xC2#8).spiByte i).spiByte a).spiByte b).spiByte c).spiByte e).pending =
        s.pending ++ [writeCommand i (a ++ b ++ c ++ e)]) ∧
    (∀ i : Byte, exec (writeCommand i d) s = exec (.registerWrite i d) s ∧ s.spiSelect.misoByte = s.summaryByte ∧
      ((s.spiSelect.spiByte 0xC1#8).spiByte i).spi.word = s.readWord i)

/-! ## Timer and scheduler (09) -/

/-- A write of the sampler control word takes one step: reload and tick select are stored, a restart reloads the count from
the new reload, and the run state is set; the prescaler is 0 after a restart, a changed tick select or a changed run state
and is not touched otherwise. A tick that has come and is not yet taken outlasts a restart, and is dropped with a changed tick
select or run state. RUN, STOP, RESTART and TICK_SELECT_WRITE all carry the whole word and make this write, whichever field
the row names: the model's choice (log 16); what becomes of the tick is log 4's. -/
def Obligations.SamplerControlWriteIsOneStep : Prop :=
  ∀ (c : Instr) (d : Word) (s : State), c ∈ [Instr.run d, .stop d, .restart d, .tickSelectWrite d] →
    exec c s = .next { s with sampler :=
      { running := d.getLsbD 0
        tickSelect := d.extractLsb' 2 2
        reload := if d.extractLsb' 16 16 = 0#16 then 1#16 else d.extractLsb' 16 16
        count := if d.getLsbD 1 = true then (if d.extractLsb' 16 16 = 0#16 then 1#16 else d.extractLsb' 16 16)
          else s.sampler.count
        prescaler := if d.getLsbD 1 = true ∨ d.extractLsb' 2 2 ≠ s.sampler.tickSelect ∨ d.getLsbD 0 ≠ s.sampler.running
          then 0 else s.sampler.prescaler
        tick := s.sampler.tick && d.extractLsb' 2 2 == s.sampler.tickSelect && d.getLsbD 0 == s.sampler.running } }

/-- A write of the scheduler control word stores its fields; auto enable set from 0 to 1 loads the period counter from the
new mark period and clears the deferral counter; roll retention set from 0 to 1 makes a pressure check, and nothing else
does. AUTO_ENABLE_WRITE and ROLL_RETENTION_WRITE both carry the whole word and make this write: the model's choice (log
16), and so is that the period loaded is the one this write stores (log 37). -/
def Obligations.SchedulerControlWriteStores : Prop :=
  ∀ (c : Instr) (d : Word) (s : State), c ∈ [Instr.autoEnableWrite d, .rollRetentionWrite d] → ∃ u : State,
    exec c s = .next (if s.sched.roll = false ∧ d.getLsbD 1 = true then u.pressureCheck else u) ∧
    u = { s with sched := { s.sched with
      enable := d.getLsbD 0
      roll := d.getLsbD 1
      maxDeferrals := if 15 < (d.extractLsb' 2 6).toNat then 15#6 else d.extractLsb' 2 6
      period := if d.extractLsb' 8 8 = 0#8 then 1#8 else d.extractLsb' 8 8
      quiet := d.extractLsb' 16 16
      periodCounter := if s.sched.enable = false ∧ d.getLsbD 0 = true then
          (if d.extractLsb' 8 8 = 0#8 then 1#8 else d.extractLsb' 8 8) else s.sched.periodCounter
      deferrals := if s.sched.enable = false ∧ d.getLsbD 0 = true then 0#4 else s.sched.deferrals } }

/-- A pressure check retires the oldest LIVE mark, without a predecessor and with PRESSURE_RETIRE, exactly when roll
retention is 1, the pool is under pressure, at least two marks are LIVE and the engine is idle; otherwise it does
nothing. The fields `walkSlot` and `walked` are the model's own (log 28). -/
def Obligations.PressureCheckRetiresTheOldest : Prop :=
  ∀ s : State,
    (¬(s.sched.roll = true ∧
        (s.pool.free.length < s.pool.lowWater.toNat ∨ (s.pool.wait ≠ [] ∧ s.pool.free = [])) ∧
        2 ≤ s.liveCount ∧ s.sweep.kind = .none) → s.pressureCheck = s) ∧
    (s.sched.roll = true → (s.pool.free.length < s.pool.lowWater.toNat ∨ (s.pool.wait ≠ [] ∧ s.pool.free = [])) →
      2 ≤ s.liveCount → s.sweep.kind = .none →
      ∃ q, q < 5 ∧ (s.slot q).state = .live ∧ (∀ j, j < 5 → (s.slot j).state = .live → (s.slot q).seq ≤ (s.slot j).seq) ∧
        s.pressureCheck =
          { s with
            slots := s.slots.set .freed q { s.slot q with state := .retiring }
            sweep := { s.sweep with
              kind := .discard, cause := some .pressure, phase := .walk, retiring := some q, predecessor := none
              order := [(q, (s.slot q).head)], cursor := (s.slot q).head, walkSlot := some q, walked := [], waitingOn := none }
            mgmt := { s.mgmt with flags := s.mgmt.flags ||| BitVec.twoPow 21 6 } })

/-- A sampling tick that has come takes one from the count; where the count is 1 it is the interval end: the count is
reloaded, every last-interval set takes its running set, which becomes 0, and SAMPLE_END is set; on the state so latched comes
the auto-mark step, which AutoMarkStepTakesDefersOrMisses states, and after it the pressure check, which
PressureCheckRetiresTheOldest states. With the scheduler disabled and no pressure retire to make, nothing else changes. Before
a tick has come neither row has an effect. That the two rows,
SAMPLING_TICK and INTERVAL_END, have one effect, which the count decides, is the model's choice (log 4). -/
def Obligations.TicksCountAndLatch : Prop :=
  ∀ (s : State) (c : Instr), c ∈ [Instr.samplingTick, .intervalEnd] →
    (s.sampler.running = false ∨ s.sampler.tick = false → exec c s = .next s) ∧
    (s.sampler.running = true → s.sampler.tick = true →
      (s.sampler.count ≠ 1#16 → exec c s =
        .next { s with sampler := { s.sampler with count := s.sampler.count - 1#16, tick := false } }) ∧
      (s.sampler.count = 1#16 → ∃ t, exec c s = .next t ∧
        (∃ u : State, t = u.autoStep.pressureCheck ∧
          (s.activity.canonical .zero = true → ∀ w, u.act w = ⟨.zero, (s.act w).running⟩) ∧
          u = { s with
            sampler := { s.sampler with count := s.sampler.reload, tick := false }, activity := u.activity
            mgmt := { s.mgmt with flags := s.mgmt.flags ||| BitVec.twoPow 21 18 } }) ∧
        t.sampler = { s.sampler with count := s.sampler.reload, tick := false } ∧
        t.flag .sampleEnd = true ∧
        (s.activity.canonical .zero = true → ∀ w, t.act w = ⟨.zero, (s.act w).running⟩) ∧
        t = { s with
          sampler := t.sampler, activity := t.activity, sched := t.sched, slots := t.slots, nextSeq := t.nextSeq
          sweep := t.sweep, mgmt := t.mgmt } ∧
        (s.sched.enable = false → s.pressureCheck = s →
          t = { s with
            sampler := t.sampler, activity := t.activity
            mgmt := { s.mgmt with flags := s.mgmt.flags ||| BitVec.twoPow 21 18 } })))

/-- The auto-mark step: the period counter falls to 0 before a mark is due; a due mark is deferred while the guarded write
total, the sum of the last-interval write counters of the enabled GUARD windows, is above the quiet threshold and the
deferral counter below its limit; otherwise it is a MARK claim with origin AUTO, and taken or missed the counters restart; a
missed mark changes its outcome, the counters and the flag and nothing else. With roll retention at 4 LIVE and an idle engine
the oldest LIVE mark is first retired without a predecessor. The fields `walkSlot` and `walked` are the model's own (log 28).
-/
def Obligations.AutoMarkStepTakesDefersOrMisses : Prop :=
  ∀ s : State,
    s.guardedTotal = (((List.range 8).filter fun w => (s.window w).enable && (s.window w).mode == .guard).map fun w =>
      (s.act w).last.writes.toNat).sum ∧
    (s.sched.enable = false → s.autoStep = s) ∧
    (s.sched.enable = true → 1 < s.sched.periodCounter.toNat →
      s.autoStep = { s with sched := { s.sched with periodCounter := s.sched.periodCounter - 1#8 } }) ∧
    (s.sched.enable = true → s.sched.periodCounter.toNat ≤ 1 → s.sched.quiet.toNat < s.guardedTotal →
      s.sched.deferrals.toNat < s.sched.maxDeferrals.toNat →
      s.autoStep = { s with sched := { s.sched with periodCounter := 0#8, deferrals := s.sched.deferrals + 1#4 } }) ∧
    (s.sched.enable = true → s.sched.periodCounter.toNat ≤ 1 →
      s.guardedTotal ≤ s.sched.quiet.toNat ∨ s.sched.maxDeferrals.toNat ≤ s.sched.deferrals.toNat →
      ∃ t, s.autoStep = t ∧ t.sched.periodCounter = s.sched.period ∧ t.sched.deferrals = 0#4 ∧
        (s.ctl.state ≠ .guarding → t.sched.outcome = .badState) ∧
        (s.ctl.state = .guarding → s.sweep.kind = .commit ∨ s.sweep.kind = .rollback → t.sched.outcome = .busy) ∧
        (s.ctl.state = .guarding → s.sweep.kind = .none ∨ s.sweep.kind = .discard → s.nextSeq = 0#32 →
          t.sched.outcome = .seqLimit) ∧
        (s.ctl.state = .guarding → s.sweep.kind = .none ∨ s.sweep.kind = .discard → s.nextSeq ≠ 0#32 →
          4 ≤ s.liveCount → s.sched.roll = false → t.sched.outcome = .stackFull) ∧
        (s.ctl.state = .guarding → s.sweep.kind = .discard → s.nextSeq ≠ 0#32 → 4 ≤ s.liveCount →
          s.sched.roll = true → t.sched.outcome = .busy) ∧
        (t.sched.outcome ≠ .taken →
          t = { s with
            sched := { s.sched with
              outcome := t.sched.outcome, periodCounter := s.sched.period, deferrals := 0#4 }
            mgmt := { s.mgmt with flags := s.mgmt.flags ||| BitVec.twoPow 21 5 } }) ∧
        (∀ i, s.ctl.state = .guarding → s.sweep.kind = .none ∨ s.sweep.kind = .discard → s.nextSeq ≠ 0#32 →
          s.liveCount < 4 → i < 5 → (s.slot i).state = .free → (∀ j, j < i → (s.slot j).state ≠ .free) →
          t = { s with
            sched := { s.sched with
              periodCounter := s.sched.period, deferrals := 0#4, outcome := .taken, lastSeq := s.nextSeq }
            slots := s.slots.set .freed i ⟨.live, s.nextSeq, .auto, false, 0, none, none⟩
            nextSeq := s.nextSeq + 1#32
            mgmt := { s.mgmt with flags := s.mgmt.flags ||| BitVec.twoPow 21 4 } }) ∧
        (∀ i q, s.ctl.state = .guarding → s.sweep.kind = .none → s.nextSeq ≠ 0#32 → s.liveCount = 4 →
          s.sched.roll = true → i < 5 → q < 5 → (s.slot i).state = .free → (s.slot q).state = .live →
          (∀ j, j < 5 → j ≠ q → (s.slot j).state = .live → (s.slot q).seq < (s.slot j).seq) →
          t = { s with
            sched := { s.sched with
              periodCounter := s.sched.period, deferrals := 0#4, outcome := .taken, lastSeq := s.nextSeq }
            slots := (s.slots.set .freed q { s.slot q with state := .retiring }).set .freed i
              ⟨.live, s.nextSeq, .auto, false, 0, none, none⟩
            nextSeq := s.nextSeq + 1#32
            sweep := { s.sweep with
              kind := .discard, cause := some .autoRoll, phase := .walk, retiring := some q, predecessor := none
              order := [(q, (s.slot q).head)], cursor := (s.slot q).head, walkSlot := some q, walked := [], waitingOn := none }
            mgmt := { s.mgmt with flags := s.mgmt.flags ||| BitVec.twoPow 21 4 } }))

/-! ## The command unit (10, 10.3) and the commands -/

/-- CLEAR_COUNTS sets every activity counter of every window to 0 in both sets, as one step, in every state, returns DONE,
and touches nothing else. A tick or an interval end that follows it leaves both sets 0. -/
def Obligations.ClearCountsClearsEveryCounter : Prop :=
  ∀ s : State, ∃ t, exec .clearCounts s = .next t ∧ (∀ w, t.act w = .zero) ∧
    t = { s with activity := t.activity, mgmt := answered s.mgmt 11#8 .done } ∧
    ∀ c, c ∈ [Instr.samplingTick, .intervalEnd] → ∃ u, exec c t = .next u ∧ ∀ w, u.act w = .zero

/-- FAULT_POP takes the oldest page number of the fault list into FAULT_DATA, with what remains and the overflow flag; on
an empty list FAULT_DATA holds valid 0 and the overflow flag as it stood, which is then cleared. DONE in every state. The
fault count stays. A failure joins the list's tail; the word reads as stored and is read-only; both resets leave it valid 0,
and a CONFIG_ENTER leaves it as it was and, if DONE, the list empty. -/
def Obligations.FaultPopTakesTheOldest : Prop :=
  ∀ s : State,
    (∀ n rest, s.sweep.faultList = n :: rest → exec .faultPop s =
      .next { s with
        sweep := { s.sweep with faultList := rest }
        mgmt := { answered s.mgmt 12#8 .done with faultData := ⟨true, n, rest.length, s.sweep.faultOverflow⟩ } }) ∧
    (s.sweep.faultList = [] → exec .faultPop s =
      .next { s with
        sweep := { s.sweep with faultOverflow := false }
        mgmt := { answered s.mgmt 12#8 .done with faultData := ⟨false, 0, 0, s.sweep.faultOverflow⟩ } }) ∧
    (∀ n, s.sweep.faultList.length < 16 → (s.appendFault (some n)).sweep.faultList = s.sweep.faultList ++ [n]) ∧
    s.readWord 0x36#8 = BitVec.ofNat 32 (s.mgmt.faultData.page % 2 ^ 28) ∧
    s.readWord 0x37#8 = BitVec.ofNat 32 ((if s.mgmt.faultData.valid = true then 1 else 0) +
      2 * (s.mgmt.faultData.remaining % 16) + (if s.mgmt.faultData.overflow = true then 32 else 0)) ∧
    (∀ (i : Byte) (d : Word), i = 0x36#8 ∨ i = 0x37#8 → exec (.registerWrite i d) s =
      .next { s with mgmt := { s.mgmt with flags := s.mgmt.flags ||| BitVec.twoPow 21 20 } }) ∧
    (∀ c : Instr, c = .powerOnReset ∨ c = .rstN → ∃ t, exec c s = .next t ∧ t.mgmt.faultData = ⟨false, 0, 0, false⟩) ∧
    (∃ t, exec .configEnter s = .next t ∧ t.mgmt.faultData = s.mgmt.faultData ∧
      (t.mgmt.result.result = .done → t.sweep.faultList = []))

/-- MARK is tested in order. A refused MARK changes no slot and no counter. A push takes the lowest-numbered FREE slot
with the next sequence, origin COMMAND, and COMMAND_ARG then holds that sequence; with ROLL at 4 LIVE and an idle engine
the oldest LIVE mark is first retired without a predecessor. That a MARK with ROLL behind a pressure retire, which leaves
3 LIVE, is a push and not BUSY is the model's choice between R31 and R166 (log 36). The fields `walkSlot` and `walked` are
the model's own (log 28). -/
def Obligations.MarkIsTestedInOrder : Prop :=
  ∀ s : State,
    (s.ctl.state ≠ .guarding → exec .mark s = .next { s with mgmt := answered s.mgmt 3#8 .badState }) ∧
    (s.ctl.state = .guarding → s.sweep.kind = .commit ∨ s.sweep.kind = .rollback →
      exec .mark s = .next { s with mgmt := answered s.mgmt 3#8 .busy }) ∧
    (s.ctl.state = .guarding → s.sweep.kind = .none ∨ s.sweep.kind = .discard →
      (s.nextSeq = 0#32 → exec .mark s = .next { s with mgmt := answered s.mgmt 3#8 .seqLimit }) ∧
      (s.nextSeq ≠ 0#32 → s.liveCount = 4 → s.mgmt.argRoll = false →
        exec .mark s = .next { s with mgmt := answered s.mgmt 3#8 .stackFull }) ∧
      (s.nextSeq ≠ 0#32 → s.liveCount = 4 → s.mgmt.argRoll = true → s.sweep.kind = .discard →
        exec .mark s = .next { s with mgmt := answered s.mgmt 3#8 .busy }) ∧
      (∀ i, s.nextSeq ≠ 0#32 → s.liveCount < 4 → i < 5 → (s.slot i).state = .free →
        (∀ j, j < i → (s.slot j).state ≠ .free) →
        exec .mark s = .next { s with
          slots := s.slots.set .freed i ⟨.live, s.nextSeq, .command, false, 0, none, none⟩
          nextSeq := s.nextSeq + 1#32
          mgmt := { answered s.mgmt 3#8 .done with argSeq := s.nextSeq } }) ∧
      (∀ i q, s.nextSeq ≠ 0#32 → s.liveCount = 4 → s.mgmt.argRoll = true → s.sweep.kind = .none → i < 5 → q < 5 →
        (s.slot i).state = .free → (s.slot q).state = .live →
        (∀ j, j < 5 → j ≠ q → (s.slot j).state = .live → (s.slot q).seq < (s.slot j).seq) →
        exec .mark s = .next { s with
          slots := (s.slots.set .freed q { s.slot q with state := .retiring }).set .freed i
            ⟨.live, s.nextSeq, .command, false, 0, none, none⟩
          nextSeq := s.nextSeq + 1#32
          sweep := { s.sweep with
            kind := .discard, cause := some .markRoll, phase := .walk, retiring := some q, predecessor := none
            order := [(q, (s.slot q).head)], cursor := (s.slot q).head, walkSlot := some q, walked := [], waitingOn := none }
          mgmt := { answered s.mgmt 3#8 .done with argSeq := s.nextSeq } }))

/-- DISCARD is tested in order. On acceptance the slot named becomes RETIRING, the predecessor is the LIVE slot with the
greatest sequence below it, or none, and the discard sweep starts at its oldest record. The fields `walkSlot` and
`walked` are the model's own (log 28). -/
def Obligations.DiscardIsTestedInOrder : Prop :=
  ∀ s : State,
    (s.ctl.state = .config ∨ s.ctl.state = .recovering →
      exec .discard s = .next { s with mgmt := answered s.mgmt 4#8 .badState }) ∧
    (s.ctl.state = .guarding ∨ s.ctl.state = .degraded → s.sweep.kind ≠ .none →
      exec .discard s = .next { s with mgmt := answered s.mgmt 4#8 .busy }) ∧
    (s.ctl.state = .guarding ∨ s.ctl.state = .degraded → s.sweep.kind = .none →
      (∀ q, q < 5 → (s.slot q).state = .live → (s.slot q).seq ≠ s.mgmt.argSeq) →
      exec .discard s = .next { s with mgmt := answered s.mgmt 4#8 .noSuchMark }) ∧
    (∀ q, s.ctl.state = .guarding ∨ s.ctl.state = .degraded → s.sweep.kind = .none → q < 5 →
      (s.slot q).state = .live → (s.slot q).seq = s.mgmt.argSeq →
      (∀ j, j < 5 → (s.slot j).state = .live → (s.slot j).seq = s.mgmt.argSeq → j = q) →
      ∃ p : Option Nat, exec .discard s = .next { s with
          slots := s.slots.set .freed q { s.slot q with state := .retiring }
          sweep := { s.sweep with
            kind := .discard, cause := some .discard, phase := .walk, retiring := some q, predecessor := p
            order := [(q, (s.slot q).head)], cursor := (s.slot q).head, walkSlot := some q, walked := [], waitingOn := none }
          mgmt := answered s.mgmt 4#8 .accepted } ∧
        (p = none → ∀ j, j < 5 → (s.slot j).state = .live → (s.slot q).seq ≤ (s.slot j).seq) ∧
        (∀ k, p = some k → k < 5 ∧ (s.slot k).state = .live ∧ (s.slot k).seq < (s.slot q).seq ∧
          ∀ j, j < 5 → (s.slot j).state = .live → (s.slot j).seq < (s.slot q).seq → (s.slot j).seq ≤ (s.slot k).seq))

/-- ROLLBACK is tested in order. On acceptance the sweep engine records the target and the options, the drain begins with
every entry in WAITING, HELD, FRAME_WAIT or ISSUED in the drain set, and the report holds the target's sequence and zero
counts; no slot changes. The fields `walkSlot` and `walked` are the model's own (log 28). -/
def Obligations.RollbackIsTestedInOrder : Prop :=
  ∀ s : State,
    (s.ctl.state = .config ∨ s.ctl.state = .recovering →
      exec .rollback s = .next { s with mgmt := answered s.mgmt 6#8 .badState }) ∧
    (s.ctl.state = .guarding ∨ s.ctl.state = .degraded →
      (s.sweep.kind ≠ .none → exec .rollback s = .next { s with mgmt := answered s.mgmt 6#8 .busy }) ∧
      (s.sweep.kind = .none → s.ctl.tableFault = true →
        exec .rollback s = .next { s with mgmt := answered s.mgmt 6#8 .tableFault }) ∧
      (s.sweep.kind = .none → s.ctl.tableFault = false →
        (∀ q, q < 5 → (s.slot q).state = .live → (s.slot q).seq ≠ s.mgmt.argSeq) →
        exec .rollback s = .next { s with mgmt := answered s.mgmt 6#8 .noSuchMark }) ∧
      (∀ q, s.sweep.kind = .none → s.ctl.tableFault = false → q < 5 → (s.slot q).state = .live →
        (s.slot q).seq = s.mgmt.argSeq →
        (∀ j, j < 5 → (s.slot j).state = .live → (s.slot j).seq = s.mgmt.argSeq → j = q) →
        ((s.mgmt.argForce = false ∧
            ∃ j, j < 5 ∧ (s.slot j).state = .live ∧ (s.slot q).seq ≤ (s.slot j).seq ∧ (s.slot j).damaged = true) →
          exec .rollback s = .next { s with mgmt := answered s.mgmt 6#8 .damaged }) ∧
        ((s.mgmt.argForce = true ∨
            ∀ j, j < 5 → (s.slot j).state = .live → (s.slot q).seq ≤ (s.slot j).seq → (s.slot j).damaged = false) →
          ∃ t, exec .rollback s = .next t ∧
            t = { s with
              sweep := { s.sweep with
                kind := .rollback, cause := some .rollback, phase := .drain, target := some q
                force := s.mgmt.argForce, drop := s.mgmt.argDrop, order := [], cursor := none, walkSlot := none
                walked := [], waitingOn := none, boundary := none, drainSet := t.sweep.drainSet
                report := ⟨(s.slot q).seq, 0#16, 0#16, 0#16, 0#16⟩ }
              mgmt := answered s.mgmt 6#8 .accepted } ∧
            ∀ n, n ∈ t.sweep.drainSet ↔
              n < 128 ∧ (s.entry n).state ∈ [EntryState.waiting, .held, .frameWait, .issued])))

/-- The sweep engine idle again: kind NONE and the fields of the sweep cleared; the fault list, its flag and count, the
report, the park list, the demand queue, the offer and the drain set stay (log 11). -/
def idleSweep (w : Sweep) : Sweep :=
  ⟨.none, none, .walk, none, none, none, false, false, [], none, none, [], none, w.drainSet, w.park, none, w.demand,
    w.offer, w.faultList, w.faultOverflow, w.faultCount, w.report⟩

/-- The slots after a commit sweep is accepted: every LIVE slot RETIRING, the others as they stood (R37, R38). -/
def retired (s : State) (q : Nat) : Slot :=
  if q < 5 ∧ (s.slot q).state = .live then { s.slot q with state := .retiring } else s.slot q

/-- What a commit's completion leaves in the tables, from `s` on: no RETIRING slot, every stamp and touch stamp 0, every chain
head none (R23, R86). -/
def restarted (s t : State) : Prop :=
  (∀ q, t.slot q = if q < 5 ∧ (s.slot q).state = .retiring then .freed else s.slot q) ∧
  (∀ n, t.entry n = { s.entry n with stamp := 0#32 }) ∧
  ∀ p, t.page p = { s.page p with touch := 0#32, chainHead := none }

/-- COMMIT is tested in order. On acceptance with some LIVE mark every LIVE slot becomes RETIRING at once and the commit
sweep's walk order holds those slots in increasing order of sequence, the cursor on the first journal's head. With no LIVE
mark it completes at once: next sequence 1, every stamp and touch stamp 0, SWEEP_DONE, engine idle, and the pressure check of
an engine that returns to idle, which with no LIVE mark retires none. What the idle engine's fields then hold is log 11's; the
fields `walkSlot` and `walked` are the model's own (log 28). -/
def Obligations.CommitIsTestedInOrder : Prop :=
  ∀ s : State, s.Settled →
    (s.ctl.state ≠ .guarding → exec .commit s = .next { s with mgmt := answered s.mgmt 5#8 .badState }) ∧
    (s.ctl.state = .guarding → s.sweep.kind ≠ .none →
      exec .commit s = .next { s with mgmt := answered s.mgmt 5#8 .busy }) ∧
    (s.ctl.state = .guarding → s.sweep.kind = .none → 0 < s.liveCount → ∃ t, exec .commit s = .next t ∧
      (∀ q, t.slot q = retired s q) ∧
      t = { s with
        slots := t.slots
        sweep := { s.sweep with
          kind := .commit, cause := some .commit, phase := .walk, retiring := none, predecessor := none
          order := t.sweep.order, cursor := (firstPlace t.sweep.order).map (·.2)
          walkSlot := (firstPlace t.sweep.order).map (·.1), walked := [], waitingOn := none }
        mgmt := answered s.mgmt 5#8 .accepted } ∧
      t.sweep.cursor = t.sweep.order.findSome? (·.2) ∧
      (∀ q h, (q, h) ∈ t.sweep.order ↔ q < 5 ∧ (s.slot q).state = .live ∧ h = (s.slot q).head) ∧
      (t.sweep.order.map fun e => (s.slot e.1).seq).Pairwise (· ≤ ·)) ∧
    (s.tablesCanonical = true → s.ctl.state = .guarding → s.sweep.kind = .none → s.liveCount = 0 → s.leftRecords = [] →
      (∀ p, (s.page p).parityOk = true) →
      ∃ u : State, exec .commit s = .next u.pressureCheck ∧ u.pressureCheck = u ∧ restarted s u ∧
      u = { s with
        slots := u.slots, nextSeq := 1#32, entries := u.entries, pst := u.pst, sweep := idleSweep s.sweep
        mgmt := { answered s.mgmt 5#8 .accepted with flags := s.mgmt.flags ||| 1#21 ||| BitVec.twoPow 21 1 } })

/-- RECOVER is tested in order. On acceptance with some LIVE mark the part is RECOVERING with the three latches 0, the
degraded cause kept, every LIVE slot RETIRING, and a commit sweep with cause RECOVER in progress, its walk order those
slots in increasing order of sequence and its cursor on the first journal's head. With no LIVE mark it completes at once,
as a commit does, and the part is in GUARDING with no cause and no table fault. What the idle engine's fields then hold is
log 11's; the fields `walkSlot` and `walked` are the model's own (log 28). -/
def Obligations.RecoverIsTestedInOrder : Prop :=
  ∀ s : State, s.Settled →
    (s.ctl.state ≠ .degraded ∨ s.mem.up = false →
      exec .recover s = .next { s with mgmt := answered s.mgmt 10#8 .badState }) ∧
    (s.ctl.state = .degraded → s.mem.up = true → s.sweep.kind ≠ .none ∨ s.copyIdle = false →
      exec .recover s = .next { s with mgmt := answered s.mgmt 10#8 .busy }) ∧
    (s.ctl.state = .degraded → s.mem.up = true → s.sweep.kind = .none → s.copyIdle = true → 0 < s.liveCount →
      ∃ t, exec .recover s = .next t ∧ (∀ q, t.slot q = retired s q) ∧
      t = { s with
        ctl := { s.ctl with state := .recovering, spoiled := false, faultDuring := false, linkLost := false }
        slots := t.slots
        sweep := { s.sweep with
          kind := .commit, cause := some .recover, phase := .walk, retiring := none, predecessor := none
          order := t.sweep.order, cursor := (firstPlace t.sweep.order).map (·.2)
          walkSlot := (firstPlace t.sweep.order).map (·.1), walked := [], waitingOn := none }
        mgmt := answered s.mgmt 10#8 .accepted } ∧
      t.sweep.cursor = t.sweep.order.findSome? (·.2) ∧
      (∀ q h, (q, h) ∈ t.sweep.order ↔ q < 5 ∧ (s.slot q).state = .live ∧ h = (s.slot q).head) ∧
      (t.sweep.order.map fun e => (s.slot e.1).seq).Pairwise (· ≤ ·)) ∧
    (s.tablesCanonical = true → s.ctl.state = .degraded → s.mem.up = true → s.sweep.kind = .none → s.copyIdle = true →
      s.liveCount = 0 → s.leftRecords = [] → (∀ p, (s.page p).parityOk = true) →
      ∃ u : State, exec .recover s = .next u.pressureCheck ∧ u.pressureCheck = u ∧ restarted s u ∧
      u = { s with
        ctl := { s.ctl with
          state := .guarding, causeLink := false, causeTable := false, causeCommand := false, tableFault := false
          spoiled := false, faultDuring := false, linkLost := false }
        slots := u.slots, nextSeq := 1#32, entries := u.entries, pst := u.pst, sweep := idleSweep s.sweep
        mgmt := { answered s.mgmt 10#8 .accepted with flags := s.mgmt.flags ||| 1#21 ||| BitVec.twoPow 21 1 } })

/-- QUIESCE closes an OPEN intake: to CLOSED with QUIESCED where the empty condition holds, to CLOSING where it does not;
in the other two states it changes nothing. RESUME opens the intake and returns the owed credits in one CREDIT message.
Both answer DONE in every operating state. -/
def Obligations.QuiesceAndResume : Prop :=
  ∀ s : State, s.Settled →
    (s.port.intake = .opened → s.emptyCondition = false → exec .quiesce s =
      .next { s with port := { s.port with intake := .closing }, mgmt := answered s.mgmt 7#8 .done }) ∧
    (s.port.intake = .opened → s.emptyCondition = true → exec .quiesce s =
      .next { s with
        port := { s.port with intake := .closed }
        mgmt := { answered s.mgmt 7#8 .done with flags := s.mgmt.flags ||| 1#21 ||| BitVec.twoPow 21 3 } }) ∧
    (s.port.intake ≠ .opened → exec .quiesce s = .next { s with mgmt := answered s.mgmt 7#8 .done }) ∧
    (exec .resume s = .next { s with
      port := { s.port with
        intake := .opened, credits := s.port.credits + s.port.owed, owed := 0
        sent := if s.port.owed = 0 ∨ s.port.up = false then s.port.sent else s.port.sent ++ [.credit s.port.owed] }
      mgmt := answered s.mgmt 8#8 .done })

/-- Outside a restore phase, or in one and without a rollback source in page `p`'s chain. -/
def noSource (s : State) (p : Nat) : Prop := s.restoring = true → s.sources p = []

/-- An entry that waited, issued to its own address. -/
def issuedAgain (e : Entry) : Entry :=
  { e with state := .issued, next := none, heldOn := none, deadline := none, issueAddress := e.address }

/-- The tag of entry `n` as the memory port takes its request at its own address. -/
def queuedAgain (s : State) (n : Nat) : TagRecord :=
  ⟨.queued, (s.entry n).kind, (s.entry n).address, (s.entry n).lines, (s.entry n).masks, (s.entry n).data, 0,
    some (s.now + orMax s.mem.responseTimeout)⟩

/-- The requests that the entry to DEGRADED issues, in order: the writes in FRAME_WAIT, the longest-waiting first, each
followed by the requests behind it in its page's list (R148, step 3). -/
def waitersIssued (s : State) : List Nat :=
  s.pool.wait.flatMap fun n => match (s.entry n).pst with | none => [] | some x => s.waitList x

/-- Each write in FRAME_WAIT is the head of its page's list, whose entry has sound parity and which holds no rollback source;
behind it the list holds WAITING requests only, and no request stands in two places. -/
structure WaitersStand (s : State) : Prop where
  heads : ∀ n, n ∈ s.pool.wait → (s.entry n).state = .frameWait ∧ ∃ x, (s.entry n).pst = some x ∧
    (s.page x).waitHead = some n ∧ (s.page x).parityOk = true ∧ noSource s x
  listed : ∀ m, m ∈ waitersIssued s → m < 128 ∧ ((s.entry m).state = .frameWait ∨ (s.entry m).state = .waiting)
  once : (waitersIssued s).Nodup
  records : s.restoring = true → ∀ y, (s.record y).parityOk = true

/-- Page `y` after the requests above have left their lists: a list that a write in FRAME_WAIT headed is empty. -/
def waitersPage (s : State) (y : Nat) : PstEntry :=
  if s.pool.wait.any (fun n => (s.entry n).pst == some y) = true then
    { s.page y with waitHead := none, waitTail := none } else s.page y

/-- DEGRADE in GUARDING enters DEGRADED with cause COMMAND and the flag DEGRADED; with no write in FRAME_WAIT the step is
the operating state, the cause, the damage of every LIVE slot, the flag and the result, and nothing else. Writes in
FRAME_WAIT, the memory-port link being up and their pages without a rollback source, leave the frame-wait queue, the
longest-waiting first; each is issued to its own address, and the requests behind it in its page's list are decided and
issued in their order before the next of these writes, so that those lists are empty; nothing else changes. In DEGRADED it
adds the cause. In CONFIG and RECOVERING it is refused with BAD_STATE and changes nothing. -/
def Obligations.DegradeEntersDegraded : Prop :=
  ∀ s : State,
    (s.ctl.state = .guarding → ∃ t, exec .degrade s = .next t ∧ t.ctl.state = .degraded ∧ t.ctl.causeCommand = true ∧
      t.flag .degraded = true ∧ t.flag .cmdDone = true ∧ t.mgmt.result = ⟨9#8, .done, .none, 0#12⟩ ∧
      (s.Settled → s.pool.wait = [] →
        t = { s with
          ctl := { s.ctl with state := .degraded, causeCommand := true }
          slots := t.slots
          mgmt := { answered s.mgmt 9#8 .done with flags := s.mgmt.flags ||| 1#21 ||| BitVec.twoPow 21 17 } } ∧
        ∀ q, t.slot q =
          if q < 5 ∧ (s.slot q).state = .live then { s.slot q with damaged := true } else s.slot q) ∧
      (s.Settled → s.mem.up = true → WaitersStand s →
        (∀ m, t.entry m = if m ∈ waitersIssued s then issuedAgain (s.entry m) else s.entry m) ∧
        (∀ m, t.tag m = if m ∈ waitersIssued s then queuedAgain s m else s.tag m) ∧
        (∀ y, t.page y = waitersPage s y) ∧
        (∀ q, t.slot q = if q < 5 ∧ (s.slot q).state = .live then { s.slot q with damaged := true } else s.slot q) ∧
        t = { s with
          ctl := { s.ctl with state := .degraded, causeCommand := true }
          slots := t.slots, entries := t.entries, pst := t.pst, tags := t.tags, pool := { s.pool with wait := [] }
          mem := { s.mem with
            takeList := s.mem.takeList ++ waitersIssued s, sendQueue := s.mem.sendQueue ++ waitersIssued s }
          mgmt := { answered s.mgmt 9#8 .done with flags := s.mgmt.flags ||| 1#21 ||| BitVec.twoPow 21 17 } })) ∧
    (s.Settled → s.ctl.state = .degraded → exec .degrade s =
      .next { s with ctl := { s.ctl with causeCommand := true }, mgmt := answered s.mgmt 9#8 .done }) ∧
    (s.Settled → s.ctl.state = .config ∨ s.ctl.state = .recovering → exec .degrade s =
      .next { s with mgmt := answered s.mgmt 9#8 .badState })

/-- CONFIG_ENTER is tested in order. On DONE, as one step: CONFIG, the PST cleared, the free-frame queue, the activity
counters, the fault list with its flag and count, the first-error record, the break and memory port counters, the degraded
cause and the recovery latches emptied; nothing else changes, the table-fault condition among it; that a record which a
table fault has left not FREE stays as it is is the model's choice (log 35). -/
def Obligations.ConfigEnterIsTestedInOrder : Prop :=
  ∀ s : State,
    (s.ctl.state = .config ∨ s.ctl.state = .recovering →
      exec .configEnter s = .next { s with mgmt := answered s.mgmt 1#8 .badState }) ∧
    (s.ctl.state = .guarding ∨ s.ctl.state = .degraded →
      (s.sweep.kind ≠ .none ∨ s.copyIdle = false →
        exec .configEnter s = .next { s with mgmt := answered s.mgmt 1#8 .busy }) ∧
      (s.sweep.kind = .none → s.copyIdle = true → (∃ q, q < 5 ∧ (s.slot q).state ≠ .free) →
        exec .configEnter s = .next { s with mgmt := answered s.mgmt 1#8 .badState }) ∧
      (s.sweep.kind = .none → s.copyIdle = true → (∀ q, q < 5 → (s.slot q).state = .free) →
        ∃ t, exec .configEnter s = .next t ∧ (∀ p, t.page p = .clear) ∧ (∀ w, t.act w = .zero) ∧
        t = { s with
          ctl := { s.ctl with
            state := .config, causeLink := false, causeTable := false, causeCommand := false, spoiled := false
            faultDuring := false, linkLost := false }
          pst := t.pst, pstAssigned := 0, pool := { s.pool with free := [] }, activity := t.activity
          sweep := { s.sweep with faultList := [], faultOverflow := false, faultCount := 0#32 }
          wp := { s.wp with breaks := 0#32 }
          mem := { s.mem with retryCount := 0#32, errorCount := 0#32, timeoutCount := 0#32, lateCount := 0#32 }
          mgmt := { answered s.mgmt 1#8 .done with firstError := ⟨.none, none, none, none, false⟩ } }))

/-- The pages of a window or of the pool. -/
def windowPage (s : State) (w page : Nat) : Prop :=
  (s.window w).base.toNat ≤ page ∧ page < (s.window w).base.toNat + (s.window w).pages

/-- What a failed CONFIG_EXIT leaves: the last validation and the command result, with detail and subject. -/
def invalidExit (s : State) (d : Detail) (subject : BitVec 12) : State :=
  { s with
    ctl := { s.ctl with invalid := true, detail := d, subject := subject }
    mgmt := { answered s.mgmt 2#8 .configInvalid with result := ⟨2#8, .configInvalid, d, subject⟩ } }

/-- CONFIG_EXIT outside CONFIG is refused with BAD_STATE. In CONFIG the checks run in their order and the first failure is
reported, with its detail and subject (first window in bits 0 to 2, second in bits 3 to 5, their valid bits 6 and 7, the pool
in bit 8); nothing else changes. That a window field whose valid bit is 0 holds 0 there is the model's choice (log 32). -/
def Obligations.ConfigExitReportsTheFirstFailure : Prop :=
  ∀ s : State,
    (s.ctl.state ≠ .config → exec .configExit s = .next { s with mgmt := answered s.mgmt 2#8 .badState }) ∧
    (s.ctl.state = .config →
      (∀ w, w < 8 → (s.window w).enable = true → 268435456 < (s.window w).base.toNat + (s.window w).pages →
        (∀ v, v < w → (s.window v).enable = true → (s.window v).base.toNat + (s.window v).pages ≤ 268435456) →
        exec .configExit s = .next (invalidExit s .range (BitVec.ofNat 12 (w + 64)))) ∧
      ((∀ v, v < 8 → (s.window v).enable = true → (s.window v).base.toNat + (s.window v).pages ≤ 268435456) →
        (16384 < s.pool.frames.toNat ∨
            (s.pool.frames = 0#16 ∧ ∃ w, w < 8 ∧ (s.window w).enable = true ∧ (s.window w).mode = .guard) →
          exec .configExit s = .next (invalidExit s .poolSize 256#12)) ∧
        (s.pool.frames.toNat ≤ 16384 →
          (s.pool.frames = 0#16 → ∀ w, w < 8 → (s.window w).enable = true → (s.window w).mode ≠ .guard) →
          (268435456 < s.pool.base.toNat + s.pool.frames.toNat →
            exec .configExit s = .next (invalidExit s .range 256#12)) ∧
          (s.pool.base.toNat + s.pool.frames.toNat ≤ 268435456 →
            (∀ v w, v < w → w < 8 → (s.window v).enable = true → (s.window w).enable = true →
              (∃ page, windowPage s v page ∧ windowPage s w page) →
              (∀ a b, a < b → b < 8 → (a < v ∨ (a = v ∧ b < w)) → (s.window a).enable = true →
                (s.window b).enable = true → ¬∃ page, windowPage s a page ∧ windowPage s b page) →
              exec .configExit s = .next (invalidExit s .overlap (BitVec.ofNat 12 (v + 8 * w + 192)))) ∧
            ((∀ a b, a < b → b < 8 → (s.window a).enable = true → (s.window b).enable = true →
                ¬∃ page, windowPage s a page ∧ windowPage s b page) →
              (∀ w, w < 8 → (s.window w).enable = true →
                (∃ page, windowPage s w page ∧ s.poolHolds page = true) →
                (∀ v, v < w → (s.window v).enable = true →
                  ¬∃ page, windowPage s v page ∧ s.poolHolds page = true) →
                exec .configExit s = .next (invalidExit s .overlap (BitVec.ofNat 12 (w + 64 + 256)))) ∧
              ((∀ w, w < 8 → (s.window w).enable = true →
                  ¬∃ page, windowPage s w page ∧ s.poolHolds page = true) →
                65536 < s.pstPages [0, 1, 2, 3, 4, 5, 6, 7] →
                exec .configExit s = .next (invalidExit s .pstFull 0#12)))))))

/-- The checks of CONFIG_EXIT all pass. -/
def configValid (s : State) : Prop :=
  (∀ w, w < 8 → (s.window w).enable = true → (s.window w).base.toNat + (s.window w).pages ≤ 268435456) ∧
  s.pool.frames.toNat ≤ 16384 ∧
  (s.pool.frames = 0#16 → ∀ w, w < 8 → (s.window w).enable = true → (s.window w).mode ≠ .guard) ∧
  s.pool.base.toNat + s.pool.frames.toNat ≤ 268435456 ∧
  (∀ a b, a < b → b < 8 → (s.window a).enable = true → (s.window b).enable = true →
    ¬∃ page, windowPage s a page ∧ windowPage s b page) ∧
  (∀ w, w < 8 → (s.window w).enable = true → ¬∃ page, windowPage s w page ∧ s.poolHolds page = true) ∧
  s.pstPages [0, 1, 2, 3, 4, 5, 6, 7] ≤ 65536

/-- A CONFIG_EXIT that passes its checks, with no LIVE mark and no write in FRAME_WAIT, which R146 says of every one: PST
indices are assigned in window order and every entry is clear, the free-frame queue holds every record of the pool, next
sequence is 1 and every stamp 0, no record changes, and one that a table fault has left not FREE is queued all the same,
the model's choice (log 35), the table-fault condition, the cause and the latches are 0, and the part is in GUARDING, or
in DEGRADED with cause LINK and the flag DEGRADED where the memory-port link is down. -/
def Obligations.ConfigExitLeavesConfig : Prop :=
  ∀ s : State, s.ctl.state = .config → configValid s → s.liveCount = 0 → s.pool.wait = [] → s.tablesCanonical = true →
    ∃ t, exec .configExit s = .next t ∧
      t = { s with
        windows := t.windows, pst := t.pst, pstAssigned := s.pstPages [0, 1, 2, 3, 4, 5, 6, 7], entries := t.entries
        pool := { s.pool with free := List.range s.pool.frames.toNat }, nextSeq := 1#32
        ctl := { s.ctl with
          state := if s.mem.up = true then .guarding else .degraded
          causeLink := !s.mem.up, causeTable := false, causeCommand := false, tableFault := false, spoiled := false
          faultDuring := false, linkLost := false, invalid := false, detail := .none, subject := 0#12 }
        mgmt := { answered s.mgmt 2#8 .done with
          flags := if s.mem.up = true then s.mgmt.flags ||| 1#21
            else s.mgmt.flags ||| BitVec.twoPow 21 17 ||| 1#21 } } ∧
      (∀ p, t.page p = .clear) ∧ (∀ n, t.entry n = { s.entry n with stamp := 0#32 }) ∧
      (∀ w, w < 8 → t.window w = { s.window w with
        firstIndex := if (s.window w).enable = true ∧ ((s.window w).mode = .guard ∨ (s.window w).mode = .census) then
            BitVec.ofNat 16 (s.pstPages ([0, 1, 2, 3, 4, 5, 6, 7].filter (· < w))) else 0#16 })

/-! ## Marks and classes (01, 02) -/

/-- The stamp a request receives now is the newest LIVE mark's sequence, or 0; the effective mark of a stamp is the LIVE
slot with the greatest sequence not above it, or none; and the resolved mark of a record is its own mark while that is
LIVE or UNWINDING, and the newest LIVE mark older than it while it is RETIRING. -/
def Obligations.StampsAndMarksResolve : Prop :=
  ∀ s : State,
    ((∀ q, q < 5 → (s.slot q).state ≠ .live) → s.stampNow = 0#32) ∧
    (∀ q, q < 5 → (s.slot q).state = .live → (s.slot q).seq ≤ s.stampNow) ∧
    ((∃ q, q < 5 ∧ (s.slot q).state = .live) → ∃ q, q < 5 ∧ (s.slot q).state = .live ∧ s.stampNow = (s.slot q).seq) ∧
    (∀ (t : Seq) (q : Nat), s.effective t = some q → q < 5 ∧ (s.slot q).state = .live ∧ (s.slot q).seq ≤ t ∧ t ≠ 0#32 ∧
      ∀ j, j < 5 → (s.slot j).state = .live → (s.slot j).seq ≤ t → (s.slot j).seq ≤ (s.slot q).seq) ∧
    (∀ t : Seq, s.effective t = none ↔ t = 0#32 ∨ ∀ j, j < 5 → (s.slot j).state = .live → ¬(s.slot j).seq ≤ t) ∧
    (∀ (r : Record) (q : Nat), r.slot = some q → q < 5 → (s.slot q).state = .live ∨ (s.slot q).state = .unwinding →
      s.resolved r = some q) ∧
    (∀ (r : Record) (q k : Nat), r.slot = some q → q < 5 → (s.slot q).state = .retiring → s.resolved r = some k →
      k < 5 ∧ (s.slot k).state = .live ∧ (s.slot k).seq < (s.slot q).seq ∧
        ∀ j, j < 5 → (s.slot j).state = .live → (s.slot j).seq < (s.slot q).seq → (s.slot j).seq ≤ (s.slot k).seq) ∧
    (∀ (r : Record) (q : Nat), r.slot = some q → q < 5 → (s.slot q).state = .retiring → s.resolved r = none →
      ∀ j, j < 5 → (s.slot j).state = .live → ¬(s.slot j).seq < (s.slot q).seq)

/-- A request is classified by its page: pass-through in CONFIG; otherwise POOL in the shadow pool, the mode's class in the
enabled window that covers the page, UNWINDOWED in none. Its PST index is the window's first index plus the page's place
in the window. -/
def Obligations.RequestsAreClassifiedByPage : Prop :=
  ∀ (s : State) (page : Nat),
    (s.ctl.state = .config → s.classify page = (.passThrough, none)) ∧
    (s.ctl.state ≠ .config →
      (s.pool.base.toNat ≤ page ∧ page < s.pool.base.toNat + s.pool.frames.toNat → s.classify page = (.pool, none)) ∧
      (¬(s.pool.base.toNat ≤ page ∧ page < s.pool.base.toNat + s.pool.frames.toNat) →
        ((∀ w, w < 8 → (s.window w).enable = true → ¬windowPage s w page) → s.classify page = (.unwindowed, none)) ∧
        (∀ w, w < 8 → (s.window w).enable = true → windowPage s w page →
          (∀ v, v < 8 → v ≠ w → (s.window v).enable = true → ¬windowPage s v page) →
          s.classify page =
            ((match (s.window w).mode with
              | .pass => .pass | .guard => .guard | .census => .census | .fence => .fence), some w)))) ∧
    (∀ w, s.pstIndex w page = (s.window w).firstIndex.toNat + (page - (s.window w).base.toNat))

/-! ## Requests (06, 04) -/

/-- A READ without a payload, or a WRITE. -/
def request (k : ReqKind) (tag : Byte) (len : BitVec 2) (addr : Addr) (masks : List (BitVec 64)) (data : List Byte) :
    Instr :=
  match k with
  | .read => .read tag len addr []
  | .write => .write tag len addr masks data

/-- The port after an arrival is accepted: a credit is spent, and a CLOSED intake becomes CLOSING. -/
def arrived (p : RequestPort) : RequestPort :=
  { p with credits := p.credits - 1, intake := if p.intake = .closed then .closing else p.intake }

/-- An entry that has been issued: nothing left of a wait. -/
def issuedEntry (k : ReqKind) (address : Addr) (lines : Nat) (masks : List (BitVec 64)) (data : List Byte)
    (c : ReqClass) (w p : Option Nat) (stamp : Seq) (issueAddress : Addr) : Entry :=
  ⟨.issued, k, address, lines, masks, data, some c, w, p, stamp, none, none, none, issueAddress⟩

/-- The state after entry `n` has been issued as `e`: the entry, its tag QUEUED with a fresh deadline, at the tail of the
take list and of the send queue. The entries are those of `t`, given by `entriesAre`. -/
def issued (s t : State) (n : Nat) (e : Entry) : State :=
  { s with
    entries := t.entries
    tags := s.tags.set .idle n
      ⟨.queued, e.kind, e.issueAddress, e.lines, e.masks, e.data, 0, some (s.now + orMax s.mem.responseTimeout)⟩
    mem := { s.mem with takeList := s.mem.takeList ++ [n], sendQueue := s.mem.sendQueue ++ [n] } }

/-- The entries of `t` are those of `s`, but for entry `n`, which is `e`. -/
def entriesAre (s t : State) (n : Nat) (e : Entry) : Prop := ∀ m, t.entry m = if m = n then e else s.entry m

/-- The counters of window `w` changed by `f`; with no window, no counter changes. -/
def counted (s : State) (w : Option Nat) (f : Counts → Counts) : Table Activity :=
  match w with
  | none => s.activity
  | some w => s.activity.set .zero w { s.act w with running := f (s.act w).running }

/-- One more read, or one more write. -/
def oneMore (k : ReqKind) (c : Counts) : Counts :=
  match k with
  | .read => { c with reads := satInc c.reads }
  | .write => { c with writes := satInc c.writes }

/-- The management block after a flag and a capture: an empty first-error record is filled, a filled one sets `more`. -/
def reported (m : Mgmt) (flag : Nat) (k : ErrKind) (tag : Option Nat) (address : Option Addr) (w : Option Nat) : Mgmt :=
  { m with
    flags := m.flags ||| BitVec.twoPow 21 flag
    firstError := if m.firstError.kind = .none then ⟨k, tag, address, w, false⟩
      else { m.firstError with more := true } }

/-- The state as an arrival is accepted: its credit spent, and a CLOSED intake CLOSING (R109, R120). -/
def received (s : State) : State := { s with port := arrived s.port }

/-- The intake after a step that has freed an entry: a CLOSING one is CLOSED under the empty condition (R120). -/
def intakeAfter (s t : State) : Intake :=
  if s.port.intake = .closing ∧ t.emptyCondition = true then .closed else s.port.intake

/-- The event flags with QUIESCED set where the intake has become CLOSED. -/
def quiesced (s t : State) (m : Mgmt) : Mgmt :=
  if s.port.intake = .closing ∧ t.emptyCondition = true then { m with flags := m.flags ||| BitVec.twoPow 21 3 } else m

/-- The port after it has sent `m` and one entry has become FREE: with the intake OPEN the entry's credit is returned in a
CREDIT message behind `m`, and otherwise it goes to `owed` (R109). -/
def credited (s t : State) (m : List UpMessage) : RequestPort :=
  { s.port with
    intake := intakeAfter s t
    credits := if s.port.intake = .opened then s.port.credits + 1 else s.port.credits
    owed := if s.port.intake = .opened then s.port.owed else s.port.owed + 1
    sent := s.port.sent ++ m ++ if s.port.intake = .opened then [.credit 1] else [] }

/-- A request that passes at once is issued under its own tag and address, with no stamp and no deadline: READs of class
PASS, UNWINDOWED, FENCE and CENSUS and WRITEs of class PASS and UNWINDOWED, and every request in CONFIG. The window's read
or write counter rises by one where the class has a window. Issued while the memory-port link is down, it is completed at
once DATA_ERR/LINK_DOWN and its entry is FREE. An arrival takes a CLOSED intake to CLOSING, and where the step leaves the
empty condition it is CLOSED again, with QUIESCED. -/
def Obligations.PassedRequestsAreIssuedAtOnce : Prop :=
  ∀ (s : State) (tag : Byte) (len : BitVec 2) (addr : Addr) (c : ReqClass) (w : Option Nat) (k : ReqKind)
    (masks : List (BitVec 64)) (data : List Byte),
    s.Accepts tag len addr → s.Settled → s.classify (pageOf addr) = (c, w) →
    (k = .read ∧ masks = [] ∧ data = [] ∧ c ∈ [ReqClass.passThrough, .pass, .unwindowed, .fence, .census]) ∨
      (k = .write ∧ payloadOk len masks data = true ∧ c ∈ [ReqClass.passThrough, .pass, .unwindowed]) →
    (s.mem.up = true →
      ∃ t, exec (request k tag len addr masks data) s = .next t ∧
      entriesAre s t tag.toNat
        (issuedEntry k addr (lenLines len) masks data c w (s.classIndex c w (pageOf addr)) 0#32 addr) ∧
      t = { issued s t tag.toNat
          (issuedEntry k addr (lenLines len) masks data c w (s.classIndex c w (pageOf addr)) 0#32 addr) with
        port := arrived s.port, activity := counted s w (oneMore k) }) ∧
    (s.mem.up = false →
      ∃ t, exec (request k tag len addr masks data) s = .next t ∧
      entriesAre s t tag.toNat .freed ∧
      t = { s with
        entries := t.entries
        port := credited (received s) t [.completion tag.toNat .dataErr .linkDown []]
        sweep := { s.sweep with drainSet := s.sweep.drainSet.filter (· != tag.toNat) }
        activity := counted s w (oneMore k)
        mgmt := quiesced (received s) t s.mgmt })

/-- A CENSUS write is stamped, counted and issued; it is a touch, which sets the page's touch stamp and raises the touch
counter, exactly where an effective mark exists whose sequence the touch stamp does not hold. -/
def Obligations.CensusWritesCountTouches : Prop :=
  ∀ (s : State) (tag : Byte) (len : BitVec 2) (addr : Addr) (masks : List (BitVec 64)) (data : List Byte) (w p : Nat),
    s.Accepts tag len addr → s.Settled → s.mem.up = true → payloadOk len masks data = true →
    s.classify (pageOf addr) = (.census, some w) → s.pstIndex w (pageOf addr) = p →
    ∃ t, exec (.write tag len addr masks data) s = .next t ∧
      entriesAre s t tag.toNat
        (issuedEntry .write addr (lenLines len) masks data .census (some w) (some p) s.stampNow addr) ∧
      t = { issued s t tag.toNat
          (issuedEntry .write addr (lenLines len) masks data .census (some w) (some p) s.stampNow addr) with
        port := arrived s.port, activity := t.activity, pst := t.pst } ∧
      (∀ v, v ≠ w → t.act v = s.act v) ∧
      (∀ j, j ≠ p → t.page j = s.page j) ∧
      (∀ q, s.effective s.stampNow = some q → (s.page p).touch ≠ (s.slot q).seq →
        t.page p = { s.page p with touch := (s.slot q).seq } ∧
        t.act w = { s.act w with running := { (s.act w).running with
          writes := satInc (s.act w).running.writes, preserves := satInc (s.act w).running.preserves } }) ∧
      (s.effective s.stampNow = none ∨ (∃ q, s.effective s.stampNow = some q ∧ (s.page p).touch = (s.slot q).seq) →
        t.page p = s.page p ∧
        t.act w = { s.act w with running := { (s.act w).running with writes := satInc (s.act w).running.writes } })

/-- What a request refused at acceptance leaves: its REFUSED completion is sent, its credit returned or owed, its entry is
FREE, and only the flag, the capture and the refusal counter of its window record it. A CLOSED intake has gone to CLOSING and,
under the empty condition, back to CLOSED. -/
def refusedAtOnce (s t : State) (n : Nat) (r : Reason) (m : Mgmt) (activity : Table Activity) : Prop :=
  entriesAre s t n .freed ∧
  t = { s with
    entries := t.entries
    port := credited (received s) t [.completion n .refused r []]
    sweep := { s.sweep with drainSet := s.sweep.drainSet.filter (· != n) }
    activity := activity
    mgmt := quiesced (received s) t m }

/-- Requests to the pool, writes to a FENCE window and malformed requests are completed at once, REFUSED/POOL, REFUSED/FENCE
and REFUSED/PROTOCOL, and are not issued, in every intake state. A malformed request has length code 3, an address
that is not a multiple of its size, or a payload of the wrong form, and raises no window counter. -/
def Obligations.RequestsAreRefusedAtAcceptance : Prop :=
  ∀ (s : State) (tag : Byte) (len : BitVec 2) (addr : Addr) (payload : List Byte) (masks : List (BitVec 64))
    (data : List Byte),
    s.Settled → s.port.up = true → 0 < s.port.credits → tag.toNat < 128 →
    (s.entry tag.toNat).state = .free →
    (formOk len addr = true → (s.classify (pageOf addr)).1 = .pool →
      (∃ t, exec (.read tag len addr []) s = .next t ∧ refusedAtOnce s t tag.toNat .pool
        (reported s.mgmt 15 .refusal (some tag.toNat) (some addr) none) s.activity) ∧
      (payloadOk len masks data = true → ∃ t, exec (.write tag len addr masks data) s = .next t ∧
        refusedAtOnce s t tag.toNat .pool
          (reported s.mgmt 15 .refusal (some tag.toNat) (some addr) none) s.activity)) ∧
    (∀ w, formOk len addr = true → payloadOk len masks data = true → s.classify (pageOf addr) = (.fence, some w) →
      ∃ t, exec (.write tag len addr masks data) s = .next t ∧ refusedAtOnce s t tag.toNat .fence
        (reported s.mgmt 16 .refusal (some tag.toNat) (some addr) (some w))
        (counted s (some w) fun c => { c with refusals := satInc c.refusals })) ∧
    (formOk len addr = false ∨ payload ≠ [] → ∃ t, exec (.read tag len addr payload) s = .next t ∧
      refusedAtOnce s t tag.toNat .protocol
        (reported s.mgmt 14 .protocol (some tag.toNat) (some addr) none) s.activity) ∧
    (formOk len addr = false ∨ payloadOk len masks data = false →
      ∃ t, exec (.write tag len addr masks data) s = .next t ∧ refusedAtOnce s t tag.toNat .protocol
        (reported s.mgmt 14 .protocol (some tag.toNat) (some addr) none) s.activity)

/-- An overrun, a tag above 127 and a duplicate are dropped without a completion: PROTOCOL_ERR and its capture, with a tag
above 127 captured as none. An overrun changes no count; the other two spend a credit that is returned at once while the
intake is OPEN and goes to `owed` otherwise. The entry that a duplicate names is not changed. -/
def Obligations.OverrunsAndDuplicatesAreDropped : Prop :=
  ∀ (s : State) (tag : Byte) (len : BitVec 2) (addr : Addr) (payload : List Byte) (masks : List (BitVec 64))
    (data : List Byte) (c : Instr),
    c ∈ [Instr.read tag len addr payload, .write tag len addr masks data] → s.port.up = true → s.port.due = 0 →
    (s.port.credits = 0 → exec c s = .next { s with
      mgmt := reported s.mgmt 14 .protocol (if tag.toNat < 128 then some tag.toNat else none) (some addr) none }) ∧
    (0 < s.port.credits → 128 ≤ tag.toNat ∨ (s.entry tag.toNat).state ≠ .free →
      (s.port.intake = .opened → exec c s = .next { s with
        port := { s.port with sent := s.port.sent ++ [.credit 1] }
        mgmt := reported s.mgmt 14 .protocol (if tag.toNat < 128 then some tag.toNat else none) (some addr) none }) ∧
      (s.port.intake ≠ .opened → exec c s = .next { s with
        port := { s.port with credits := s.port.credits - 1, owed := s.port.owed + 1 }
        mgmt := reported s.mgmt 14 .protocol (if tag.toNat < 128 then some tag.toNat else none) (some addr) none }))

/-- A request of class GUARD that arrives outside a rollback's drain, to a page of index `p` with an empty wait list, the
entry and the records it reads having sound parity. -/
structure GuardArrival (s : State) (tag : Byte) (len : BitVec 2) (addr : Addr) (w p : Nat) : Prop where
  accepts : s.Accepts tag len addr
  due : s.port.due = 0
  cls : s.classify (pageOf addr) = (.guard, some w)
  index : s.pstIndex w (pageOf addr) = p
  noDrain : s.draining = false
  parity : (s.page p).parityOk = true
  sources : s.restoring = true → ∀ y, y ∈ s.sourceReads p → (s.record y).parityOk = true
  head : (s.page p).waitHead = none
  tail : (s.page p).waitTail = none

/-- Where a read of page `p` goes: in a restore phase to the frame of the page's oldest rollback source, if it has one, at the
same offset; otherwise to its own address. -/
def readAddress (s : State) (p : Nat) (addr : Addr) : Addr :=
  if s.restoring = true then
    match s.oldestSource p with
    | none => addr
    | some r => BitVec.ofNat 40 ((s.pool.base.toNat + r) * 4096 + addr.toNat % 4096)
  else addr

/-- A guarded read is issued at once from an empty wait list: in a restore phase to the frame of its page's oldest rollback
source, if the page has one, and otherwise to its own address. A guarded write to a page without a rollback source is issued
at once where it has no effective mark, meets DEGRADED, or finds its page saved by a VALID record at its effective mark. The
request is stamped and counted, and its page's list is empty again. -/
def Obligations.GuardedRequestsAreIssuedFromAnEmptyList : Prop :=
  ∀ (s : State) (tag : Byte) (len : BitVec 2) (addr : Addr) (w p : Nat),
    GuardArrival s tag len addr w p → s.Settled → s.mem.up = true →
    (∃ t, exec (.read tag len addr []) s = .next t ∧
      entriesAre s t tag.toNat
        (issuedEntry .read addr (lenLines len) [] [] .guard (some w) (some p) s.stampNow (readAddress s p addr)) ∧
      (∀ j, t.page j = s.page j) ∧
      t = { issued s t tag.toNat
          (issuedEntry .read addr (lenLines len) [] [] .guard (some w) (some p) s.stampNow (readAddress s p addr)) with
        port := arrived s.port, activity := counted s (some w) (oneMore .read), pst := t.pst }) ∧
    (∀ (masks : List (BitVec 64)) (data : List Byte), payloadOk len masks data = true → noSource s p →
      s.ctl.state = .degraded ∨ s.effective s.stampNow = none ∨
        (∃ e r, s.effective s.stampNow = some e ∧ s.chainTop p = some r ∧ (s.record r).parityOk = true ∧
          (s.record r).state = .valid ∧ s.resolved (s.record r) = some e) →
      ∃ t, exec (.write tag len addr masks data) s = .next t ∧
      entriesAre s t tag.toNat
        (issuedEntry .write addr (lenLines len) masks data .guard (some w) (some p) s.stampNow addr) ∧
      (∀ j, t.page j = s.page j) ∧
      t = { issued s t tag.toNat
          (issuedEntry .write addr (lenLines len) masks data .guard (some w) (some p) s.stampNow addr) with
        port := arrived s.port, activity := counted s (some w) (oneMore .write), pst := t.pst })

/-- An entry that waits: as it arrived, in state `st`, with stamp and hold deadline. -/
def waitingEntry (s : State) (st : EntryState) (k : ReqKind) (address : Addr) (lines : Nat) (masks : List (BitVec 64))
    (data : List Byte) (w p : Nat) (stamp : Seq) (on : Option HeldOn) : Entry :=
  ⟨st, k, address, lines, masks, data, some .guard, some w, some p, stamp, none, on,
    some (s.now + orMax s.port.holdTimeout), 0#40⟩

/-- Channel `c` has started job `j`: RUNNING, with chunk reads of the job's source on the tags `free`, one chunk on each, from
chunk 0 on. -/
def jobStarted (s t : State) (c : Nat) (j : Job) (free : List Nat) : Prop :=
  (∀ d, t.chan d = if d = c then ⟨.running, some j, free.length, 0⟩ else s.chan d) ∧
  (∀ k, k ∉ free → t.copyTag k = s.copyTag k ∧ t.tag k = s.tag k) ∧
  (∀ i k, free[i]? = some k → t.copyTag k = { s.copyTag k with use := .read i } ∧
    t.tag k = ⟨.queued, .read, addrAt j.source (i * 256), 4, [], [], 0, some (s.now + orMax s.mem.responseTimeout)⟩) ∧
  t.mem = { s.mem with takeList := s.mem.takeList ++ free, sendQueue := s.mem.sendQueue ++ free }

/-- The record at which a walk goes on with the next journal (R81, R85, R92): the slots behind the one it is in, in walk
order, give the first that has a record to begin at, which in a restore is the slot's start record and otherwise its
journal's head; none without one. -/
def nextStart (s : State) : Option Nat :=
  ((s.sweep.order.dropWhile fun e => s.sweep.walkSlot != some e.1).drop 1).findSome? fun e =>
    s.journalLink (if s.sweep.phase = .restore then e.2 else (s.slot e.1).head)

/-- Where the cursor goes from record `r`: to its journal newer link, in a restore to its older link (R81, R92); where that is
none, or names a FREE record or one met in this journal already (R43), to the next journal. -/
def cursorAfter (s : State) (r : Nat) : Option Nat :=
  match if s.sweep.phase = .restore then (s.record r).jOlder else (s.record r).jNewer with
  | none => nextStart s
  | some x => if (s.record x).state = .free ∨ x = r ∨ x ∈ s.sweep.walked then nextStart s else some x

/-- The journal newer link of record `r` as the tables bear it out: none where it names a FREE record, `r` itself, or a record
that the walk of the journal down to `r` has met (R43). -/
def newerLink (s : State) (r : Nat) : Option Nat :=
  match (s.record r).jNewer with
  | none => none
  | some y =>
    if (s.record y).state = .free ∨ y = r ∨
        (s.slotOf (s.record r)).any (fun q => ((s.journal q).takeWhile (· != r)).contains y) = true then none
    else some y

/-- The journal older link of record `r` as the tables bear it out: none where it names a FREE record or `r` itself (R43).
Where it names the record that the newer link names, it is none too, the model's choice (log 10). -/
def olderLink (s : State) (r : Nat) : Option Nat :=
  match (s.record r).jOlder with
  | none => none
  | some y => if (s.record y).state = .free ∨ y = r ∨ newerLink s r = some y then none else some y

/-- What the sweep engine notes when record `r` leaves its journal: a cursor on it goes on from it (R82, R93), and in a
restore the source boundary, and each start record, that names it moves to its journal older link (R91). -/
def sweepFollows (s t : State) (r : Nat) : Prop :=
  t.sweep.cursor = (if s.sweep.cursor = some r then cursorAfter s r else s.sweep.cursor) ∧
  (s.sweep.phase ≠ .restore → t.sweep.boundary = s.sweep.boundary ∧ t.sweep.order = s.sweep.order) ∧
  (s.sweep.phase = .restore →
    t.sweep.boundary =
      (if s.sweep.boundary = some r then olderLink s r else s.sweep.boundary) ∧
    t.sweep.order =
      s.sweep.order.map fun e => if e.2 = some r then (e.1, olderLink s r) else e)

/-- Record `r` stands in page `x`'s chain and in slot `q`'s journal and not in the free-frame queue, and every record and the
page's entry have sound parity. -/
structure Threaded (s : State) (r x q : Nat) : Prop where
  page : (s.record r).pageIndex = some x
  slot : (s.record r).slot = some q
  occupied : q < 5 ∧ (s.slot q).state ≠ .free
  chain : r ∈ s.chain x
  journal : r ∈ s.journal q
  allocated : r ∉ s.pool.free
  records : ∀ y, (s.record y).parityOk = true
  entry : (s.page x).parityOk = true

/-- The older link of record `r` of page `x` as the tables bear it out: none where it names a FREE record, a record of another
page, or one that the walk of the chain down to `r` has met (R43). -/
def olderBorneOut (s : State) (r x : Nat) : Option Nat :=
  match (s.record r).older with
  | none => none
  | some y =>
    if (s.record y).state = .free ∨ (s.record y).pageIndex ≠ some x ∨ y = r ∨ y ∈ (s.chain x).takeWhile (· != r) then none
    else some y

/-- The records after `r` of page `x` has been freed: the record before it in the chain takes its older link, as the tables
bear it out, the journal neighbours that its own links name are linked to each other, and no other record's links change (log 10). -/
def freedRecords (s t : State) (r x : Nat) : Prop :=
  ∀ y, t.record y = if y = r then .freed else
    { s.record y with
      older := if ((s.chain x).takeWhile (· != r)).getLast? = some y then olderBorneOut s r x else (s.record y).older
      jNewer := if olderLink s r = some y then newerLink s r
        else (s.record y).jNewer
      jOlder := if newerLink s r = some y then olderLink s r
        else (s.record y).jOlder }

/-- The chain head of page `x` after record `r` has left its chain. -/
def headAfter (s : State) (r x : Nat) : Option Nat :=
  if (s.page x).chainHead = some r then olderBorneOut s r x else (s.page x).chainHead

/-- Slot `q` after record `r` has left its journal: its head, where that was `r`, is `r`'s newer link, its tail, where that was
`r`, is `r`'s older link, and its count falls by one (R54). -/
def slotAfter (s : State) (r q : Nat) : Slot :=
  { s.slot q with
    head := if (s.slot q).head = some r then newerLink s r else (s.slot q).head
    tail := if (s.slot q).tail = some r then olderLink s r else (s.slot q).tail
    count := (s.slot q).count - 1 }

/-- The sweep engine after record `r` has been freed at the end of its copy: its place as the removal leaves it, and no wait
for `r` any more (R42, R82). -/
def sweepFreed (s : State) (r : Nat) : Sweep :=
  { (s.sweepPast r).sweep with waitingOn := if s.sweep.waitingOn = some r then none else s.sweep.waitingOn }

/-- The sweep engine after a failed restore of a page: the report's count, the fault list or its overflow flag, and the fault
count. -/
def pageFaulted (w : Sweep) (page : Nat) : Sweep :=
  { w with
    report := { w.report with faults := w.report.faults + 1#16 }
    faultList := if w.faultList.length < 16 then w.faultList ++ [page] else w.faultList
    faultOverflow := w.faultOverflow || decide (16 ≤ w.faultList.length)
    faultCount := satInc w.faultCount }

/-- The write that waits for job `j` at the head of page `x`'s list: HELD behind its record, or for a demand restore. -/
def heldOnJob (s : State) (j : Job) (x : Nat) : Option Nat :=
  match j.kind with
  | .preservation => s.heldBehind x j.record
  | .restore => if s.heldForDemand x = true then (s.page x).waitHead else none

/-- What the failure of job `j`, of page number `g`, reports: its flag and its copy capture, with the tag of a write HELD
behind a preservation (R66, R99). -/
def copyFailed (s : State) (j : Job) (g : Nat) (held : Option Nat) : Mgmt :=
  match j.kind with
  | .preservation => reported s.mgmt 9 .copy held (some (addrAt g 0)) (s.windowOf g)
  | .restore => reported s.mgmt 10 .copy none (some (addrAt g 0)) (s.windowOf g)

/-- A guarded request that finds others in its page's list joins at the tail and waits, stamped, counted and under a hold
deadline, in a restore phase as outside it. During a rollback's drain a guarded request is parked instead: no list, no
stamp, no count. In a restore phase a guarded write at the head of its list, to a page that holds a rollback source, is
HELD for a demand restore, and its page joins the demand queue unless its target is RESTORING, the page is queued already,
or the queue holds 128 pages. With no IDLE channel the demand waits there; an IDLE one takes it in the same step: where a
source of the page is not VALID the entry is dropped, and nothing is freed or restored, the model's choice (log 30); a
target that is suspect is not restored but freed, with the steps of a failed restore and the count of demand restores one
more, which is the model's reading of a demand whose target is faulty (log 22), and the write is decided again: in
DEGRADED, or without an effective mark, it is issued, and otherwise it is HELD behind a preservation; otherwise the page's
newer sources are freed and counted released, newest first, which is the model's choice (log 33), the oldest is RESTORING,
the count of demand restores rises by one, the cursor, the source boundary and the start records follow the removal of a
single newer source, and the channel reads a chunk of the source's frame on each of its FREE tags. Outside these cases, a
guarded write with an effective mark whose page's newest record is COPYING is HELD behind that record. -/
def Obligations.GuardedRequestsWaitOrAreParked : Prop :=
  ∀ (s : State) (tag : Byte) (len : BitVec 2) (addr : Addr) (w p : Nat) (k : ReqKind) (masks : List (BitVec 64))
    (data : List Byte),
    s.Accepts tag len addr → s.Settled → s.classify (pageOf addr) = (.guard, some w) →
    s.pstIndex w (pageOf addr) = p → (k = .read → masks = [] ∧ data = []) →
    (k = .write → payloadOk len masks data = true) →
    (∀ h z, s.draining = false → (s.page p).parityOk = true → (s.page p).waitHead = some h →
      (s.page p).waitTail = some z → z ≠ tag.toNat →
      ∃ t, exec (request k tag len addr masks data) s = .next t ∧
        (∀ m, t.entry m =
          if m = tag.toNat then waitingEntry s .waiting k addr (lenLines len) masks data w p s.stampNow none
          else if m = z then { s.entry z with next := some tag.toNat } else s.entry m) ∧
        (∀ j, t.page j = if j = p then { s.page p with waitTail := some tag.toNat } else s.page j) ∧
        t = { s with
          entries := t.entries, pst := t.pst, port := arrived s.port, activity := counted s (some w) (oneMore k) }) ∧
    (s.draining = true →
      ∃ t, exec (request k tag len addr masks data) s = .next t ∧
        entriesAre s t tag.toNat (waitingEntry s .parked k addr (lenLines len) masks data w p 0#32 none) ∧
        t = { s with
          entries := t.entries, port := arrived s.port
          sweep := { s.sweep with park := s.sweep.park ++ [tag.toNat] } }) ∧
    (∀ r, GuardArrival s tag len addr w p → k = .write → s.restoring = true → s.oldestSource p = some r →
      s.idleChannel = none ∨ (s.record r).state = .restoring ∨ (∃ y, y ∈ s.sources p ∧ (s.record y).state ≠ .valid) →
      ∃ t, exec (request k tag len addr masks data) s = .next t ∧
        entriesAre s t tag.toNat
          (waitingEntry s .held .write addr (lenLines len) masks data w p s.stampNow (some .demand)) ∧
        (∀ j, t.page j = if j = p then
          { s.page p with waitHead := some tag.toNat, waitTail := some tag.toNat } else s.page j) ∧
        t = { s with
          entries := t.entries, pst := t.pst, port := arrived s.port
          activity := counted s (some w) (oneMore .write)
          sweep := { s.sweep with
            demand := if s.idleChannel ≠ none ∨ (s.record r).state = .restoring ∨ p ∈ s.sweep.demand ∨
                128 ≤ s.sweep.demand.length then
              s.sweep.demand else s.sweep.demand ++ [p] } }) ∧
    (∀ r g c q, GuardArrival s tag len addr w p → k = .write → s.restoring = true → s.sources p = [r] →
      s.chain p = [r] → (s.record r).state = .valid → (s.record r).suspect = true →
      (s.record r).pageNumber = some g → Threaded s r p q → s.namesJob r = false → s.pool.wait = [] →
      s.mem.up = true → s.idleChannel = some c → s.wp.backlog = [] →
      (s.ctl.state = .degraded ∨ s.effective s.stampNow = none →
        ∃ t, exec (request k tag len addr masks data) s = .next t ∧ freedRecords s t r p ∧ sweepFollows s t r ∧
        entriesAre s t tag.toNat
          (issuedEntry .write addr (lenLines len) masks data .guard (some w) (some p) s.stampNow addr) ∧
        (∀ j, t.page j = if j = p then { s.page p with chainHead := headAfter s r p } else s.page j) ∧
        (∀ j, t.slot j = if j = q then slotAfter s r q else s.slot j) ∧
        t = { issued s t tag.toNat
            (issuedEntry .write addr (lenLines len) masks data .guard (some w) (some p) s.stampNow addr) with
          records := t.records, pst := t.pst, slots := t.slots, port := arrived s.port
          activity := counted s (some w) (oneMore .write), pool := { s.pool with free := s.pool.free ++ [r] }
          sweep := { pageFaulted (s.sweepPast r).sweep g with report := { s.sweep.report with
            demands := s.sweep.report.demands + 1#16, faults := s.sweep.report.faults + 1#16 } }
          mgmt := reported s.mgmt 10 .copy none (some (addrAt g 0)) (s.windowOf g) }) ∧
      (∀ e, s.ctl.state ≠ .degraded → s.effective s.stampNow = some e →
        ∃ t, exec (request k tag len addr masks data) s = .next t ∧ sweepFollows s t r ∧
        (∀ v, t.act v = if v = w then
          { s.act w with running := { (s.act w).running with
            writes := satInc (s.act w).running.writes, preserves := satInc (s.act w).running.preserves } }
          else s.act v) ∧
        (∃ z, (s.pool.free ++ [r]).head? = some z ∧ t.pool = { s.pool with free := (s.pool.free ++ [r]).tail } ∧
          jobStarted s t c ⟨.preservation, z, pageOf addr, s.pool.base.toNat + z, false⟩
            ((chanTags c).filter fun i => (s.copyTag i).use == .free) ∧
          entriesAre s t tag.toNat
            (waitingEntry s .held .write addr (lenLines len) masks data w p s.stampNow (some (.record z))) ∧
          (t.record z).state = .copying ∧ (t.record z).pageIndex = some p ∧ (t.record z).slot = some e ∧
          (∀ j, t.page j = if j = p then { s.page p with
            chainHead := some z, waitHead := some tag.toNat, waitTail := some tag.toNat } else s.page j)) ∧
        t = { s with
          records := t.records, pst := t.pst, slots := t.slots, entries := t.entries, pool := t.pool
          channels := t.channels, copyTags := t.copyTags, tags := t.tags, mem := t.mem, port := arrived s.port
          activity := t.activity
          sweep := { pageFaulted (s.sweepPast r).sweep g with report := { s.sweep.report with
            demands := s.sweep.report.demands + 1#16, faults := s.sweep.report.faults + 1#16 } }
          mgmt := { reported s.mgmt 10 .copy none (some (addrAt g 0)) (s.windowOf g) with
            flags := s.mgmt.flags ||| BitVec.twoPow 21 10 |||
              if s.pool.free.length < s.pool.lowWater.toNat then BitVec.twoPow 21 7 else 0#21 } })) ∧
    (∀ r g c newer free, GuardArrival s tag len addr w p → k = .write → s.restoring = true → s.sources p = newer ++ [r] →
      (s.record r).state = .valid → (s.record r).suspect = false → (s.record r).pageNumber = some g →
      (∀ y, (s.record y).parityOk = true) →
      (∀ y, y ∈ newer → (s.record y).state = .valid ∧ y ∉ s.pool.free ∧ s.namesJob y = false) → s.pool.wait = [] →
      s.mem.up = true →
      s.idleChannel = some c → free = (chanTags c).filter (fun i => (s.copyTag i).use == .free) →
      ∃ t, exec (request k tag len addr masks data) s = .next t ∧
        entriesAre s t tag.toNat
          (waitingEntry s .held .write addr (lenLines len) masks data w p s.stampNow (some .demand)) ∧
        (∀ y, y ∈ newer → t.record y = .freed) ∧
        t.record r = { s.record r with
          state := .restoring, older := (t.record r).older, jOlder := (t.record r).jOlder
          jNewer := (t.record r).jNewer } ∧
        (∀ j, t.page j = if j = p then { s.page p with
          chainHead := (t.page p).chainHead, waitHead := some tag.toNat, waitTail := some tag.toNat } else s.page j) ∧
        jobStarted s t c ⟨.restore, r, s.pool.base.toNat + r, g, false⟩ free ∧
        t = { s with
          entries := t.entries, pst := t.pst, port := arrived s.port, records := t.records, slots := t.slots
          activity := counted s (some w) (oneMore .write), channels := t.channels, copyTags := t.copyTags
          tags := t.tags, mem := t.mem, pool := { s.pool with free := s.pool.free ++ newer }
          sweep := { s.sweep with
            order := t.sweep.order, cursor := t.sweep.cursor, walkSlot := t.sweep.walkSlot
            walked := t.sweep.walked, boundary := t.sweep.boundary
            report := { s.sweep.report with
              demands := s.sweep.report.demands + 1#16
              released := s.sweep.report.released + BitVec.ofNat 16 newer.length } } } ∧
        (∀ y, newer = [y] → sweepFollows s t y) ∧
        (newer = [] → t.slots = s.slots ∧ (∀ y, y ≠ r → t.record y = s.record y) ∧
          t.record r = { s.record r with state := .restoring } ∧ (t.page p).chainHead = (s.page p).chainHead ∧
          t.sweep = { s.sweep with report := { s.sweep.report with demands := s.sweep.report.demands + 1#16 } })) ∧
    (∀ r e, GuardArrival s tag len addr w p → k = .write → noSource s p → s.ctl.state ≠ .degraded →
      s.effective s.stampNow = some e → s.chainTop p = some r → (s.record r).parityOk = true →
      (s.record r).state = .copying →
      ∃ t, exec (request k tag len addr masks data) s = .next t ∧
        entriesAre s t tag.toNat
          (waitingEntry s .held .write addr (lenLines len) masks data w p s.stampNow (some (.record r))) ∧
        (∀ j, t.page j = if j = p then
          { s.page p with waitHead := some tag.toNat, waitTail := some tag.toNat } else s.page j) ∧
        t = { s with
          entries := t.entries, pst := t.pst, port := arrived s.port
          activity := counted s (some w) (oneMore .write) })

/-- A guarded write with effective mark `e` to a page without a rollback source, whose newest record, if there is one, is not
COPYING and is of an older mark, takes the head of the free-frame queue: the record is COPYING for the page at mark `e`, at
the head of the page's chain and at the tail of the mark's journal, the copy of the page into its frame is a preservation job,
and the write is HELD behind it; FRAMES_LOW is set where the free count falls below the threshold. Every other record, page,
slot and entry keeps its value, but the former tail's newer link. With no IDLE channel the job joins the preservation queue;
with one, and nothing else waiting, the channel takes it in the same step and reads a chunk on each of its FREE tags. -/
def Obligations.FirstWriteStartsAPreservation : Prop :=
  ∀ (s : State) (tag : Byte) (len : BitVec 2) (addr : Addr) (masks : List (BitVec 64)) (data : List Byte)
    (w p e r : Nat) (rest : List Nat) (job : Job),
    GuardArrival s tag len addr w p → noSource s p → payloadOk len masks data = true →
    s.ctl.state ≠ .degraded → s.effective s.stampNow = some e →
    (∀ y, (s.page p).chainHead = some y → s.chainTop p = some y ∧ (s.record y).parityOk = true ∧
      (s.record y).state ≠ .copying ∧ s.recSeq y < (s.slot e).seq) →
    s.pool.free = r :: rest → s.wp.queue.length < 128 → (s.record r).state = .free →
    (∀ y, (s.slot e).tail = some y → y ≠ r ∧ (s.record y).state ≠ .free ∧ (s.record y).parityOk = true) →
    job = ⟨.preservation, r, pageOf addr, s.pool.base.toNat + r, false⟩ →
    s.idleChannel = none ∨
      (s.idleChannel ≠ none ∧ s.mem.up = true ∧ s.wp.queue = [] ∧ s.wp.backlog = [] ∧ s.sweep.demand = [] ∧
        s.sweep.offer = none) →
    ∃ t, exec (.write tag len addr masks data) s = .next t ∧
      entriesAre s t tag.toNat
        (waitingEntry s .held .write addr (lenLines len) masks data w p s.stampNow (some (.record r))) ∧
      t.record r =
        ⟨.copying, some p, some (pageOf addr), some e, (s.page p).chainHead, (s.slot e).tail, none, false, true⟩ ∧
      (∀ x, x ≠ r → t.record x =
        if (s.slot e).tail = some x then { s.record x with jNewer := some r } else s.record x) ∧
      (∀ j, t.page j = if j = p then
        { s.page p with chainHead := some r, waitHead := some tag.toNat, waitTail := some tag.toNat } else s.page j) ∧
      (∀ q, t.slot q = if q = e then
        { s.slot e with
          head := if (s.slot e).tail = none then some r else (s.slot e).head, tail := some r
          count := (s.slot e).count + 1 }
        else s.slot q) ∧
      (∀ v, t.act v = if v = w then
        { s.act w with running := { (s.act w).running with
          writes := satInc (s.act w).running.writes, preserves := satInc (s.act w).running.preserves } }
        else s.act v) ∧
      t = { s with
        port := arrived s.port, entries := t.entries, records := t.records, pst := t.pst, slots := t.slots
        activity := t.activity, pool := { s.pool with free := rest }, channels := t.channels, copyTags := t.copyTags
        tags := t.tags, mem := t.mem, wp := t.wp
        mgmt := if rest.length < s.pool.lowWater.toNat then
            { s.mgmt with flags := s.mgmt.flags ||| BitVec.twoPow 21 7 } else s.mgmt } ∧
      (s.idleChannel = none → t.wp = { s.wp with queue := s.wp.queue ++ [job] } ∧ t.mem = s.mem ∧
        t.channels = s.channels ∧ t.copyTags = s.copyTags ∧ t.tags = s.tags) ∧
      (∀ c free, s.idleChannel = some c → free = (chanTags c).filter (fun k => (s.copyTag k).use == .free) →
        t.wp = s.wp ∧ jobStarted s t c job free)

/-- A guarded write that needs a preservation and finds no frame sets FRAMES_EMPTY, and the exhaustion policy applies. REFUSE
completes it REFUSED/EXHAUSTED with a refusal capture; BREAK damages its effective mark, raises the break counter and
issues it; WAIT puts it in FRAME_WAIT at the tail of the frame-wait queue, still the head of its page's list, and makes a
pressure check, which PressureCheckRetiresTheOldest states. The page has no
rollback source, and no record or a newest one that is VALID and does not resolve to the effective mark. -/
def Obligations.ExhaustionFollowsThePolicy : Prop :=
  ∀ (s : State) (tag : Byte) (len : BitVec 2) (addr : Addr) (masks : List (BitVec 64)) (data : List Byte)
    (w p e : Nat),
    GuardArrival s tag len addr w p → noSource s p → s.Settled → payloadOk len masks data = true →
    s.ctl.state ≠ .degraded → s.effective s.stampNow = some e →
    (∀ y, (s.page p).chainHead = some y → (s.record y).parityOk = true) →
    s.chainTop p = none ∨ (∃ y, s.chainTop p = some y ∧ (s.record y).state = .valid ∧
      s.resolved (s.record y) ≠ some e) →
    s.pool.free = [] →
    (s.wp.policy = .refuse → ∃ t, exec (.write tag len addr masks data) s = .next t ∧
      entriesAre s t tag.toNat .freed ∧ (∀ j, t.page j = s.page j) ∧
      (∀ v, t.act v = if v = w then
        { s.act w with running := { (s.act w).running with
          writes := satInc (s.act w).running.writes, refusals := satInc (s.act w).running.refusals } }
        else s.act v) ∧
      t = { s with
        entries := t.entries, pst := t.pst, activity := t.activity
        port := credited (received s) t [.completion tag.toNat .refused .exhausted []]
        sweep := { s.sweep with drainSet := s.sweep.drainSet.filter (· != tag.toNat) }
        mgmt := quiesced (received s) t
            (reported s.mgmt 8 .refusal (some tag.toNat) (some addr) (some w)) }) ∧
    (s.wp.policy = .break → s.mem.up = true → ∃ t, exec (.write tag len addr masks data) s = .next t ∧
      entriesAre s t tag.toNat
        (issuedEntry .write addr (lenLines len) masks data .guard (some w) (some p) s.stampNow addr) ∧
      (∀ j, t.page j = s.page j) ∧ (∀ q, t.slot q = if q = e then { s.slot e with damaged := true } else s.slot q) ∧
      t = { issued s t tag.toNat
          (issuedEntry .write addr (lenLines len) masks data .guard (some w) (some p) s.stampNow addr) with
        port := arrived s.port, pst := t.pst, slots := t.slots, activity := counted s (some w) (oneMore .write)
        wp := { s.wp with breaks := satInc s.wp.breaks }
        mgmt := { s.mgmt with flags := s.mgmt.flags ||| BitVec.twoPow 21 8 } }) ∧
    (s.wp.policy = .wait → ∃ u : State, exec (.write tag len addr masks data) s = .next u.pressureCheck ∧
      entriesAre s u tag.toNat
        (waitingEntry s .frameWait .write addr (lenLines len) masks data w p s.stampNow none) ∧
      (∀ j, u.page j = if j = p then
        { s.page p with waitHead := some tag.toNat, waitTail := some tag.toNat } else s.page j) ∧
      u = { s with
        entries := u.entries, pst := u.pst, activity := counted s (some w) (oneMore .write), port := arrived s.port
        pool := { s.pool with wait := s.pool.wait ++ [tag.toNat] }
        mgmt := { s.mgmt with flags := s.mgmt.flags ||| BitVec.twoPow 21 8 } })

/-- The hold timeout completes an entry REFUSED/HOLD_TIMEOUT, with its flag, its capture and one more refusal in its window:
a PARKED entry leaves the park list; an entry that waits behind the head of its page's list leaves it from its place, the
others keeping their order; a HELD or FRAME_WAIT entry alone in its page's list leaves that list empty, and the frame-wait
queue; and one with others behind it makes the next its list's head, which is decided: a read, a write in DEGRADED and a
write without an effective mark are issued, outside a restore phase. Its credit is returned while the intake is OPEN and owed
otherwise, and a CLOSING intake that the step leaves with the empty condition is CLOSED. -/
def Obligations.HoldTimeoutRefusesAndKeepsOrder : Prop :=
  ∀ (s : State) (n d : Nat), s.Settled → s.port.up = true → n < 128 →
    (s.entry n).deadline = some d → d ≤ s.now →
    ((s.entry n).state = .parked → ∃ t, exec (.holdTimeout n) s = .next t ∧ entriesAre s t n .freed ∧
      t = { s with
        entries := t.entries
        port := credited s t [.completion n .refused .holdTimeout []]
        sweep := { s.sweep with
          park := s.sweep.park.filter (· != n), drainSet := s.sweep.drainSet.filter (· != n) }
        activity := counted s (s.entry n).window fun c => { c with refusals := satInc c.refusals }
        mgmt := quiesced s t
            (reported s.mgmt 11 .timeout (some n) (some (s.entry n).address) (s.entry n).window) }) ∧
    (∀ p, (s.entry n).state = .waiting → (s.entry n).pst = some p → (s.page p).parityOk = true →
      (s.waitList p).Nodup → (s.waitList p).length ≤ 128 → n ∈ s.waitList p → (s.page p).waitHead ≠ some n →
      ∃ t, exec (.holdTimeout n) s = .next t ∧ t.entry n = .freed ∧
        t.waitList p = (s.waitList p).filter (· != n) ∧
        (∀ m, m ≠ n → t.entry m = { s.entry m with next := (t.entry m).next }) ∧
        (∀ j, j ≠ p → t.page j = s.page j) ∧
        t = { s with
          entries := t.entries, pst := t.pst
          port := credited s t [.completion n .refused .holdTimeout []]
          pool := { s.pool with wait := s.pool.wait.filter (· != n) }
          sweep := { s.sweep with drainSet := s.sweep.drainSet.filter (· != n) }
          activity := counted s (s.entry n).window fun c => { c with refusals := satInc c.refusals }
          mgmt := quiesced s t
            (reported s.mgmt 11 .timeout (some n) (some (s.entry n).address) (s.entry n).window) }) ∧
    (∀ p, (s.entry n).state = .held ∨ (s.entry n).state = .frameWait → (s.entry n).pst = some p →
      (s.page p).parityOk = true → (s.page p).waitHead = some n → (s.page p).waitTail = some n → (s.entry n).next = none →
      ∃ t, exec (.holdTimeout n) s = .next t ∧ entriesAre s t n .freed ∧
        (∀ j, t.page j = if j = p then { s.page p with waitHead := none, waitTail := none } else s.page j) ∧
        t = { s with
          entries := t.entries, pst := t.pst
          port := credited s t [.completion n .refused .holdTimeout []]
          pool := { s.pool with wait := s.pool.wait.filter (· != n) }
          sweep := { s.sweep with drainSet := s.sweep.drainSet.filter (· != n) }
          activity := counted s (s.entry n).window fun c => { c with refusals := satInc c.refusals }
          mgmt := quiesced s t
            (reported s.mgmt 11 .timeout (some n) (some (s.entry n).address) (s.entry n).window) }) ∧
    (∀ p m, (s.entry n).state = .held ∨ (s.entry n).state = .frameWait → (s.entry n).pst = some p →
      (s.page p).parityOk = true → (s.page p).waitHead = some n → (s.entry n).next = some m → m ≠ n →
      (∃ u : State, exec (.holdTimeout n) s = .next (u.decidePage p).finish ∧ entriesAre s u n .freed ∧
        (∀ j, u.page j = if j = p then { s.page p with waitHead := some m } else s.page j) ∧
        u = { s with
          entries := u.entries, pst := u.pst
          port := { s.port with
            sent := s.port.sent ++ [.completion n .refused .holdTimeout []]
            due := if s.port.intake = .opened then 1 else 0
            owed := if s.port.intake = .opened then s.port.owed else s.port.owed + 1 }
          pool := { s.pool with wait := s.pool.wait.filter (· != n) }
          sweep := { s.sweep with drainSet := s.sweep.drainSet.filter (· != n) }
          activity := counted s (s.entry n).window fun c => { c with refusals := satInc c.refusals }
          mgmt := reported s.mgmt 11 .timeout (some n) (some (s.entry n).address) (s.entry n).window }) ∧
      (m < 128 → (s.entry m).state = .waiting → (s.entry m).next = none → (s.page p).waitTail = some m →
        s.restoring = false → s.mem.up = true →
        (s.entry m).kind = .read ∨ s.ctl.state = .degraded ∨ s.effective (s.entry m).stamp = none →
        ∃ t, exec (.holdTimeout n) s = .next t ∧
        (∀ x, t.entry x = if x = n then .freed else if x = m then issuedAgain (s.entry m) else s.entry x) ∧
        (∀ j, t.page j = if j = p then { s.page p with waitHead := none, waitTail := none } else s.page j) ∧
        t = { s with
          entries := t.entries, pst := t.pst, tags := s.tags.set .idle m (queuedAgain s m)
          mem := { s.mem with takeList := s.mem.takeList ++ [m], sendQueue := s.mem.sendQueue ++ [m] }
          port := credited s t [.completion n .refused .holdTimeout []]
          pool := { s.pool with wait := s.pool.wait.filter (· != n) }
          sweep := { s.sweep with drainSet := s.sweep.drainSet.filter (· != n) }
          activity := counted s (s.entry n).window fun c => { c with refusals := satInc c.refusals }
          mgmt := reported s.mgmt 11 .timeout (some n) (some (s.entry n).address) (s.entry n).window }))

/-- A COMPLETION or CREDIT on the request port, a READ or WRITE on the memory port, and a message of an unknown type on
either are discarded: PROTOCOL_ERR and a protocol capture with no tag, address or window, and nothing else. While the link
that carries it is down no message is received (the model's reading, log 17). -/
def Obligations.MisdirectedAndUnknownMessages : Prop :=
  ∀ (s : State) (ty : BitVec 4),
    (s.port.up = true →
      exec (.misdirectedUpstreamMessage ty) s = .next { s with mgmt := reported s.mgmt 14 .protocol none none none } ∧
      exec (.unknownTypeMessage .request ty) s =
        .next { s with mgmt := reported s.mgmt 14 .protocol none none none }) ∧
    (s.mem.up = true →
      exec (.misdirectedDownstreamMessage ty) s =
        .next { s with mgmt := reported s.mgmt 14 .protocol none none none } ∧
      exec (.unknownTypeMessage .memory ty) s =
        .next { s with mgmt := reported s.mgmt 14 .protocol none none none }) ∧
    (s.port.up = false → exec (.misdirectedUpstreamMessage ty) s = .next s ∧
      exec (.unknownTypeMessage .request ty) s = .next s) ∧
    (s.mem.up = false → exec (.misdirectedDownstreamMessage ty) s = .next s ∧
      exec (.unknownTypeMessage .memory ty) s = .next s)

/-- The request-port link down frees every PARKED, WAITING, HELD and FRAME_WAIT entry without a completion, makes ISSUED
entries ORPHANED, leaves the others, empties the park list, the frame-wait queue and every wait list, zeroes both credit
counts and sets LINK_CHANGE. The intake stays as it is, but that a CLOSING one which the step leaves with the empty condition
is CLOSED, with QUIESCED; no other flag is set and nothing is captured. That the step reads no GUARD entry, so that it finds
no table fault, and rewrites each entry that had a list with sound parity, is the model's choice (log 24). -/
def Obligations.RequestPortLinkDownFreesTheWaiters : Prop :=
  ∀ s : State, s.Settled → s.port.up = true → s.tablesCanonical = true →
    ∃ t, exec .requestPortLinkDown s = .next t ∧ t.flag .linkChange = true ∧
      (∀ n, t.entry n =
        if n < 128 then
          match (s.entry n).state with
          | .parked | .waiting | .held | .frameWait => .freed
          | .issued => { s.entry n with state := .orphaned }
          | .free | .quarantined | .orphaned => s.entry n
        else s.entry n) ∧
      (∀ p, (t.page p).waitHead = none ∧ (t.page p).waitTail = none ∧
        (t.page p).chainHead = (s.page p).chainHead ∧ (t.page p).touch = (s.page p).touch ∧
        ((t.page p).parityOk = true ↔
          (s.page p).parityOk = true ∨ (s.page p).waitHead ≠ none ∨ (s.page p).waitTail ≠ none)) ∧
      (∀ n, n ∈ t.sweep.drainSet ↔
        n ∈ s.sweep.drainSet ∧ (128 ≤ n ∨ (s.entry n).state ∈ [EntryState.free, .quarantined, .orphaned])) ∧
      t = { s with
        port := { s.port with up := false, credits := 0, owed := 0, intake := intakeAfter s t }
        entries := t.entries, pst := t.pst, pool := { s.pool with wait := [] }
        sweep := { s.sweep with park := [], drainSet := t.sweep.drainSet }
        mgmt := quiesced s t { s.mgmt with flags := s.mgmt.flags ||| BitVec.twoPow 21 19 } }

/-- A link up sets LINK_CHANGE. On the request port the FREE entries are advertised in one CREDIT message while the intake is
OPEN, and become `owed` otherwise. On the memory port the credits stay as they are until CREDIT messages raise them by
their count, to 65,535 at most. -/
def Obligations.LinkUpsAndMemoryCredits : Prop :=
  ∀ s : State,
    (s.port.up = false → s.port.intake = .opened → 0 < s.freeEntries → exec .requestPortLinkUp s = .next { s with
      port := { s.port with up := true, credits := s.freeEntries, sent := s.port.sent ++ [.credit s.freeEntries] }
      mgmt := { s.mgmt with flags := s.mgmt.flags ||| BitVec.twoPow 21 19 } }) ∧
    (s.port.up = false → s.port.intake ≠ .opened → exec .requestPortLinkUp s = .next { s with
      port := { s.port with up := true, owed := s.freeEntries }
      mgmt := { s.mgmt with flags := s.mgmt.flags ||| BitVec.twoPow 21 19 } }) ∧
    (s.mem.up = false → exec .memoryPortLinkUp s = .next { s with
      mem := { s.mem with up := true }, mgmt := { s.mgmt with flags := s.mgmt.flags ||| BitVec.twoPow 21 19 } }) ∧
    (∀ n : BitVec 16, s.mem.up = true → exec (.credit n) s = .next { s with
      mem := { s.mem with credits := min 65535 (s.mem.credits + n.toNat) } })

/-! ## The memory port and the copy engine (07) -/

/-- While the link is up and a credit is at hand, the port sends the head of the send queue: the tag becomes OUTSTANDING and
the credits fall by one. Without a credit, a link or a queued request nothing is sent, and the command, which the sender may
give at any time, has no effect: the model's choice (log 3). A RETRY below the limit puts the request back in the send queue
at the place its take order gives, with a fresh deadline and the same content. -/
def Obligations.RequestsAreSentInTakeOrder : Prop :=
  ∀ s : State,
    (∀ k rest, s.mem.up = true → 0 < s.mem.credits → s.mem.sendQueue = k :: rest → exec .sendRequest s = .next { s with
      tags := s.tags.set .idle k { s.tag k with state := .outstanding }
      mem := { s.mem with
        credits := s.mem.credits - 1, sendQueue := rest
        sent := s.mem.sent ++ [⟨k, (s.tag k).kind, (s.tag k).address, (s.tag k).lines, (s.tag k).masks,
          (s.tag k).data⟩] } }) ∧
    (s.mem.up = false ∨ s.mem.credits = 0 ∨ s.mem.sendQueue = [] → exec .sendRequest s = .next s) ∧
    (∀ (k : Byte) (reason : BitVec 4) (data : List Byte), s.mem.up = true → k.toNat < 144 →
      (s.tag k.toNat).state = .outstanding → (s.tag k.toNat).retries < s.mem.retryLimit.toNat →
      exec (.completion k 3#4 reason data) s = .next { s with
        tags := s.tags.set .idle k.toNat { s.tag k.toNat with
          state := .queued, retries := (s.tag k.toNat).retries + 1
          deadline := some (s.now + orMax s.mem.responseTimeout) }
        mem := { s.mem with
          retryCount := satInc s.mem.retryCount
          sendQueue := s.mem.takeList.filter fun x => x == k.toNat || s.mem.sendQueue.contains x } })

/-- The tag of an ended request is IDLE and in neither list. -/
def endedMem (s : State) (n : Nat) : MemoryPort :=
  { s.mem with takeList := s.mem.takeList.filter (· != n), sendQueue := s.mem.sendQueue.filter (· != n) }

/-- The answer with a given status and data ends the request on tag `k` with an error: an error status, a read's data of the
wrong length, or a RETRY at the limit, or above one lowered meanwhile (log 34). -/
def errorAnswer (s : State) (k : Byte) (status : BitVec 4) (data : List Byte) : Prop :=
  (status ≠ 0#4 ∧ status ≠ 3#4) ∨ (status = 0#4 ∧ (s.tag k.toNat).dataGood data = false) ∨
    (status = 3#4 ∧ s.mem.retryLimit.toNat ≤ (s.tag k.toNat).retries)

/-- The answer to an ISSUED entry's request completes it and frees it. OK carries a read's data up; an error status, a read's
data of the wrong length and a RETRY at the limit complete it DATA_ERR/MEMORY_ERROR and raise the error counter, with no flag
and no capture. The entry's credit is returned while the intake is OPEN and owed while it is CLOSING or CLOSED, and a CLOSING
intake that the step leaves with the empty condition is CLOSED, with QUIESCED. The answer to an ORPHANED entry's request, OK
or error, is discarded: the entry is FREE, no completion is sent, and its credit is earned in the same way, while the link is
down not at all. That a RETRY above a limit lowered meanwhile ends the request as at the limit is the model's choice (log
34). -/
def Obligations.AnswersCompleteTheEntry : Prop :=
  ∀ (s : State) (k : Byte) (status reason : BitVec 4) (data : List Byte),
    s.Settled → s.mem.up = true → k.toNat < 128 → (s.tag k.toNat).state = .outstanding →
    (status = 0#4 → (s.tag k.toNat).dataGood data = true → (s.entry k.toNat).state = .issued → s.port.up = true →
      ∃ t, exec (.completion k status reason data) s = .next t ∧
      entriesAre s t k.toNat .freed ∧
      t = { s with
        entries := t.entries, tags := s.tags.set .idle k.toNat .idle, mem := endedMem s k.toNat
        port := credited s t [.completion k.toNat .ok .none (if (s.entry k.toNat).kind = .read then data else [])]
        sweep := { s.sweep with drainSet := s.sweep.drainSet.filter (· != k.toNat) }
        mgmt := quiesced s t s.mgmt }) ∧
    (errorAnswer s k status data → (s.entry k.toNat).state = .issued → s.port.up = true →
      ∃ t, exec (.completion k status reason data) s = .next t ∧ entriesAre s t k.toNat .freed ∧
      t = { s with
        entries := t.entries, tags := s.tags.set .idle k.toNat .idle
        mem := { endedMem s k.toNat with errorCount := satInc s.mem.errorCount }
        port := credited s t [.completion k.toNat .dataErr .memoryError []]
        sweep := { s.sweep with drainSet := s.sweep.drainSet.filter (· != k.toNat) }
        mgmt := quiesced s t s.mgmt }) ∧
    ((status = 0#4 ∧ (s.tag k.toNat).dataGood data = true) ∨ errorAnswer s k status data →
      (s.entry k.toNat).state = .orphaned →
      ∃ t, exec (.completion k status reason data) s = .next t ∧ entriesAre s t k.toNat .freed ∧
      t = { s with
        entries := t.entries, tags := s.tags.set .idle k.toNat .idle
        mem := { endedMem s k.toNat with
          errorCount := if status = 0#4 ∧ (s.tag k.toNat).dataGood data = true then s.mem.errorCount
            else satInc s.mem.errorCount }
        port := if s.port.up = true then credited s t [] else { s.port with intake := intakeAfter s t }
        sweep := { s.sweep with drainSet := s.sweep.drainSet.filter (· != k.toNat) }
        mgmt := quiesced s t s.mgmt })

/-- The state after the next chunk's read of channel `c`'s job `j` goes out on tag `k`. -/
def nextChunkRead (s t : State) (c k : Nat) (j : Job) : Prop :=
  (∀ x, t.chan x = if x = c then { s.chan c with nextChunk := (s.chan c).nextChunk + 1 } else s.chan x) ∧
  (∀ x, t.copyTag x = if x = k then { s.copyTag k with use := .read (s.chan c).nextChunk } else s.copyTag x) ∧
  (∀ x, t.tag x = if x = k then
    ⟨.queued, .read, addrAt j.source ((s.chan c).nextChunk * 256), 4, [], [], 0,
      some (s.now + orMax s.mem.responseTimeout)⟩ else s.tag x)

/-- A response on a QUARANTINED tag is late: it is counted and flagged, whatever its status, and its tag becomes IDLE. A
QUARANTINED or ORPHANED entry becomes FREE without a second completion and earns its credit, while the request-port link is
down not at all. A channel tag becomes FREE: a
BLOCKED channel is IDLE again, a RUNNING one with chunks left reads the next chunk on it, and in every other case the channel
stays as it is. A response on an IDLE or QUEUED tag, or on a tag above 143, is counted and flagged and changes nothing
else. -/
def Obligations.LateAndUnknownResponses : Prop :=
  ∀ (s : State) (k : Byte) (status reason : BitVec 4) (data : List Byte), s.mem.up = true →
    (144 ≤ k.toNat ∨ (s.tag k.toNat).state = .idle ∨ (s.tag k.toNat).state = .queued →
      exec (.completion k status reason data) s = .next { s with
        mem := { s.mem with lateCount := satInc s.mem.lateCount }
        mgmt := { s.mgmt with flags := s.mgmt.flags ||| BitVec.twoPow 21 13 } }) ∧
    (s.Settled → k.toNat < 128 → (s.tag k.toNat).state = .quarantined →
      (s.entry k.toNat).state = .quarantined ∨ (s.entry k.toNat).state = .orphaned →
      ∃ t, exec (.completion k status reason data) s = .next t ∧ entriesAre s t k.toNat .freed ∧
      t = { s with
        entries := t.entries, tags := s.tags.set .idle k.toNat .idle
        mem := { endedMem s k.toNat with lateCount := satInc s.mem.lateCount }
        port := if s.port.up = true then credited s t [] else { s.port with intake := intakeAfter s t }
        sweep := { s.sweep with drainSet := s.sweep.drainSet.filter (· != k.toNat) }
        mgmt := quiesced s t { s.mgmt with flags := s.mgmt.flags ||| BitVec.twoPow 21 13 } }) ∧
    (∀ c, s.Settled → s.wp.queue = [] → s.sweep.demand = [] → s.sweep.offer = none → 128 ≤ k.toNat → k.toNat < 144 →
      c = (k.toNat - 128) / 4 → (s.tag k.toNat).state = .quarantined → (s.copyTag k.toNat).use = .quarantined →
      ((s.chan c).state ≠ .running ∨ 16 ≤ (s.chan c).nextChunk →
        ∃ t, exec (.completion k status reason data) s = .next t ∧
        (∀ x, t.chan x = if x = c ∧ (s.chan c).state = .blocked then { s.chan c with state := .idle } else s.chan x) ∧
        (∀ x, t.copyTag x = if x = k.toNat then { s.copyTag x with use := .free } else s.copyTag x) ∧
        t = { s with
          channels := t.channels, copyTags := t.copyTags, tags := s.tags.set .idle k.toNat .idle
          mem := { endedMem s k.toNat with lateCount := satInc s.mem.lateCount }
          mgmt := { s.mgmt with flags := s.mgmt.flags ||| BitVec.twoPow 21 13 } }) ∧
      (∀ j, (s.chan c).state = .running → (s.chan c).nextChunk < 16 → (s.chan c).job = some j →
        ∃ t, exec (.completion k status reason data) s = .next t ∧ nextChunkRead s t c k.toNat j ∧
        t = { s with
          channels := t.channels, copyTags := t.copyTags, tags := t.tags
          mem := { s.mem with
            takeList := s.mem.takeList.filter (· != k.toNat) ++ [k.toNat]
            sendQueue := s.mem.sendQueue.filter (· != k.toNat) ++ [k.toNat]
            lateCount := satInc s.mem.lateCount }
          mgmt := { s.mgmt with flags := s.mgmt.flags ||| BitVec.twoPow 21 13 } }))

/-- The response timeout is counted and flagged. Of a transaction entry's request it is captured too: an ISSUED entry is
completed DATA_ERR/MEMORY_TIMEOUT, and with an OUTSTANDING tag, which is QUARANTINED, the entry is QUARANTINED, while with a
QUEUED tag, which becomes IDLE, it is FREE; an ORPHANED entry is told without a completion, and stays ORPHANED or becomes
FREE, and while the request-port link is down no completion is sent and no credit earned. On a copy channel's tag nothing is
captured; the chunk fails, a RUNNING channel is STOPPING, and the channel's tag is QUARANTINED or FREE like the tag itself,
while another tag of the channel is in use and the job is not over. With the last tag in use the job is over: the channel is
IDLE, or BLOCKED where all four of its tags are QUARANTINED, and the failure is reported: with no write HELD for it, the
record is freed and its frame returned, a preservation sets PRESERVE_FAIL and damages its slot under BREAK and WAIT, a
restore's page joins the fault list with RESTORE_FAULT, and both are captured. That the channel keeps its next chunk and
chunks done is the model's choice (log 22). A job that has lost its record is log 26's. -/
def Obligations.ResponseTimeoutQuarantines : Prop :=
  ∀ (s : State) (k d : Nat), s.Settled → (s.tag k).deadline = some d → d ≤ s.now →
    (k < 128 → (s.entry k).state = .issued ∨ (s.entry k).state = .orphaned →
      ((s.tag k).state = .outstanding → ∃ t, exec (.responseTimeout k) s = .next t ∧
        entriesAre s t k
          (if (s.entry k).state = .issued then { s.entry k with state := .quarantined } else s.entry k) ∧
        t = { s with
          entries := t.entries
          tags := s.tags.set .idle k { s.tag k with state := .quarantined, deadline := none }
          mem := { s.mem with
            takeList := s.mem.takeList.filter (· != k), timeoutCount := satInc s.mem.timeoutCount }
          port := if (s.entry k).state = .issued ∧ s.port.up = true then
              { s.port with sent := s.port.sent ++ [.completion k .dataErr .memoryTimeout []] } else s.port
          sweep := if (s.entry k).state = .issued then
              { s.sweep with drainSet := s.sweep.drainSet.filter (· != k) } else s.sweep
          mgmt := reported s.mgmt 12 .timeout (some k) (some (s.entry k).address) (s.entry k).window }) ∧
      ((s.tag k).state = .queued → ∃ t, exec (.responseTimeout k) s = .next t ∧ entriesAre s t k .freed ∧
        t = { s with
          entries := t.entries, tags := s.tags.set .idle k .idle
          mem := { endedMem s k with timeoutCount := satInc s.mem.timeoutCount }
          port := if s.port.up = true then credited s t
              (if (s.entry k).state = .issued then [.completion k .dataErr .memoryTimeout []] else [])
            else { s.port with intake := intakeAfter s t }
          sweep := { s.sweep with drainSet := s.sweep.drainSet.filter (· != k) }
          mgmt := quiesced s t
            (reported s.mgmt 12 .timeout (some k) (some (s.entry k).address) (s.entry k).window) })) ∧
    (∀ c j, 128 ≤ k → k < 144 → c = (k - 128) / 4 → (s.copyTag k).use.busy = true → (s.chan c).job = some j →
      (∃ x, x ∈ chanTags c ∧ x ≠ k ∧ (s.copyTag x).use.busy = true) →
      (s.tag k).state = .outstanding ∨ (s.tag k).state = .queued → ∃ t, exec (.responseTimeout k) s = .next t ∧
        (∀ x, t.chan x =
          if x = c ∧ (s.chan c).state = .running then { s.chan c with state := .stopping } else s.chan x) ∧
        (∀ x, t.copyTag x = if x = k then
          { s.copyTag k with use := if (s.tag k).state = .outstanding then .quarantined else .free }
          else s.copyTag x) ∧
        (∀ x, t.tag x = if x = k then
          (if (s.tag k).state = .outstanding then { s.tag k with state := .quarantined, deadline := none } else .idle)
          else s.tag x) ∧
        t = { s with
          channels := t.channels, copyTags := t.copyTags, tags := t.tags
          mem := { s.mem with
            takeList := s.mem.takeList.filter (· != k)
            sendQueue := if (s.tag k).state = .outstanding then s.mem.sendQueue else s.mem.sendQueue.filter (· != k)
            timeoutCount := satInc s.mem.timeoutCount }
          mgmt := { s.mgmt with flags := s.mgmt.flags ||| BitVec.twoPow 21 12 } }) ∧
    (∀ c j, 128 ≤ k → k < 144 → c = (k - 128) / 4 → (s.copyTag k).use.busy = true → (s.chan c).job = some j →
      (∀ y, y ∈ chanTags c → y ≠ k → (s.copyTag y).use.busy = false) →
      (s.chan c).state = .running ∨ (s.chan c).state = .stopping →
      (s.tag k).state = .outstanding ∨ (s.tag k).state = .queued → ∃ u t : State,
        exec (.responseTimeout k) s = .next t ∧ t = (u.reportJob j false).finish ∧
        (∀ y, u.chan y = if y = c then { s.chan c with
          job := none
          state := if (s.tag k).state = .outstanding ∧
              (∀ i, i ∈ chanTags c → i ≠ k → (s.copyTag i).use = .quarantined) then .blocked else .idle }
          else s.chan y) ∧
        (∀ y, u.copyTag y = if y = k then
          { s.copyTag k with use := if (s.tag k).state = .outstanding then .quarantined else .free }
          else s.copyTag y) ∧
        (∀ y, u.tag y = if y = k then
          (if (s.tag k).state = .outstanding then { s.tag k with state := .quarantined, deadline := none } else .idle)
          else s.tag y) ∧
        u = { s with
          channels := u.channels, copyTags := u.copyTags, tags := u.tags
          mem := { s.mem with
            takeList := s.mem.takeList.filter (· != k)
            sendQueue := if (s.tag k).state = .outstanding then s.mem.sendQueue else s.mem.sendQueue.filter (· != k)
            timeoutCount := satInc s.mem.timeoutCount }
          mgmt := { s.mgmt with flags := s.mgmt.flags ||| BitVec.twoPow 21 12 } } ∧
        ∀ x q g, j.orphaned = false → (s.record j.record).pageNumber = some g → Threaded s j.record x q →
          (∀ d y, d < 4 → d ≠ c → (s.chan d).job = some y → y.record ≠ j.record) → s.wp.queue = [] →
          s.wp.backlog = [] → s.sweep.demand = [] → s.sweep.offer = none → s.pool.wait = [] →
          heldOnJob s j x = none →
          freedRecords s t j.record x ∧ sweepFollows s t j.record ∧
          (∀ y, t.page y = if y = x then { s.page x with chainHead := headAfter s j.record x } else s.page y) ∧
          (∀ y, t.slot y = if y = q then { slotAfter s j.record q with
            damaged := (s.slot q).damaged || (j.kind == .preservation && s.wp.policy != .refuse) } else s.slot y) ∧
          t = { u with
            records := t.records, pst := t.pst, slots := t.slots
            pool := { s.pool with free := s.pool.free ++ [j.record] }
            port := { s.port with intake := intakeAfter s t }
            sweep := match j.kind with
              | .preservation => sweepFreed s j.record
              | .restore => pageFaulted (sweepFreed s j.record) g
            mgmt := quiesced s t (copyFailed u j g none) })

/-- Entry `n`'s request, which the memory port holds, ends with the link. -/
def cutOff (s : State) (n : Nat) : Bool :=
  (s.entry n).state == .issued && ((s.tag n).state == .queued || (s.tag n).state == .outstanding)

/-- Entry `n` becomes FREE with the memory-port link: its request or its quarantine ends (R139). -/
def freedByLink (s : State) (n : Nat) : Bool :=
  decide (n < 128) && (cutOff s n || ((s.entry n).state == .orphaned && (s.tag n).state != .idle) ||
    ((s.entry n).state == .quarantined && (s.tag n).state == .quarantined))

/-- The requests that the entry to DEGRADED at the link down issues: from GUARDING alone (R148, R150). -/
def linkDownWaiters (s : State) : List Nat := if s.ctl.state = .guarding then waitersIssued s else []

/-- Page `y` after a link down at which the copy engine changes nothing. -/
def linkDownPage (s : State) (y : Nat) : PstEntry := if s.ctl.state = .guarding then waitersPage s y else s.page y

/-- The pool after a link down at which the copy engine changes nothing. -/
def linkDownPool (s : State) : Pool := if s.ctl.state = .guarding then { s.pool with wait := [] } else s.pool

/-- The request port after the memory-port link has gone down: an ISSUED entry is completed DATA_ERR/LINK_DOWN, in ascending
order of tag; then come the completions of the requests that the entry to DEGRADED issues, and that of a write HELD behind a
failed job; each entry that became FREE has its credit. -/
def linkDownPort (s t : State) (held : List UpMessage) : RequestPort :=
  let last := (linkDownWaiters s).map (fun n => .completion n .dataErr .linkDown []) ++ held
  let freed := howMany 128 (freedByLink s) + last.length
  if s.port.up = false then { s.port with intake := intakeAfter s t }
  else { s.port with
    intake := intakeAfter s t
    credits := if s.port.intake = .opened then s.port.credits + freed else s.port.credits
    owed := if s.port.intake = .opened then s.port.owed else s.port.owed + freed
    sent := s.port.sent ++
      ((List.range 128).filter (cutOff s)).map (fun n => .completion n .dataErr .linkDown []) ++ last ++
      if s.port.intake = .opened ∧ 0 < freed then [.credit freed] else [] }

/-- State control after a memory-port link down (R150). -/
def linkDownCtl (c : Control) : Control :=
  match c.state with
  | .config => c
  | .guarding => { c with state := .degraded, causeLink := true }
  | .degraded => { c with causeLink := true }
  | .recovering => { c with spoiled := true, linkLost := true }

/-- Slot `y`, in value `v` otherwise, under the DEGRADED entry of a link down: a LIVE mark of GUARDING is damaged (R148). -/
def linkDownSlot (s : State) (y : Nat) (v : Slot) : Slot :=
  if s.ctl.state = .guarding ∧ y < 5 ∧ (s.slot y).state = .live then { v with damaged := true } else v

/-- The management block, in value `m` otherwise, after a memory-port link down: LINK_CHANGE, and from GUARDING the flag
DEGRADED. -/
def linkDownMgmt (s : State) (m : Mgmt) : Mgmt :=
  { m with
    flags := m.flags ||| BitVec.twoPow 21 19 ||| if s.ctl.state = .guarding then BitVec.twoPow 21 17 else 0#21 }

/-- The channels and their tags after a memory-port link down: every job has failed and its channel is IDLE, as is a BLOCKED
one, and their tags are FREE (R139). -/
def channelsDown (s t : State) : Prop :=
  (∀ c, t.chan c = if c < 4 ∧ ((s.chan c).job ≠ none ∨ (s.chan c).state = .blocked) then
    { s.chan c with state := .idle, job := none } else s.chan c) ∧
  (∀ x, t.copyTag x =
    if 128 ≤ x ∧ x < 144 ∧ ((s.chan ((x - 128) / 4)).job ≠ none ∨ (s.copyTag x).use = .quarantined) then
      { s.copyTag x with use := .free } else s.copyTag x)

/-- Job `j` is in a channel, in the preservation queue or in the backlog. -/
def isJob (s : State) (j : Job) : Prop := (∃ c, c < 4 ∧ (s.chan c).job = some j) ∨ j ∈ s.wp.queue ∨ j ∈ s.wp.backlog

/-- The one copy job in a channel, `j` of record of page `x` and slot `q`, has failed with the memory-port link: its record is
freed and its frame returned, its slot is damaged as R66 gives for a preservation, a restore's page joins the fault list, and
the write `held`, which waited for it, is completed by the messages `m`, behind those of the requests that the entry to
DEGRADED issues. -/
def jobFailedByLink (s t : State) (j : Job) (x q g : Nat) (held : Option Nat) (m : List UpMessage)
    (activity : Table Activity) (mgmt : Mgmt) : Prop :=
  freedRecords s t j.record x ∧ sweepFollows s t j.record ∧ channelsDown s t ∧
  (∀ n, t.entry n = if freedByLink s n = true ∨ n ∈ linkDownWaiters s ∨ held = some n then .freed else s.entry n) ∧
  (∀ y, t.page y = if y = x then { linkDownPage s x with
      chainHead := headAfter s j.record x
      waitHead := if held = none then (linkDownPage s x).waitHead else none
      waitTail := if held = none then (linkDownPage s x).waitTail else none } else linkDownPage s y) ∧
  (∀ y, t.slot y = linkDownSlot s y (if y = q then { slotAfter s j.record q with
      damaged := (s.slot q).damaged || (j.kind == .preservation && s.wp.policy != .refuse) } else s.slot y)) ∧
  t = { s with
    records := t.records, pst := t.pst, slots := t.slots, channels := t.channels, copyTags := t.copyTags
    entries := t.entries, tags := t.tags, mem := t.mem
    pool := { linkDownPool s with free := s.pool.free ++ [j.record] }
    port := linkDownPort s t m, ctl := linkDownCtl s.ctl, activity := activity
    sweep := { (match j.kind with
        | .preservation => sweepFreed s j.record
        | .restore => pageFaulted (sweepFreed s j.record) g) with
      drainSet := s.sweep.drainSet.filter fun n => !freedByLink s n && !(linkDownWaiters s).contains n && held != some n }
    mgmt := quiesced s t (linkDownMgmt s mgmt) }

/-- The memory-port link down leaves no request and no quarantine: every tag IDLE, both lists empty, credits 0,
LINK_CHANGE set, and the port's four counters unchanged. At state control GUARDING becomes DEGRADED with cause LINK,
DEGRADED adds the cause, every recovery is spoiled, with the latch of a lost link, and stays RECOVERING, and CONFIG is not
affected. From GUARDING every mark that was LIVE is damaged, unless with roll retention a failure taken before the entry
has made a pressure retire of it first. With no copy job, the entries whose request or quarantine ended are FREE, each
ISSUED one completed DATA_ERR/LINK_DOWN, in ascending order, the model's choice (log 7); then, from GUARDING, so are the
writes in FRAME_WAIT, whose pages hold no rollback source, the longest-waiting first, each followed by the requests behind
it in its page's list, since the entry to DEGRADED issues them; each entry freed has its credit; the others keep their
value, and no channel tag is QUARANTINED. Every copy job fails: with none HELD, whose decision could make further jobs,
and with no write in FRAME_WAIT but in GUARDING where no failure comes before the entry to DEGRADED, every channel is IDLE
and the queues are empty, each job's record is FREE and its frame returned, a preservation sets PRESERVE_FAIL and damages
its slot under BREAK and WAIT, and a restore sets RESTORE_FAULT; that a job that has lost its record sets its flag too is
the model's choice (log 26). With one job, in a channel, all of the state after it is given, the writes in FRAME_WAIT
being issued first as above. A write that waited for it is completed REFUSED/PRESERVE_FAILED where the failure comes
before the entry to DEGRADED, under REFUSE, and DATA_ERR/LINK_DOWN where it comes after it, or under BREAK and WAIT. Which
comes first is the row's operand, the model's choice (log 5); that an IDLE channel keeps its next chunk and chunks done is
the model's too (log 22). -/
def Obligations.MemoryPortLinkDownEndsEveryRequest : Prop :=
  ∀ (s : State) (k : Nat), s.mem.up = true → ∃ t, exec (.memoryPortLinkDown k) s = .next t ∧
    (∀ x, t.tag x = .idle) ∧ t.flag .linkChange = true ∧
    t.mem = { s.mem with up := false, credits := 0, takeList := [], sendQueue := [] } ∧
    (s.ctl.state = .config → t.ctl.state = .config) ∧
    (s.ctl.state = .guarding → t.ctl.state = .degraded ∧ t.ctl.causeLink = true ∧ t.flag .degraded = true) ∧
    (s.ctl.state = .degraded → t.ctl.state = .degraded ∧ t.ctl.causeLink = true) ∧
    (s.ctl.state = .recovering → t.ctl.state = .recovering ∧ t.ctl.spoiled = true ∧ t.ctl.linkLost = true) ∧
    (s.ctl.state = .guarding → k = 0 ∨ s.sched.roll = false →
      ∀ q, q < 5 → (s.slot q).state = .live → (t.slot q).damaged = true) ∧
    (s.copyIdle = true → (s.ctl.state = .guarding → WaitersStand s) →
      (∀ n, t.entry n = if freedByLink s n = true ∨ n ∈ linkDownWaiters s then .freed else s.entry n) ∧
      (∀ y, t.page y = linkDownPage s y) ∧ (s.pool.wait = [] → t.pst = s.pst) ∧
      (∀ c, t.chan c = if c < 4 ∧ (s.chan c).state = .blocked then { s.chan c with state := .idle } else s.chan c) ∧
      (∀ x, 128 ≤ x → x < 144 → (t.copyTag x).use ≠ .quarantined) ∧
      (s.Settled → (∀ y, t.slot y = linkDownSlot s y (s.slot y)) ∧
        t = { s with
          entries := t.entries, tags := t.tags, mem := t.mem, channels := t.channels, copyTags := t.copyTags
          slots := t.slots, pst := t.pst, pool := linkDownPool s, port := linkDownPort s t []
          ctl := linkDownCtl s.ctl
          sweep := { s.sweep with
            drainSet := s.sweep.drainSet.filter fun n => !freedByLink s n && !(linkDownWaiters s).contains n }
          mgmt := quiesced s t (linkDownMgmt s s.mgmt) })) ∧
    (s.pool.wait = [] ∨ (s.ctl.state = .guarding ∧ k = 0 ∧ WaitersStand s) →
      (∀ n, (s.entry n).state ≠ .held) → (s.wp.queue = [] → s.wp.backlog = []) →
      (∀ c, c < 4 → (s.chan c).job = none → ((s.chan c).state = .idle ∨ (s.chan c).state = .blocked) ∧
        ∀ x, x ∈ chanTags c → (s.copyTag x).use.busy = false) →
      t.wp.queue = [] ∧ t.wp.backlog = [] ∧ t.sweep.demand = [] ∧ t.sweep.offer = none ∧
      (∀ n, t.entry n = if freedByLink s n = true ∨ n ∈ linkDownWaiters s then .freed else s.entry n) ∧
      (∀ c, c < 4 → (t.chan c).state = .idle ∧ (t.chan c).job = none) ∧
      (∀ x, 128 ≤ x → x < 144 → (t.copyTag x).use = .free) ∧
      ∀ j, isJob s j →
        (j.orphaned = false → t.record j.record = .freed ∧ j.record ∈ t.pool.free) ∧
        (j.kind = .preservation → t.flag .preserveFail = true ∧
          ∀ q, j.orphaned = false → s.slotOf (s.record j.record) = some q → s.wp.policy ≠ .refuse →
            s.sweep.demand = [] → s.sweep.offer = none → (∀ i, isJob s i → i ≠ j → i.record ≠ j.record) →
            (t.slot q).damaged = true) ∧
        (j.kind = .restore → t.flag .restoreFault = true)) ∧
    (∀ c j x q g, s.Settled → c < 4 → (s.chan c).job = some j → (∀ d, d < 4 → d ≠ c → (s.chan d).job = none) →
      j.orphaned = false → (s.record j.record).pageNumber = some g → Threaded s j.record x q →
      s.wp.queue = [] → s.wp.backlog = [] → s.sweep.demand = [] → s.sweep.offer = none →
      s.pool.wait = [] ∨ (s.ctl.state = .guarding ∧ k = 0 ∧ WaitersStand s) →
      (heldOnJob s j x = none → jobFailedByLink s t j x q g none [] s.activity (copyFailed s j g none)) ∧
      (∀ n, heldOnJob s j x = some n → n < 128 → (s.entry n).next = none → (s.page x).waitTail = some n →
        (s.entry n).kind = .write → (s.restoring = true → s.chain x = [j.record]) →
        (s.ctl.state = .guarding → 0 < k → j.kind = .preservation → s.effective (s.entry n).stamp = some q →
          s.wp.policy = .refuse →
          jobFailedByLink s t j x q g (some n) [.completion n .refused .preserveFailed []]
            (counted s (s.entry n).window fun a => { a with refusals := satInc a.refusals })
            { copyFailed s j g (some n) with
              firstError := { (copyFailed s j g (some n)).firstError with more := true } }) ∧
        ((s.ctl.state = .guarding ∧ k = 0) ∨ s.ctl.state = .degraded ∨ s.effective (s.entry n).stamp = none ∨
            (s.ctl.state = .guarding ∧ j.kind = .preservation ∧ s.effective (s.entry n).stamp = some q ∧
              s.wp.policy ≠ .refuse) →
          jobFailedByLink s t j x q g (some n) [.completion n .dataErr .linkDown []] s.activity
            (copyFailed s j g (some n)))))

/-- The preservation of record `r` has succeeded on tag `k` of channel `c`: the record VALID, the channel IDLE with no job,
and its tag FREE. -/
def jobDone (s t : State) (c k r : Nat) : Prop :=
  (∀ x, t.record x = if x = r then { s.record x with state := .valid } else s.record x) ∧
  (∀ x, t.chan x = if x = c then { s.chan c with state := .idle, job := none, done := 16 } else s.chan x) ∧
  (∀ x, t.copyTag x = if x = k then { s.copyTag x with use := .free } else s.copyTag x)

/-- Channel `c` has ended its job on tag `k`, the last of its tags in use: IDLE, and the tag FREE. That next chunk and chunks
done keep their values is the model's choice (log 22). -/
def channelIdle (s t : State) (c k : Nat) : Prop :=
  (∀ x, t.chan x = if x = c then { s.chan c with state := .idle, job := none } else s.chan x) ∧
  (∀ x, t.copyTag x = if x = k then { s.copyTag x with use := .free } else s.copyTag x)

/-- The page that a job saves or restores. -/
def pageOfJob (j : Job) : Nat :=
  match j.kind with
  | .preservation => j.source
  | .restore => j.dest

/-- A chunk's read answered OK is written from its slot to the destination at the same offset, every byte enabled, on the
same tag; a chunk's write answered OK counts the chunk, and the next chunk's read goes out on that tag while chunks are left;
the sixteenth chunk ends the job. When it was a preservation, its record is VALID, a sweep that waited for it waits no
longer, and the channel is IDLE with no job; that `chunks done` stays 16 there is the model's choice (log 22). A write HELD
behind the record, alone in its page's list, is decided again, and issued where the part is DEGRADED, it has no effective
mark, or the record resolves to its effective mark. An error answer while other tags of the job are in use frees its tag and
leaves a RUNNING channel STOPPING; a STOPPING channel issues nothing more, and an OK answer there frees its tag too, a
write's counting its chunk. The end of a job that has lost its record, with no write HELD behind it, changes the channel and
its tag, and brings what its outcome brings beside the record: a restore's success its count, a failure its flag, its capture
and, for a restore, its counts and the fault list: the model's choice (log 26). A CLOSING intake that a job's end leaves with
the empty condition is CLOSED, with QUIESCED. That a RETRY above a limit lowered meanwhile
ends a chunk's request as at the limit is the model's choice too (log 34). -/
def Obligations.ChunksAdvanceAndEndTheJob : Prop :=
  ∀ (s : State) (k : Byte) (reason : BitVec 4) (data : List Byte) (c : Nat) (j : Job),
    s.Settled → s.mem.up = true → 128 ≤ k.toNat → k.toNat < 144 → c = (k.toNat - 128) / 4 →
    (s.tag k.toNat).state = .outstanding → (s.chan c).job = some j →
    (∀ status, errorAnswer s k status data → (s.copyTag k.toNat).use.busy = true →
      (∃ x, x ∈ chanTags c ∧ x ≠ k.toNat ∧ (s.copyTag x).use.busy = true) →
      (s.chan c).state = .running ∨ (s.chan c).state = .stopping →
      ∃ t, exec (.completion k status reason data) s = .next t ∧
      (∀ x, t.copyTag x = if x = k.toNat then { s.copyTag x with use := .free } else s.copyTag x) ∧
      (∀ x, t.chan x = if x = c then { s.chan c with state := .stopping } else s.chan x) ∧
      t = { s with
        copyTags := t.copyTags, channels := t.channels, tags := s.tags.set .idle k.toNat .idle
        mem := { endedMem s k.toNat with errorCount := satInc s.mem.errorCount } }) ∧
    (∀ i, (s.tag k.toNat).dataGood data = true → (s.chan c).state = .stopping →
      (∃ x, x ∈ chanTags c ∧ x ≠ k.toNat ∧ (s.copyTag x).use.busy = true) →
      ((s.copyTag k.toNat).use = .read i → ∃ t, exec (.completion k 0#4 reason data) s = .next t ∧
        (∀ x, t.copyTag x = if x = k.toNat then { s.copyTag x with use := .free } else s.copyTag x) ∧
        t = { s with
          copyTags := t.copyTags, tags := s.tags.set .idle k.toNat .idle, mem := endedMem s k.toNat }) ∧
      ((s.copyTag k.toNat).use = .write i → ∃ t, exec (.completion k 0#4 reason data) s = .next t ∧
        (∀ x, t.copyTag x = if x = k.toNat then { s.copyTag x with use := .free } else s.copyTag x) ∧
        (∀ x, t.chan x = if x = c then { s.chan c with done := (s.chan c).done + 1 } else s.chan x) ∧
        t = { s with
          copyTags := t.copyTags, channels := t.channels, tags := s.tags.set .idle k.toNat .idle
          mem := endedMem s k.toNat })) ∧
    (∀ p status, errorAnswer s k status data → (s.copyTag k.toNat).use.busy = true →
      (∀ x, x ∈ chanTags c → x ≠ k.toNat → (s.copyTag x).use.busy = false) →
      (s.chan c).state = .running ∨ (s.chan c).state = .stopping → j.orphaned = true →
      s.guardIndex (pageOfJob j) = some p →
      (s.page p).parityOk = true → s.heldBehind p j.record = none → s.heldForDemand p = false →
      s.wp.queue = [] → s.sweep.demand = [] → s.sweep.offer = none →
      ∃ t, exec (.completion k status reason data) s = .next t ∧ channelIdle s t c k.toNat ∧
      t = { s with
        channels := t.channels, copyTags := t.copyTags, tags := s.tags.set .idle k.toNat .idle
        mem := { endedMem s k.toNat with errorCount := satInc s.mem.errorCount }
        port := { s.port with intake := intakeAfter s t }
        sweep := match j.kind with | .preservation => s.sweep | .restore => pageFaulted s.sweep (pageOfJob j)
        mgmt := quiesced s t (copyFailed s j (pageOfJob j) none) }) ∧
    ((s.tag k.toNat).dataGood data = true → (s.chan c).state = .running →
    (∀ i, (s.copyTag k.toNat).use = .write i → (s.chan c).nextChunk = 16 → (s.chan c).done < 15 →
      ∃ t, exec (.completion k 0#4 reason data) s = .next t ∧
      (∀ x, t.copyTag x = if x = k.toNat then { s.copyTag x with use := .free } else s.copyTag x) ∧
      (∀ x, t.chan x = if x = c then { s.chan c with done := (s.chan c).done + 1 } else s.chan x) ∧
      t = { s with
        copyTags := t.copyTags, channels := t.channels, tags := s.tags.set .idle k.toNat .idle
        mem := endedMem s k.toNat }) ∧
    (∀ i, (s.copyTag k.toNat).use = .read i → ∃ t, exec (.completion k 0#4 reason data) s = .next t ∧
      (∀ x, t.copyTag x = if x = k.toNat then ⟨.write i, data⟩ else s.copyTag x) ∧
      (∀ x, t.tag x = if x = k.toNat then
        ⟨.queued, .write, addrAt j.dest (i * 256), 4, List.replicate 4 (BitVec.allOnes 64), data, 0,
          some (s.now + orMax s.mem.responseTimeout)⟩ else s.tag x) ∧
      t = { s with
        copyTags := t.copyTags, tags := t.tags
        mem := { s.mem with
          takeList := s.mem.takeList.filter (· != k.toNat) ++ [k.toNat]
          sendQueue := s.mem.sendQueue.filter (· != k.toNat) ++ [k.toNat] } }) ∧
    (∀ i, (s.copyTag k.toNat).use = .write i → (s.chan c).nextChunk < 16 →
      ∃ t, exec (.completion k 0#4 reason data) s = .next t ∧
      (∀ x, t.copyTag x = if x = k.toNat then
        { s.copyTag x with use := .read (s.chan c).nextChunk } else s.copyTag x) ∧
      (∀ x, t.chan x = if x = c then
        { s.chan c with done := (s.chan c).done + 1, nextChunk := (s.chan c).nextChunk + 1 } else s.chan x) ∧
      (∀ x, t.tag x = if x = k.toNat then
        ⟨.queued, .read, addrAt j.source ((s.chan c).nextChunk * 256), 4, [], [], 0,
          some (s.now + orMax s.mem.responseTimeout)⟩ else s.tag x) ∧
      t = { s with
        copyTags := t.copyTags, tags := t.tags, channels := t.channels
        mem := { s.mem with
          takeList := s.mem.takeList.filter (· != k.toNat) ++ [k.toNat]
          sendQueue := s.mem.sendQueue.filter (· != k.toNat) ++ [k.toNat] } }) ∧
    (∀ i p, (s.copyTag k.toNat).use = .write i → (s.chan c).nextChunk = 16 → (s.chan c).done = 15 →
      (∀ x, x ∈ chanTags c → x ≠ k.toNat → (s.copyTag x).use = .free) → j.kind = .preservation → j.orphaned = false →
      (s.record j.record).parityOk = true → (s.record j.record).state ≠ .free →
      (s.record j.record).pageIndex = some p → (s.page p).parityOk = true →
      s.wp.queue = [] → s.sweep.demand = [] → s.sweep.offer = none →
      (s.heldBehind p j.record = none → ∃ t, exec (.completion k 0#4 reason data) s = .next t ∧
        jobDone s t c k.toNat j.record ∧
        t = { s with
          records := t.records, channels := t.channels, copyTags := t.copyTags, tags := s.tags.set .idle k.toNat .idle
          mem := endedMem s k.toNat, port := { s.port with intake := intakeAfter s t }
          sweep := { s.sweep with
            waitingOn := if s.sweep.waitingOn = some j.record then none else s.sweep.waitingOn }
          mgmt := quiesced s t s.mgmt }) ∧
      (∀ n, s.heldBehind p j.record = some n → n < 128 → (s.entry n).next = none → (s.page p).waitTail = some n →
        (s.entry n).kind = .write → s.restoring = false → s.chainTop p = some j.record →
        s.ctl.state = .degraded ∨ s.effective (s.entry n).stamp = none ∨
          s.effective (s.entry n).stamp = s.resolved (s.record j.record) →
        ∃ t, exec (.completion k 0#4 reason data) s = .next t ∧ jobDone s t c k.toNat j.record ∧
        entriesAre s t n (issuedAgain (s.entry n)) ∧
        (∀ x, t.page x = if x = p then { s.page p with waitHead := none, waitTail := none } else s.page x) ∧
        t = { s with
          records := t.records, channels := t.channels, copyTags := t.copyTags, entries := t.entries, pst := t.pst
          tags := (s.tags.set .idle k.toNat .idle).set .idle n (queuedAgain s n)
          mem := { s.mem with
            takeList := s.mem.takeList.filter (· != k.toNat) ++ [n]
            sendQueue := s.mem.sendQueue.filter (· != k.toNat) ++ [n] }
          sweep := { s.sweep with
            waitingOn := if s.sweep.waitingOn = some j.record then none else s.sweep.waitingOn } })) ∧
    (∀ i, (s.copyTag k.toNat).use = .write i → (s.chan c).nextChunk = 16 → (s.chan c).done = 15 →
      (∀ x, x ∈ chanTags c → x ≠ k.toNat → (s.copyTag x).use = .free) → j.orphaned = true →
      (∀ p, s.guardIndex (pageOfJob j) = some p →
        (s.page p).parityOk = true ∧ s.heldBehind p j.record = none ∧ s.heldForDemand p = false) →
      s.wp.queue = [] → s.sweep.demand = [] → s.sweep.offer = none →
      ∃ t, exec (.completion k 0#4 reason data) s = .next t ∧
      (∀ x, t.chan x = if x = c then { s.chan c with state := .idle, job := none, done := 16 } else s.chan x) ∧
      (∀ x, t.copyTag x = if x = k.toNat then { s.copyTag x with use := .free } else s.copyTag x) ∧
      t = { s with
        channels := t.channels, copyTags := t.copyTags, tags := s.tags.set .idle k.toNat .idle
        mem := endedMem s k.toNat, port := { s.port with intake := intakeAfter s t }
        sweep := match j.kind with
          | .preservation => s.sweep
          | .restore => { s.sweep with
              report := { s.sweep.report with restored := s.sweep.report.restored + 1#16 } }
        mgmt := quiesced s t s.mgmt }))

/-- A preservation ends by failure when its last chunk's request ends with an error: PRESERVE_FAIL with a copy capture of the
record's page, the damage of its slot under BREAK and WAIT, and the record freed, its frame returned. A write HELD behind it,
alone in its list, with the record's LIVE slot its effective mark and the part not DEGRADED, is completed
REFUSED/PRESERVE_FAILED under REFUSE and issued under BREAK and WAIT; in DEGRADED it is issued. A cursor on the record goes
on from it as R82 gives. That the IDLE channel keeps its next chunk and chunks done is the model's choice (log 22). A CLOSING
intake that the step leaves with the empty condition is CLOSED, with QUIESCED. A job that has lost its record is log 26's. -/
def Obligations.PreservationFailureFreesTheRecord : Prop :=
  ∀ (s : State) (k : Byte) (status reason : BitVec 4) (data : List Byte) (c : Nat) (j : Job) (x q g : Nat),
    s.Settled → s.mem.up = true → s.port.up = true → 128 ≤ k.toNat → k.toNat < 144 →
    c = (k.toNat - 128) / 4 → (s.tag k.toNat).state = .outstanding → (s.copyTag k.toNat).use.busy = true →
    (∀ y, y ∈ chanTags c → y ≠ k.toNat → (s.copyTag y).use.busy = false) →
    (s.chan c).state = .running ∨ (s.chan c).state = .stopping → (s.chan c).job = some j → status ≠ 0#4 →
    status ≠ 3#4 → j.kind = .preservation → j.orphaned = false → (s.record j.record).state = .copying →
    (s.record j.record).pageNumber = some g → Threaded s j.record x q →
    (∀ d y, d < 4 → d ≠ c → (s.chan d).job = some y → y.record ≠ j.record) → s.wp.queue = [] → s.wp.backlog = [] →
    s.sweep.demand = [] → s.sweep.offer = none → s.pool.wait = [] →
    (s.heldBehind x j.record = none → ∃ t, exec (.completion k status reason data) s = .next t ∧
      freedRecords s t j.record x ∧ sweepFollows s t j.record ∧ channelIdle s t c k.toNat ∧
      (∀ y, t.page y = if y = x then { s.page x with chainHead := headAfter s j.record x } else s.page y) ∧
      (∀ y, t.slot y = if y = q then
        { slotAfter s j.record q with damaged := (s.slot q).damaged || s.wp.policy != .refuse } else s.slot y) ∧
      t = { s with
        records := t.records, pst := t.pst, slots := t.slots, channels := t.channels, copyTags := t.copyTags
        tags := s.tags.set .idle k.toNat .idle
        mem := { endedMem s k.toNat with errorCount := satInc s.mem.errorCount }
        pool := { s.pool with free := s.pool.free ++ [j.record] }
        port := { s.port with intake := intakeAfter s t }, sweep := sweepFreed s j.record
        mgmt := quiesced s t (reported s.mgmt 9 .copy none (some (addrAt g 0)) (s.windowOf g)) }) ∧
    (∀ n, s.heldBehind x j.record = some n → n < 128 → (s.entry n).next = none → (s.page x).waitTail = some n →
      (s.entry n).kind = .write → s.restoring = false →
      (s.ctl.state ≠ .degraded → s.effective (s.entry n).stamp = some q → s.wp.policy = .refuse →
        ∃ t, exec (.completion k status reason data) s = .next t ∧
        freedRecords s t j.record x ∧ sweepFollows s t j.record ∧ channelIdle s t c k.toNat ∧
        entriesAre s t n .freed ∧
        (∀ y, t.page y = if y = x then
          { s.page x with chainHead := headAfter s j.record x, waitHead := none, waitTail := none } else s.page y) ∧
        (∀ y, t.slot y = if y = q then slotAfter s j.record q else s.slot y) ∧
        t = { s with
          records := t.records, pst := t.pst, slots := t.slots, channels := t.channels, copyTags := t.copyTags
          entries := t.entries, tags := s.tags.set .idle k.toNat .idle
          mem := { endedMem s k.toNat with errorCount := satInc s.mem.errorCount }
          pool := { s.pool with free := s.pool.free ++ [j.record] }
          port := credited s t [.completion n .refused .preserveFailed []]
          activity := counted s (s.entry n).window fun a => { a with refusals := satInc a.refusals }
          sweep := { sweepFreed s j.record with drainSet := s.sweep.drainSet.filter (· != n) }
          mgmt := quiesced s t { reported s.mgmt 9 .copy (some n) (some (addrAt g 0)) (s.windowOf g) with
            firstError := { (reported s.mgmt 9 .copy (some n) (some (addrAt g 0)) (s.windowOf g)).firstError with
              more := true } } }) ∧
      ((s.ctl.state ≠ .degraded ∧ s.effective (s.entry n).stamp = some q ∧ s.wp.policy ≠ .refuse) ∨
          s.ctl.state = .degraded →
        ∃ t, exec (.completion k status reason data) s = .next t ∧
        freedRecords s t j.record x ∧ sweepFollows s t j.record ∧ channelIdle s t c k.toNat ∧
        entriesAre s t n (issuedAgain (s.entry n)) ∧
        (∀ y, t.page y = if y = x then
          { s.page x with chainHead := headAfter s j.record x, waitHead := none, waitTail := none } else s.page y) ∧
        (∀ y, t.slot y = if y = q then
          { slotAfter s j.record q with damaged := (s.slot q).damaged || s.wp.policy != .refuse } else s.slot y) ∧
        t = { s with
          records := t.records, pst := t.pst, slots := t.slots, channels := t.channels, copyTags := t.copyTags
          entries := t.entries, tags := (s.tags.set .idle k.toNat .idle).set .idle n (queuedAgain s n)
          mem := { s.mem with
            errorCount := satInc s.mem.errorCount
            takeList := s.mem.takeList.filter (· != k.toNat) ++ [n]
            sendQueue := s.mem.sendQueue.filter (· != k.toNat) ++ [n] }
          pool := { s.pool with free := s.pool.free ++ [j.record] }
          sweep := sweepFreed s j.record
          mgmt := reported s.mgmt 9 .copy (some n) (some (addrAt g 0)) (s.windowOf g) }))

/-- A restore job's end frees its target and returns the frame. Success, the sixteenth chunk written, counts the page
restored in the report; an error on its last chunk's request appends the page to the fault list, or sets the overflow flag at
16, sets RESTORE_FAULT, raises the fault count and the report's count of restore faults, and captures a copy error with the
page's address and window and no tag. A write HELD for a demand restore, alone in its list, is then decided again: in
DEGRADED it is issued, and otherwise, on a page that is left without a record, it is HELD behind a preservation at its
effective mark. A cursor on the record goes on from it, and the source boundary and a start record that name it move to its
journal older link. That the IDLE channel keeps its next chunk and chunks done, 16 after a success, is the model's choice
(log 22). A CLOSING intake that the step leaves with the empty condition is CLOSED, with QUIESCED. A job that has lost its
record is log 26's. -/
def Obligations.RestoreJobsEnd : Prop :=
  ∀ (s : State) (k : Byte) (status reason : BitVec 4) (data : List Byte) (c : Nat) (j : Job) (x q g : Nat)
    (report : Report) (faults : List Nat) (overflow : Bool) (count : Word) (m : Mgmt) (errors : Word),
    s.Settled → s.mem.up = true → 128 ≤ k.toNat → k.toNat < 144 →
    c = (k.toNat - 128) / 4 → (s.tag k.toNat).state = .outstanding → (s.copyTag k.toNat).use.busy = true →
    (∀ y, y ∈ chanTags c → y ≠ k.toNat → (s.copyTag y).use.busy = false) → (s.chan c).job = some j →
    j.kind = .restore → j.orphaned = false → (s.record j.record).state = .restoring →
    (s.record j.record).pageNumber = some g → Threaded s j.record x q →
    (∀ d y, d < 4 → d ≠ c → (s.chan d).job = some y → y.record ≠ j.record) → s.wp.queue = [] → s.wp.backlog = [] →
    s.sweep.demand = [] → s.sweep.offer = none → s.pool.wait = [] →
    (status = 0#4 ∧ (s.chan c).state = .running ∧ (s.chan c).done = 15 ∧ (s.chan c).nextChunk = 16 ∧
        (∃ i, (s.copyTag k.toNat).use = .write i) ∧ (s.tag k.toNat).dataGood data = true ∧ m = s.mgmt ∧
        report = { s.sweep.report with restored := s.sweep.report.restored + 1#16 } ∧ faults = s.sweep.faultList ∧
        overflow = s.sweep.faultOverflow ∧ count = s.sweep.faultCount ∧ errors = s.mem.errorCount) ∨
      (status ≠ 0#4 ∧ status ≠ 3#4 ∧ ((s.chan c).state = .running ∨ (s.chan c).state = .stopping) ∧
        m = reported s.mgmt 10 .copy none (some (addrAt g 0)) (s.windowOf g) ∧
        report = { s.sweep.report with faults := s.sweep.report.faults + 1#16 } ∧
        (faults = if s.sweep.faultList.length < 16 then s.sweep.faultList ++ [g] else s.sweep.faultList) ∧
        overflow = (s.sweep.faultOverflow || decide (16 ≤ s.sweep.faultList.length)) ∧
        count = satInc s.sweep.faultCount ∧ errors = satInc s.mem.errorCount) →
    (s.heldForDemand x = false → ∃ t, exec (.completion k status reason data) s = .next t ∧
      freedRecords s t j.record x ∧ sweepFollows s t j.record ∧
      (∀ y, t.chan y = if y = c then { s.chan c with
        state := .idle, job := none, done := if status = 0#4 then 16 else (s.chan c).done } else s.chan y) ∧
      (∀ y, t.copyTag y = if y = k.toNat then { s.copyTag y with use := .free } else s.copyTag y) ∧
      (∀ y, t.page y = if y = x then { s.page x with chainHead := headAfter s j.record x } else s.page y) ∧
      (∀ y, t.slot y = if y = q then slotAfter s j.record q else s.slot y) ∧
      t = { s with
        records := t.records, pst := t.pst, slots := t.slots, channels := t.channels, copyTags := t.copyTags
        tags := s.tags.set .idle k.toNat .idle, mem := { endedMem s k.toNat with errorCount := errors }
        pool := { s.pool with free := s.pool.free ++ [j.record] }
        port := { s.port with intake := intakeAfter s t }
        sweep := { sweepFreed s j.record with
          report := report, faultList := faults, faultOverflow := overflow, faultCount := count }
        mgmt := quiesced s t m }) ∧
    (∀ n, s.heldForDemand x = true → (s.page x).waitHead = some n → n < 128 → (s.entry n).next = none →
      (s.page x).waitTail = some n → (s.entry n).kind = .write → s.chain x = [j.record] →
      (s.ctl.state = .degraded → ∃ t, exec (.completion k status reason data) s = .next t ∧
        freedRecords s t j.record x ∧ sweepFollows s t j.record ∧ entriesAre s t n (issuedAgain (s.entry n)) ∧
        (∀ y, t.chan y = if y = c then { s.chan c with
          state := .idle, job := none, done := if status = 0#4 then 16 else (s.chan c).done } else s.chan y) ∧
        (∀ y, t.copyTag y = if y = k.toNat then { s.copyTag y with use := .free } else s.copyTag y) ∧
        (∀ y, t.page y = if y = x then
          { s.page x with chainHead := headAfter s j.record x, waitHead := none, waitTail := none } else s.page y) ∧
        (∀ y, t.slot y = if y = q then slotAfter s j.record q else s.slot y) ∧
        t = { s with
          records := t.records, pst := t.pst, slots := t.slots, channels := t.channels, copyTags := t.copyTags
          entries := t.entries, tags := (s.tags.set .idle k.toNat .idle).set .idle n (queuedAgain s n)
          mem := { s.mem with
            errorCount := errors
            takeList := s.mem.takeList.filter (· != k.toNat) ++ [n]
            sendQueue := s.mem.sendQueue.filter (· != k.toNat) ++ [n] }
          pool := { s.pool with free := s.pool.free ++ [j.record] }
          sweep := { sweepFreed s j.record with
            report := report, faultList := faults, faultOverflow := overflow, faultCount := count }
          mgmt := m }) ∧
      (∀ e, s.ctl.state ≠ .degraded → s.effective (s.entry n).stamp = some e →
        ∃ t, exec (.completion k status reason data) s = .next t ∧
          (∃ r, (s.pool.free ++ [j.record]).head? = some r ∧ t.pool = { s.pool with free := t.pool.free } ∧
            t.pool.free = (s.pool.free ++ [j.record]).tail ∧
            entriesAre s t n { s.entry n with state := .held, heldOn := some (.record r) } ∧
            (t.record r).state = .copying ∧ (t.record r).pageIndex = some x ∧ (t.record r).slot = some e ∧
            (∀ y, t.page y = if y = x then { s.page x with chainHead := some r } else s.page y)) ∧
          sweepFollows s t j.record ∧
          t.sweep.report = report ∧ t.sweep.faultList = faults ∧ t.sweep.faultOverflow = overflow ∧
          t.sweep.faultCount = count ∧
          t = { s with
            records := t.records, pst := t.pst, slots := t.slots, entries := t.entries, pool := t.pool
            channels := t.channels, copyTags := t.copyTags, tags := t.tags, mem := t.mem, sweep := t.sweep
            port := { s.port with intake := if s.port.intake = .closed then .closing else s.port.intake }
            wp := t.wp, activity := t.activity, mgmt := t.mgmt }))

/-! ## Sweeps (05) -/

/-- The walk stands on record `r`, met for the first time, every record having sound parity; `walked` is the model's own
(log 28). -/
structure OnWalk (s : State) (r : Nat) : Prop where
  waits : s.sweep.waitingOn = none
  cursor : s.sweep.cursor = some r
  walked : r ∉ s.sweep.walked
  records : ∀ y, (s.record y).parityOk = true

/-- A discard's walk, a MERGE's walk and a commit's walk: a COPYING record makes the walk wait, and while it waits the
command has no effect; a RESTORING record is passed over, the cursor going on along the journal; a record under the cursor
that reads FREE ends the walk of its journal (R43), and the cursor goes to the next journal in the walk order, or is none
where there is none to come. With the cursor none a discard or a MERGE completes: the slot becomes FREE, its damage passes
to the predecessor, SWEEP_DONE or ROLLBACK_DONE is set and the engine is idle, its fields as log 11 has them, which is
itself a pressure check, stated by PressureCheckRetiresTheOldest; a commit's completion is stated by
CommitCompletionRestartsTheSequence. That the command has no effect while the walk waits is the model's choice (log 3),
and so is that these walks pass over a RESTORING record, for which no rule of theirs gives a treatment (log 30). -/
def Obligations.DiscardMergeAndCommitWalks : Prop :=
  ∀ (s : State) (c : Instr), s.Settled →
    ((c = .discardWalkStep ∧ s.sweep.kind = .discard) ∨
        (c = .mergeWalkStep ∧ s.sweep.kind = .rollback ∧ s.sweep.phase = .merge) ∨
        (c = .commitWalkStep ∧ s.sweep.kind = .commit) →
      (∀ r, s.sweep.waitingOn = some r → exec c s = .next s) ∧
      (∀ r, OnWalk s r →
        ((s.record r).state = .copying → exec c s = .next { s with sweep := { s.sweep with waitingOn := some r } }) ∧
        ((s.record r).state = .restoring → exec c s = .next (s.walkPast r) ∧
          (s.walkPast r).sweep.cursor = cursorAfter s r) ∧
        ((s.record r).state = .free → exec c s = .next s.nextJournal ∧
          s.nextJournal.sweep.cursor = nextStart s))) ∧
    (∀ (flag q : Nat) (p : Option Nat),
      (c = .discardWalkStep ∧ s.sweep.kind = .discard ∧ flag = 1) ∨
        (c = .mergeWalkStep ∧ s.sweep.kind = .rollback ∧ s.sweep.phase = .merge ∧ flag = 2) →
      s.sweep.retiring = some q → s.sweep.predecessor = p → p ≠ some q →
      s.sweep.waitingOn = none → s.sweep.cursor = none → ∃ u : State, exec c s = .next u.pressureCheck ∧
        (∀ j, u.slot j =
          if j = q then .freed
          else if p = some j ∧ (s.slot q).damaged = true then { s.slot j with damaged := true } else s.slot j) ∧
        u = { s with
          slots := u.slots, sweep := idleSweep s.sweep
          mgmt := { s.mgmt with flags := s.mgmt.flags ||| BitVec.twoPow 21 flag } })

/-- Record `r` of page `x` and slot `q` freed by a walk, with no write in FRAME_WAIT: out of its chain and its journal, its
frame at the tail of the free-frame queue, the sweep engine as given, its cursor, walk order and source boundary as the
removal leaves them. -/
def freedByWalk (s t : State) (r x q : Nat) (sweep : Sweep) : Prop :=
  freedRecords s t r x ∧ sweepFollows s t r ∧
  (∀ j, t.page j = if j = x then { s.page x with chainHead := headAfter s r x } else s.page j) ∧
  (∀ j, t.slot j = if j = q then slotAfter s r q else s.slot j) ∧
  t = { s with
    records := t.records, pst := t.pst, slots := t.slots
    pool := { s.pool with free := s.pool.free ++ [r] }, sweep := sweep }

/-- The walk command that frees every VALID record it meets: a commit's, and a discard's or a MERGE's without a
predecessor. -/
def freeingWalk (s : State) (c : Instr) : Prop :=
  (c = .commitWalkStep ∧ s.sweep.kind = .commit ∧ s.sweep.phase = .walk) ∨
    (c = .discardWalkStep ∧ s.sweep.kind = .discard ∧ s.sweep.phase = .walk ∧ s.sweep.predecessor = none) ∨
    (c = .mergeWalkStep ∧ s.sweep.kind = .rollback ∧ s.sweep.phase = .merge ∧ s.sweep.predecessor = none)

/-- The write `n` in FRAME_WAIT, the only one, is alone in page `z`'s list, whose entry has sound parity. -/
structure WaitsForFrame (s : State) (n z : Nat) : Prop where
  queue : s.pool.wait = [n]
  number : n < 128
  state : (s.entry n).state = .frameWait
  kind : (s.entry n).kind = .write
  next : (s.entry n).next = none
  pst : (s.entry n).pst = some z
  head : (s.page z).waitHead = some n
  tail : (s.page z).waitTail = some n
  parity : (s.page z).parityOk = true

/-- A VALID record is freed by a commit's walk, by a discard's or a MERGE's that has no predecessor, and by a discard's or a
MERGE's walk into a predecessor `p` whose slot holds a record of the page already; where it holds none the record is
relabelled to `p`'s slot, at the tail of its journal, and keeps its state, page, frame and place in the chain. The cursor
moves to the record's journal newer link, and where that is none to the head of the next slot in the walk order that has a
record, or to none. The frame of a freed record first serves the write in FRAME_WAIT, where there is one: the part being
DEGRADED, or the write without an effective mark, it is issued and the frame passes on to the free-frame queue; a write that
still needs a preservation, its page having no record, takes the frame and is HELD behind the record, which is COPYING for
its page and mark. What a link or a tail that is not borne out leaves of a journal is the model's choice (log 10). -/
def Obligations.WalksFreeOrRelabel : Prop :=
  ∀ (s : State) (c : Instr) (r x q : Nat), s.Settled → OnWalk s r → (s.record r).state = .valid → Threaded s r x q →
    s.namesJob r = false →
    (freeingWalk s c → s.pool.wait = [] → ∃ t, exec c s = .next t ∧ freedByWalk s t r x q (s.walkPast r).sweep) ∧
    (∀ n z, freeingWalk s c → WaitsForFrame s n z → s.mem.up = true →
      s.ctl.state = .degraded ∨ s.effective (s.entry n).stamp = none →
      ∃ t, exec c s = .next t ∧ freedRecords s t r x ∧ sweepFollows s t r ∧
      entriesAre s t n (issuedAgain (s.entry n)) ∧
      (∀ j, t.page j = { s.page j with
        chainHead := if j = x then headAfter s r x else (s.page j).chainHead
        waitHead := if j = z then none else (s.page j).waitHead
        waitTail := if j = z then none else (s.page j).waitTail }) ∧
      (∀ j, t.slot j = if j = q then slotAfter s r q else s.slot j) ∧
      t = { s with
        records := t.records, pst := t.pst, slots := t.slots, entries := t.entries
        tags := s.tags.set .idle n (queuedAgain s n)
        mem := { s.mem with takeList := s.mem.takeList ++ [n], sendQueue := s.mem.sendQueue ++ [n] }
        pool := { s.pool with free := s.pool.free ++ [r], wait := [] }, sweep := (s.walkPast r).sweep }) ∧
    (∀ n z e tail, freeingWalk s c → WaitsForFrame s n z → s.ctl.state ≠ .degraded →
      s.effective (s.entry n).stamp = some e → e ≠ q → (s.page z).chainHead = none →
      tail = s.journalLink (s.slot e).tail → tail ≠ some r → s.idleChannel = none → s.wp.queue.length < 128 →
      ∃ t, exec c s = .next t ∧ sweepFollows s t r ∧
      entriesAre s t n { s.entry n with state := .held, heldOn := some (.record r) } ∧
      t.record r = ⟨.copying, some z, some (pageOf (s.entry n).address), some e, none, tail, none, false, true⟩ ∧
      (∀ y, y ≠ r → t.record y = { s.record y with
        older := if ((s.chain x).takeWhile (· != r)).getLast? = some y then olderBorneOut s r x else (s.record y).older
        jNewer := if tail = some y then some r
          else if olderLink s r = some y then newerLink s r
          else (s.record y).jNewer
        jOlder := if newerLink s r = some y then olderLink s r
          else (s.record y).jOlder }) ∧
      (∀ j, t.page j = if j = z then { s.page z with chainHead := some r }
        else if j = x then { s.page x with chainHead := headAfter s r x } else s.page j) ∧
      (∀ j, t.slot j = if j = q then slotAfter s r q
        else if j = e then { s.slot e with
          head := if tail = none then some r else (s.slot e).head, tail := some r, count := (s.slot e).count + 1 }
        else s.slot j) ∧
      t = { s with
        records := t.records, pst := t.pst, slots := t.slots, entries := t.entries
        activity := counted s (s.entry n).window fun a => { a with preserves := satInc a.preserves }
        wp := { s.wp with queue := s.wp.queue ++
          [⟨.preservation, r, pageOf (s.entry n).address, s.pool.base.toNat + r, false⟩] }
        port := { s.port with intake := if s.port.intake = .closed then .closing else s.port.intake }
        pool := { s.pool with wait := [] }, sweep := (s.walkPast r).sweep
        mgmt := if s.pool.free.length < s.pool.lowWater.toNat then
            { s.mgmt with flags := s.mgmt.flags ||| BitVec.twoPow 21 7 } else s.mgmt }) ∧
    (∀ p tail, (c = .discardWalkStep ∧ s.sweep.kind = .discard ∧ s.sweep.phase = .walk) ∨
        (c = .mergeWalkStep ∧ s.sweep.kind = .rollback ∧ s.sweep.phase = .merge) →
      s.sweep.predecessor = some p → p ≠ q → tail = s.journalLink (s.slot p).tail → tail ≠ some r →
      ((∃ y, y ∈ s.chain x ∧ (s.record y).slot = some p) → s.pool.wait = [] →
        ∃ t, exec c s = .next t ∧ freedByWalk s t r x q (s.walkPast r).sweep) ∧
      ((∀ y, y ∈ s.chain x → (s.record y).slot ≠ some p) → ∃ t, exec c s = .next t ∧ sweepFollows s t r ∧
        (∀ y, t.record y = if y = r then { s.record r with slot := some p, jOlder := tail, jNewer := none }
          else { s.record y with
            jNewer := if tail = some y then some r
              else if olderLink s r = some y then newerLink s r
              else (s.record y).jNewer
            jOlder := if newerLink s r = some y then olderLink s r
              else (s.record y).jOlder }) ∧
        (∀ j, t.slot j = if j = q then slotAfter s r q
          else if j = p then { s.slot p with
            head := if tail = none then some r else (s.slot p).head, tail := some r, count := (s.slot p).count + 1 }
          else s.slot j) ∧
        t = { s with records := t.records, slots := t.slots, sweep := (s.walkPast r).sweep }))

/-- The commit's completion step, with no record left over: every RETIRING slot FREE, next sequence 1, every stamp and
touch stamp 0, every chain head none, SWEEP_DONE, engine idle, its fields as log 11 has them; and for a RECOVER state
control goes on to GUARDING with no cause and no table fault, or, if the recovery was spoiled, to DEGRADED with the causes
its latches name, where R153 finds no write in FRAME_WAIT. The engine's return to idle is itself a pressure check, stated
by PressureCheckRetiresTheOldest. -/
def Obligations.CommitCompletionRestartsTheSequence : Prop :=
  ∀ s : State, s.Settled → s.tablesCanonical = true → s.sweep.kind = .commit → s.sweep.waitingOn = none →
    s.sweep.cursor = none → s.leftRecords = [] → (∀ p, (s.page p).parityOk = true) →
    (s.sweep.cause = some .recover → s.ctl.spoiled = true → s.pool.wait = []) →
    ∃ u : State, exec .commitWalkStep s = .next u.pressureCheck ∧
      (∀ q, u.slot q = if q < 5 ∧ (s.slot q).state = .retiring then .freed
        else if s.sweep.cause = some .recover ∧ s.ctl.spoiled = true ∧ q < 5 ∧ (s.slot q).state = .live then
          { s.slot q with damaged := true } else s.slot q) ∧
      (∀ n, u.entry n = { s.entry n with stamp := 0#32 }) ∧
      (∀ p, u.page p = { s.page p with touch := 0#32, chainHead := none }) ∧
      u = { s with
        slots := u.slots, entries := u.entries, pst := u.pst, nextSeq := 1#32, sweep := idleSweep s.sweep, ctl := u.ctl
        mgmt := { s.mgmt with
          flags := s.mgmt.flags ||| BitVec.twoPow 21 1 |||
            if s.sweep.cause = some .recover ∧ s.ctl.spoiled = true then BitVec.twoPow 21 17 else 0#21 } } ∧
      (s.sweep.cause ≠ some .recover → u.ctl = s.ctl) ∧
      (s.sweep.cause = some .recover → s.ctl.spoiled = false → u.ctl = { s.ctl with
        state := .guarding, causeLink := false, causeTable := false, causeCommand := false, tableFault := false
        faultDuring := false, linkLost := false }) ∧
      (s.sweep.cause = some .recover → s.ctl.spoiled = true → u.ctl = { s.ctl with
        state := .degraded, causeLink := s.ctl.linkLost, causeTable := s.ctl.faultDuring, causeCommand := false
        tableFault := s.ctl.faultDuring && s.ctl.tableFault, spoiled := false, faultDuring := false
        linkLost := false })

/-- The drain has ended: the drain set is empty, and no preservation job is in the preservation queue, in the backlog or in a
channel (R89). -/
def drainEnded (s : State) : Prop :=
  s.sweep.drainSet = [] ∧ s.wp.queue = [] ∧ s.wp.backlog = [] ∧
    ∀ c j, c < 4 → (s.chan c).job = some j → j.kind ≠ .preservation

/-- The restore phase starts when the drain has ended, its drain set empty and no preservation job anywhere: the target
inherits the damage of any LIVE mark at or above it, every newer LIVE mark is UNWINDING, the walk order holds them newest
first and the target last, each from its journal's newest record; the source boundary is the target's, the cursor stands on
the first of these records, and then the parked requests are unparked, the oldest first. A request that is unparked is
stamped, counted and given a hold deadline; it joins the tail of its page's list and waits, or is decided at once where the
list is empty. Before the drain has ended the command has no effect, the model's choice (log 3). The fields `walkSlot` and
`walked` are the model's own (log 28). -/
def Obligations.RestorePhaseUnwindsTheNewerMarks : Prop :=
  ∀ (s : State) (q : Nat), s.Settled → s.sweep.kind = .rollback → s.sweep.phase = .drain → s.sweep.target = some q →
    q < 5 → (s.slot q).state = .live → (∀ j, j < 5 → (s.slot j).state ≠ .unwinding) →
    (∀ j, j < 5 → j ≠ q → (s.slot j).state = .live → (s.slot j).seq ≠ (s.slot q).seq) →
    (∀ y, (s.record y).parityOk = true) →
    (¬drainEnded s → exec .restorePhaseStart s = .next s) ∧
    (drainEnded s → ∃ t : State,
      exec .restorePhaseStart s = .next ((s.sweep.park.foldl (fun u n => u.unpark n) t).finish) ∧
      (s.sweep.park = [] → exec .restorePhaseStart s = .next t) ∧
      (∀ j, t.slot j =
        if j = q then { s.slot q with
          damaged := (s.slot q).damaged || (List.range 5).any fun i => (s.slot i).state == .live &&
            decide ((s.slot q).seq ≤ (s.slot i).seq) && (s.slot i).damaged }
        else if j < 5 ∧ (s.slot j).state = .live ∧ (s.slot q).seq < (s.slot j).seq then
          { s.slot j with state := .unwinding } else s.slot j) ∧
      t.sweep.order.map (·.1) = (t.sweep.order.dropLast.map (·.1)) ++ [q] ∧
      (∀ j, j ∈ t.sweep.order.dropLast.map (·.1) ↔
        j < 5 ∧ (s.slot j).state = .live ∧ (s.slot q).seq < (s.slot j).seq) ∧
      (t.sweep.order.map fun e => (s.slot e.1).seq).Pairwise (· ≥ ·) ∧
      (∀ j o, (j, o) ∈ t.sweep.order → o = s.journalLink (s.slot j).tail) ∧
      t.sweep.cursor = t.sweep.order.findSome? (·.2) ∧
      t = { s with
        slots := t.slots
        sweep := { s.sweep with
          phase := .restore, order := t.sweep.order, cursor := (firstPlace t.sweep.order).map (·.2)
          walkSlot := (firstPlace t.sweep.order).map (·.1), walked := []
          boundary := s.journalLink (s.slot q).tail, park := [] } }) ∧
    (∀ (u : State) (n p : Nat) (e : Entry), (u.entry n).pst = some p → (u.page p).parityOk = true →
      e = { u.entry n with
        state := .waiting, stamp := u.stampNow, next := none, deadline := some (u.now + orMax u.port.holdTimeout) } →
      (∀ h z, (u.page p).waitHead = some h → (u.page p).waitTail = some z → z ≠ n →
        (∀ m, (u.unpark n).entry m =
          if m = n then e else if m = z then { u.entry z with next := some n } else u.entry m) ∧
        (∀ j, (u.unpark n).page j = if j = p then { u.page p with waitTail := some n } else u.page j) ∧
        u.unpark n = { u with
          entries := (u.unpark n).entries, pst := (u.unpark n).pst
          activity := counted u (u.entry n).window (oneMore (u.entry n).kind) }) ∧
      ((u.page p).waitHead = none → (u.page p).waitTail = none → ∃ v : State, u.unpark n = v.decidePage p ∧
        entriesAre u v n e ∧
        (∀ j, v.page j = if j = p then { u.page p with waitHead := some n, waitTail := some n } else u.page j) ∧
        v = { u with
          entries := v.entries, pst := v.pst, activity := counted u (u.entry n).window (oneMore (u.entry n).kind) }))

/-- The restore walk frees a VALID record whose page holds an older rollback source, without a copy, and counts it released;
it offers a VALID record that is its page's oldest source to the channels, or, if the record is suspect, frees it with the
steps of a failed restore; it passes over a RESTORING one, and waits for a COPYING one, which it does not free; one that reads
FREE ends the walk of its journal. The cursor goes
on to the record's journal older link, or, where that is none, to the start record of the next slot in the walk order that
has one, or to none; and where a freed record is the source boundary or a start record, its journal older link takes its
place. The offer waits while no channel is IDLE, with the cursor on its record; an IDLE channel with no other job to take
takes it in the same step: the record is RESTORING, the channel reads a chunk of its frame on each FREE tag, and the walk
goes on past the record. An offer takes a CLOSED intake to CLOSING. That the command has no effect while an offer stands or
the walk waits is the model's choice (log 3). -/
def Obligations.RestoreWalkOffersTheSource : Prop :=
  ∀ (s : State) (r x q : Nat), s.Settled → s.sweep.kind = .rollback → s.sweep.phase = .restore →
    (s.sweep.offer ≠ none ∨ s.sweep.waitingOn ≠ none → exec .restoreWalkStep s = .next s) ∧
    (s.sweep.offer = none → OnWalk s r →
      ((s.record r).state = .restoring →
        exec .restoreWalkStep s = .next (s.walkPast r) ∧ (s.walkPast r).sweep.cursor = cursorAfter s r) ∧
      ((s.record r).state = .copying →
        exec .restoreWalkStep s = .next { s with sweep := { s.sweep with waitingOn := some r } }) ∧
      ((s.record r).state = .free →
        exec .restoreWalkStep s = .next s.nextJournal ∧ s.nextJournal.sweep.cursor = nextStart s)) ∧
    (∀ g, s.sweep.offer = none → OnWalk s r → (s.record r).state = .valid → (s.record r).suspect = true →
      (s.record r).pageNumber = some g → Threaded s r x q → s.oldestSource x = some r → s.namesJob r = false →
      s.pool.wait = [] → s.heldForDemand x = false → ∃ t, exec .restoreWalkStep s = .next t ∧
        freedRecords s t r x ∧ sweepFollows s t r ∧
        (∀ j, t.page j = if j = x then { s.page x with chainHead := headAfter s r x } else s.page j) ∧
        (∀ j, t.slot j = if j = q then slotAfter s r q else s.slot j) ∧
        t = { s with
          records := t.records, pst := t.pst, slots := t.slots, pool := { s.pool with free := s.pool.free ++ [r] }
          sweep := pageFaulted (s.sweepPast r).sweep g
          mgmt := reported s.mgmt 10 .copy none (some (addrAt g 0)) (s.windowOf g) }) ∧
    (∀ o, s.sweep.offer = none → OnWalk s r → (s.record r).state = .valid → Threaded s r x q →
      r ∈ s.sources x → s.oldestSource x = some o → o ≠ r → s.namesJob r = false → s.pool.wait = [] →
      ∃ t, exec .restoreWalkStep s = .next t ∧
        freedByWalk s t r x q { (s.sweepPast r).sweep with
          report := { s.sweep.report with released := s.sweep.report.released + 1#16 } }) ∧
    (s.sweep.offer = none → OnWalk s r → (s.record r).state = .valid → (s.record r).suspect = false →
      (s.record r).pageIndex = some x → (s.page x).parityOk = true → s.oldestSource x = some r →
      (s.idleChannel = none → exec .restoreWalkStep s = .next { s with
        port := { s.port with intake := if s.port.intake = .closed then .closing else s.port.intake }
        sweep := { s.sweep with offer := some r } }) ∧
      (∀ c g free, s.idleChannel = some c → s.mem.up = true → (s.record r).pageNumber = some g →
        free = (chanTags c).filter (fun i => (s.copyTag i).use == .free) →
        ∃ t, exec .restoreWalkStep s = .next t ∧
          (∀ y, t.record y = if y = r then { s.record r with state := .restoring } else s.record y) ∧
          jobStarted s t c ⟨.restore, r, s.pool.base.toNat + r, g, false⟩ free ∧
          t.sweep.cursor = cursorAfter s r ∧
          t = { s with
            records := t.records, channels := t.channels, copyTags := t.copyTags, tags := t.tags, mem := t.mem
            port := { s.port with intake := if s.port.intake = .closed then .closing else s.port.intake }
            sweep := (s.walkPast r).sweep }))

/-- The restore phase is over: the walk is over, the demand queue is empty, and no restore job is on offer, waiting or in a
channel (R101). -/
def restoreEnded (s : State) : Prop :=
  s.sweep.cursor = none ∧ s.sweep.demand = [] ∧ s.sweep.offer = none ∧
    ∀ c j, c < 4 → (s.chan c).job = some j → j.kind ≠ .restore

/-- When the restore phase is over, its walk at an end, no page in the demand queue and no restore on offer or in a channel,
the UNWINDING slots become FREE. Without DROP the rollback completes: ROLLBACK_DONE and the engine idle, its fields as log 11
has them. With DROP the MERGE phase starts: the target becomes RETIRING, its predecessor is fixed as the newest LIVE mark
older than it, and the walk begins at its oldest record; with an empty journal the phase completes at once: the target's
damage passes to the predecessor, its slot is FREE, ROLLBACK_DONE is set and the engine is idle. A return to idle is itself a
pressure check, stated by PressureCheckRetiresTheOldest. Before that the command has no effect, the model's choice (log 3).
The fields `walkSlot` and `walked` are the model's own (log 28). -/
def Obligations.RestorePhaseEnds : Prop :=
  ∀ (s : State) (q : Nat), s.Settled → s.sweep.kind = .rollback → s.sweep.phase = .restore →
    s.sweep.target = some q → q < 5 → (s.slot q).state = .live →
    (¬restoreEnded s → exec .restorePhaseEnd s = .next s) ∧
    (restoreEnded s → s.sweep.drop = false → ∃ u : State, exec .restorePhaseEnd s = .next u.pressureCheck ∧
      (∀ j, u.slot j = if j < 5 ∧ (s.slot j).state = .unwinding then .freed else s.slot j) ∧
      u = { s with
        slots := u.slots, sweep := idleSweep s.sweep
        mgmt := { s.mgmt with flags := s.mgmt.flags ||| BitVec.twoPow 21 2 } }) ∧
    (restoreEnded s → s.sweep.drop = true → (s.slot q).head = none →
      ∃ u : State, exec .restorePhaseEnd s = .next u.pressureCheck ∧
      (∀ j, u.slot j = if j = q ∨ (j < 5 ∧ (s.slot j).state = .unwinding) then .freed
        else if s.olderLive q = some j ∧ (s.slot q).damaged = true then { s.slot j with damaged := true }
        else s.slot j) ∧
      u = { s with
        slots := u.slots, sweep := idleSweep s.sweep
        mgmt := { s.mgmt with flags := s.mgmt.flags ||| BitVec.twoPow 21 2 } }) ∧
    (∀ r, restoreEnded s → s.sweep.drop = true → (s.slot q).head = some r →
      ∃ t, exec .restorePhaseEnd s = .next t ∧
      (∀ j, t.slot j = if j = q then { s.slot q with state := .retiring }
        else if j < 5 ∧ (s.slot j).state = .unwinding then .freed else s.slot j) ∧
      t = { s with
        slots := t.slots
        sweep := { s.sweep with
          phase := .merge, retiring := some q, predecessor := s.olderLive q, order := [(q, some r)]
          cursor := some r, walkSlot := some q, walked := [], waitingOn := none, boundary := none } })
end

