-- ==== Sys2Proof/Laws/Closed.lean ====
section
/-! SUPPORT. What the shared operations can do, said once: a property that the primitive updates of `Closed` keep is kept
by every operation of the write path, the copy engine and the end of a step (04, 07). A proof that a step leaves
something alone, or keeps an invariant, shows the primitive updates and cites these. -/

namespace Sys2Proof.Machine

/-- State control as the shared operations change it: the operating state only from GUARDING to DEGRADED, and what is held of
the causes, the table-fault condition and the recovery latches stays held. -/
structure Control.Grows (c v : Control) : Prop where
  state : v.state = c.state ∨ (c.state = .guarding ∧ v.state = .degraded)
  link : c.causeLink = true → v.causeLink = true
  table : c.causeTable = true → v.causeTable = true
  command : c.causeCommand = true → v.causeCommand = true
  tableFault : c.tableFault = true → v.tableFault = true
  spoiled : c.spoiled = true → v.spoiled = true
  faultDuring : c.faultDuring = true → v.faultDuring = true
  linkLost : c.linkLost = true → v.linkLost = true

end Sys2Proof.Machine

namespace Sys2Proof.Laws

open Sys2Proof.Machine

/-- `P` is kept by each primitive update that the shared operations make. What they never change stands in the side
conditions: pool geometry, policy, the request port's link and hold timeout, the fault list but by `appendFault`, the
memory port but by `take` while its link is up, the operating state but from GUARDING into DEGRADED, and no slot becomes
LIVE. -/
structure Closed (P : State → Prop) : Prop where
  raise : ∀ s f, P s → P (s.raise f)
  capture : ∀ s k t a w, P s → P (s.capture k t a w)
  act : ∀ s w v, P s → P (s.setAct w v)
  page : ∀ s p v, P s → P (s.setPage p v)
  slot : ∀ s i v, (v.state = .live → (s.slot i).state = .live) → P s → P (s.setSlot i v)
  record : ∀ s r v, P s → P (s.setRec r v)
  entry : ∀ s n v, P s → P (s.setEntry n v)
  chan : ∀ s c v, ((s.chan c).lawful = true → v.lawful = true) → P s → P (s.setChan c v)
  copyTag : ∀ s t v, P s → P (s.setCopyTag t v)
  pool : ∀ s v, v.base = s.pool.base → v.frames = s.pool.frames → v.lowWater = s.pool.lowWater → P s →
    P (s.setPool v)
  wp : ∀ s v, v.policy = s.wp.policy → (s.wp.lawful = true → v.lawful = true) → P s → P (s.setWp v)
  sweep : ∀ s v, v.faultList = s.sweep.faultList →
    (s.sweep.demand.length ≤ Config.demandPages → v.demand.length ≤ Config.demandPages) → P s → P (s.setSweep v)
  fault : ∀ s x, P s → P (s.appendFault x)
  port : ∀ s v, v.up = s.port.up → v.holdTimeout = s.port.holdTimeout → P s → P (s.setPort v)
  take : ∀ s t k a l m d, s.mem.up = true → P s → P (s.take t k a l m d)
  ctl : ∀ s v, s.ctl.Grows v → (s.ctl.lawful = true → v.lawful = true) → P s → P (s.setCtl v)

namespace Closed

variable {P : State → Prop} {s : State}

/-! ## Folds -/

theorem foldl {α : Type} {f : State → α → State} (hf : ∀ s a, P s → P (f s a)) (l : List α) :
    ∀ s, P s → P (l.foldl f s) := by
  induction l with
  | nil => exact fun s hs => hs
  | cons a t ih => exact fun s hs => ih _ (hf s a hs)

theorem ite {c : Prop} [Decidable c] {a b : State} (ha : P a) (hb : P b) : P (if c then a else b) := by
  split
  · exact ha
  · exact hb

/-! ## Flags, counters, marks -/

theorem protocolError (h : Closed P) (t a) (hs : P s) : P (s.protocolError t a) :=
  h.capture _ _ _ _ _ (h.raise _ _ hs)

theorem captureEntry (h : Closed P) (k n) (hs : P s) : P (s.captureEntry k n) := h.capture _ _ _ _ _ hs

theorem countRunning (h : Closed P) (f w) (hs : P s) : P (s.countRunning f w) := by
  cases w with
  | none => exact hs
  | some w => exact h.act _ _ _ hs

theorem countPreserve (h : Closed P) (w) (hs : P s) : P (s.countPreserve w) := h.countRunning _ _ hs

theorem countRefusal (h : Closed P) (w) (hs : P s) : P (s.countRefusal w) := h.countRunning _ _ hs

theorem countRead (h : Closed P) (w) (hs : P s) : P (s.countRead w) := h.countRunning _ _ hs

theorem countWrite (h : Closed P) (w) (hs : P s) : P (s.countWrite w) := h.countRunning _ _ hs

theorem countRequest (h : Closed P) (k w) (hs : P s) : P (s.countRequest k w) := by
  cases k
  · exact h.countRead _ hs
  · exact h.countWrite _ hs

theorem damage (h : Closed P) (q) (hs : P s) : P (s.damage q) := h.slot _ _ _ id hs

theorem damageLive (h : Closed P) (hs : P s) : P s.damageLive := foldl (fun _ q hs => h.damage q hs) _ _ hs

theorem startDiscard (h : Closed P) (q p c) (hs : P s) : P (s.startDiscard q p c) :=
  h.sweep _ _ rfl id (h.slot _ _ _ (fun hl => nomatch hl) hs)

theorem pressureCheck (h : Closed P) (hs : P s) : P s.pressureCheck := by
  unfold State.pressureCheck
  split
  · split
    · exact hs
    · exact h.raise _ _ (h.startDiscard _ _ _ hs)
  · exact hs

theorem sweepIdle (h : Closed P) (hs : P s) : P s.sweepIdle := h.sweep _ _ rfl id hs

/-! ## Request port (06) -/

theorem earnCredit (h : Closed P) (hs : P s) : P s.earnCredit := by
  unfold State.earnCredit
  split
  · exact hs
  · split <;> exact h.port _ _ rfl rfl hs

theorem sendCredits (h : Closed P) (hs : P s) : P s.sendCredits := by
  unfold State.sendCredits
  split
  · exact hs
  · exact h.port _ _ rfl rfl hs

theorem noteWork (h : Closed P) (hs : P s) : P s.noteWork := by
  unfold State.noteWork
  split
  · exact h.port _ _ rfl rfl hs
  · exact hs

theorem checkIntake (h : Closed P) (hs : P s) : P s.checkIntake := by
  unfold State.checkIntake
  split
  · exact h.raise _ _ (h.port _ _ rfl rfl hs)
  · exact hs

theorem sendUp (h : Closed P) (m) (hs : P s) : P (s.sendUp m) := by
  unfold State.sendUp
  split
  · exact h.port _ _ rfl rfl hs
  · exact hs

theorem leaveDrain (h : Closed P) (n) (hs : P s) : P (s.leaveDrain n) := h.sweep _ _ rfl id hs

theorem freeEntry (h : Closed P) (n) (hs : P s) : P (s.freeEntry n) := by
  unfold State.freeEntry
  split
  · exact hs
  · exact h.earnCredit (h.leaveDrain _ (h.entry _ _ _ hs))

theorem complete (h : Closed P) (n st r d) (hs : P s) : P (s.complete n st r d) := h.freeEntry _ (h.sendUp _ hs)

theorem refuse (h : Closed P) (n r) (hs : P s) : P (s.refuse n r) := h.complete _ _ _ _ (h.countRefusal _ hs)

theorem endEntry (h : Closed P) (n e) (hs : P s) : P (s.endEntry n e) := by
  unfold State.endEntry
  split
  · split
    · exact h.complete _ _ _ _ hs
    · exact h.complete _ _ _ _ hs
    · exact h.leaveDrain _ (h.entry _ _ _ (h.sendUp _ hs))
    · exact h.complete _ _ _ _ hs
    · exact h.complete _ _ _ _ hs
  · split
    · exact hs
    · exact h.freeEntry _ hs
  · exact hs

theorem releaseEntry (h : Closed P) (n) (hs : P s) : P (s.releaseEntry n) := by
  unfold State.releaseEntry
  split
  · exact h.freeEntry _ hs
  · exact h.freeEntry _ hs
  · exact hs

theorem issueTo (h : Closed P) (n a) (hs : P s) : P (s.issueTo n a) := by
  unfold State.issueTo
  dsimp only
  split
  · exact h.take _ _ _ _ _ _ _ ‹_› (h.entry _ _ _ hs)
  · exact h.endEntry _ _ (h.entry _ _ _ hs)

theorem issue (h : Closed P) (n) (hs : P s) : P (s.issue n) := h.issueTo _ _ hs

/-! ## Wait lists (01, 1.4) -/

theorem putPage (h : Closed P) (p v) (hs : P s) : P (s.putPage p v) := h.page _ _ _ hs

theorem putRec (h : Closed P) (r v) (hs : P s) : P (s.putRec r v) := h.record _ _ _ hs

theorem waitAppend (h : Closed P) (p n) (hs : P s) : P (s.waitAppend p n) := by
  unfold State.waitAppend
  split
  · exact h.putPage _ _ hs
  · exact h.putPage _ _ (h.entry _ _ _ hs)

theorem popHead (h : Closed P) (p n) (hs : P s) : P (s.popHead p n) := h.putPage _ _ (h.entry _ _ _ hs)

theorem waitRemove (h : Closed P) (p n) (hs : P s) : P (s.waitRemove p n) := by
  unfold State.waitRemove
  split
  · exact h.popHead _ _ hs
  · split
    · exact hs
    · dsimp only
      split
      · exact h.putPage _ _ (h.entry _ _ _ (h.entry _ _ _ hs))
      · exact h.entry _ _ _ (h.entry _ _ _ hs)

/-! ## Chains and journals (03) -/

theorem chainInsert (h : Closed P) (p r) (hs : P s) : P (s.chainInsert p r) := by
  unfold State.chainInsert
  dsimp only
  split
  · exact h.putPage _ _ (h.putRec _ _ hs)
  · exact h.putRec _ _ (h.putRec _ _ hs)

theorem chainUnlink (h : Closed P) (p r) (hs : P s) : P (s.chainUnlink p r) := by
  unfold State.chainUnlink
  split
  · split
    · exact h.putPage _ _ hs
    · exact h.putRec _ _ hs
  · exact hs

theorem journalAppend (h : Closed P) (q r) (hs : P s) : P (s.journalAppend q r) := by
  unfold State.journalAppend
  dsimp only
  refine h.slot _ _ _ id ?_
  split
  · exact h.slot _ _ _ id (h.putRec _ _ hs)
  · exact h.putRec _ _ (h.putRec _ _ hs)

theorem nextJournal (h : Closed P) (hs : P s) : P s.nextJournal := h.sweep _ _ rfl id hs

theorem walkPast (h : Closed P) (r) (hs : P s) : P (s.walkPast r) := by
  unfold State.walkPast
  split
  · exact h.sweep _ _ rfl id hs
  · exact h.nextJournal hs

theorem sweepPast (h : Closed P) (r) (hs : P s) : P (s.sweepPast r) := by
  unfold State.sweepPast
  extract_lets older s1
  have h1 : P s1 := ite (h.walkPast _ hs) hs
  exact ite (h.sweep _ _ rfl id h1) h1

theorem linkNewer (h : Closed P) (o v) (hs : P s) : P (s.linkNewer o v) := by
  cases o with
  | none => exact hs
  | some x => exact h.putRec _ _ hs

theorem linkOlder (h : Closed P) (n v) (hs : P s) : P (s.linkOlder n v) := by
  cases n with
  | none => exact hs
  | some x => exact h.putRec _ _ hs

theorem journalUnlink (h : Closed P) (q r) (hs : P s) : P (s.journalUnlink q r) :=
  h.slot _ _ _ id (h.linkOlder _ _ (h.linkNewer _ _ hs))

theorem journalRemove (h : Closed P) (r) (hs : P s) : P (s.journalRemove r) := by
  unfold State.journalRemove
  split
  · exact h.sweepPast _ hs
  · extract_lets t t'
    have ht : P t := h.sweepPast _ hs
    exact h.slot _ _ _ id (ite (h.journalUnlink _ _ ht) ht)

theorem relabel (h : Closed P) (r p) (hs : P s) : P (s.relabel r p) := h.journalAppend _ _ (h.journalRemove _ hs)

/-! ## DEGRADED and table faults (R14, R43, R148, R151) -/

theorem addCause (h : Closed P) (c) (hs : P s) : P (s.addCause c) := by
  cases c <;>
  · refine h.ctl _ _ (by constructor <;> simp +contextual) ?_ hs
    simp only [Control.lawful, Control.caused, Bool.and_eq_true, Bool.or_eq_true]
    tauto

theorem enterDegradedWith (h : Closed P) {flush : State → State} (hf : ∀ s, P s → P (flush s))
    (hg : s.ctl.state = .guarding) (hc : s.ctl.caused = true) (hs : P s) : P (enterDegradedWith flush s) := by
  refine h.raise _ _ (hf _ (h.damageLive (h.ctl _ _ ⟨Or.inr ⟨hg, rfl⟩, id, id, id, id, id, id, id⟩ ?_ hs)))
  simp only [Control.lawful, Control.caused, Bool.and_eq_true, Bool.or_eq_true] at hc ⊢
  tauto

theorem addCause_caused (c : DegradedCause) (s : State) : (s.addCause c).ctl.caused = true := by
  cases c <;> simp [State.addCause, State.setCtl, Control.caused]

theorem addCause_state (c : DegradedCause) (s : State) : (s.addCause c).ctl.state = s.ctl.state := by cases c <;> rfl

theorem tableFaultWith (h : Closed P) {flush : State → State} (hf : ∀ s, P s → P (flush s)) (hs : P s) :
    P (tableFaultWith flush s) := by
  have hc : P (s.setCtl { s.ctl with tableFault := true }) :=
    h.ctl _ _ ⟨Or.inl rfl, id, id, id, fun _ => rfl, id, id, id⟩ id hs
  unfold Machine.tableFaultWith
  dsimp only
  split
  · rename_i hg
    exact h.enterDegradedWith hf ((addCause_state _ _).trans hg) (addCause_caused _ _) (h.addCause _ hc)
  · exact h.addCause _ hc
  · refine h.ctl _ _ ⟨Or.inl rfl, id, id, id, id, fun _ => rfl, fun _ => rfl, id⟩ ?_ hc
    simp only [Control.lawful, Control.caused, Bool.and_eq_true, Bool.or_eq_true]
    tauto
  · exact hc

theorem checkPageWith (h : Closed P) {flush : State → State} (hf : ∀ s, P s → P (flush s)) (p t) (hs : P s) :
    P (checkPageWith flush p t s) := by
  unfold Machine.checkPageWith
  split
  · exact hs
  · exact h.tableFaultWith hf (h.putPage _ _ (h.capture _ _ _ _ _ hs))

theorem captureRec (h : Closed P) (r t) (hs : P s) : P (s.captureRec r t) := by
  unfold State.captureRec
  split
  · exact h.capture _ _ _ _ _ hs
  · split <;> exact h.capture _ _ _ _ _ hs

theorem checkRecWith (h : Closed P) {flush : State → State} (hf : ∀ s, P s → P (flush s)) (r t) (hs : P s) :
    P (checkRecWith flush r t s) := by
  unfold Machine.checkRecWith
  split
  · exact hs
  · exact h.tableFaultWith hf (h.putRec _ _ (h.captureRec _ _ hs))

theorem checkRecsWith (h : Closed P) {flush : State → State} (hf : ∀ s, P s → P (flush s)) (l t) (hs : P s) :
    P (checkRecsWith flush l t s) :=
  foldl (fun _ r hs => h.checkRecWith hf r t hs) _ _ hs

/-! ## The decision (R61) and its outcomes -/

theorem hold (h : Closed P) (n o) (hs : P s) : P (s.hold n o) := h.entry _ _ _ hs

theorem holdForDemand (h : Closed P) (p n) (hs : P s) : P (s.holdForDemand p n) := by
  have key : ∀ (b : Bool) (t : State), P t →
      P (if b = true ∨ p ∈ t.sweep.demand ∨ Config.demandPages ≤ t.sweep.demand.length then t
        else (t.setSweep { t.sweep with demand := t.sweep.demand ++ [p] }).noteWork) := by
    intro b t ht
    split
    · exact ht
    · rename_i hn
      refine h.noteWork (h.sweep _ _ rfl ?_ ht)
      intro _
      simp only [not_or, Nat.not_le] at hn
      rw [List.length_append]
      exact hn.2.2
  exact key _ _ (h.hold _ _ hs)

theorem queueJob (h : Closed P) (j) (hs : P s) : P (s.queueJob j) := by
  unfold State.queueJob
  split <;> refine h.noteWork (h.wp _ _ rfl ?_ hs) <;>
  · simp only [WritePath.lawful, Bool.and_eq_true, Bool.or_eq_true, decide_eq_true_eq, List.isEmpty_iff, beq_iff_eq,
      List.length_append, List.length_cons, List.length_nil, List.append_eq_nil_iff]
    simp only [Config.preserveJobs] at *
    intro hl
    refine ⟨by omega, ?_⟩
    rcases hl.2 with h' | h'
    · first
      | exact Or.inl h'
      | exact Or.inr (by omega)
    · omega

theorem allocate (h : Closed P) (r p n e) (hs : P s) : P (s.allocate r p n e) := by
  unfold State.allocate
  extract_lets number s1 s2 s3 s4
  have h2 : P s2 := h.journalAppend _ _ (h.chainInsert _ _ (h.putRec _ _ hs))
  have h3 : P s3 := ite (h.raise _ _ h2) h2
  exact h.countPreserve _ (h.hold _ _ (h.queueJob _ h3))

theorem issueHead (h : Closed P) (p n a) (hs : P s) : P (s.issueHead p n a) := h.issueTo _ _ (h.popHead _ _ hs)

theorem exhausted (h : Closed P) (p n e) (hs : P s) : P (s.exhausted p n e).2 := by
  have wait : ∀ (t : State) l, P t → P ((t.setPool { t.pool with wait := l }).pressureCheck) :=
    fun t l ht => h.pressureCheck (h.pool _ _ rfl rfl rfl ht)
  have wp : ∀ (t u : State) b, t.wp = u.wp → P t → P (t.setWp { u.wp with breaks := b }) :=
    fun t u b e ht => h.wp _ _ (by rw [e]) (by rw [e]; exact id) ht
  unfold State.exhausted
  extract_lets t
  have ht : P t := h.raise _ _ hs
  split
  · dsimp only
    exact h.refuse _ _ (h.popHead _ _ (h.captureEntry _ _ ht))
  · have hb := wp _ t (satInc t.wp.breaks) (rfl : (t.damage e).wp = t.wp) (h.damage e ht)
    exact h.issueHead _ _ _ hb
  · dsimp only
    exact wait _ _ (h.entry _ _ _ ht)

theorem preserve (h : Closed P) (hand p n e) (hs : P s) : P (s.preserve hand p n e).2 := by
  unfold State.preserve
  split
  · dsimp only
    exact h.allocate _ _ _ _ hs
  · split
    · dsimp only
      exact h.allocate _ _ _ _ (h.pool _ _ rfl rfl rfl hs)
    · exact h.exhausted _ _ _ hs

theorem preserveWith (h : Closed P) {flush : State → State} (hf : ∀ s, P s → P (flush s)) (hand p n e)
    (hs : P s) : P (preserveWith flush hand p n e s).2 := by
  unfold Machine.preserveWith
  split
  · exact h.exhausted _ _ _ hs
  · extract_lets t
    have ht : P t := h.checkRecsWith hf _ _ hs
    split
    · exact h.issueHead _ _ _ ht
    · exact h.preserve _ _ _ _ ht

theorem decideHeadWith (h : Closed P) {flush : State → State} (hf : ∀ s, P s → P (flush s)) (hand p n e)
    (hs : P s) : P (decideHeadWith flush hand p n e s).2 := by
  unfold Machine.decideHeadWith
  split
  · exact h.preserveWith hf _ _ _ _ hs
  · split
    · exact h.hold _ _ hs
    · split
      · exact h.issueHead _ _ _ hs
      · exact h.preserveWith hf _ _ _ _ hs

theorem decideMarksWith (h : Closed P) {flush : State → State} (hf : ∀ s, P s → P (flush s)) (hand p n)
    (hs : P s) : P (decideMarksWith flush hand p n s).2 := by
  unfold Machine.decideMarksWith
  split
  · exact h.issueHead _ _ _ hs
  · split
    · exact h.issueHead _ _ _ hs
    · extract_lets t
      have ht : P t := h.checkRecsWith hf _ _ hs
      split
      · exact h.issueHead _ _ _ ht
      · exact h.decideHeadWith hf _ _ _ _ ht

theorem decideWriteWith (h : Closed P) {flush : State → State} (hf : ∀ s, P s → P (flush s)) (hand p n)
    (hs : P s) : P (decideWriteWith flush hand p n s).2 := by
  unfold Machine.decideWriteWith
  split
  · dsimp only
    split
    · exact h.decideMarksWith hf _ _ _ (h.checkRecsWith hf _ _ hs)
    · exact h.holdForDemand _ _ (h.checkRecsWith hf _ _ hs)
  · exact h.decideMarksWith hf _ _ _ hs

theorem issueReadWith (h : Closed P) {flush : State → State} (hf : ∀ s, P s → P (flush s)) (p n) (hs : P s) :
    P (issueReadWith flush p n s) := by
  unfold Machine.issueReadWith
  split
  · dsimp only
    split <;> exact h.issueHead _ _ _ (h.checkRecsWith hf _ _ hs)
  · exact h.issueHead _ _ _ hs

theorem decidePageWith (h : Closed P) {flush : State → State} (hf : ∀ s, P s → P (flush s)) (p k) :
    ∀ s, P s → P (decidePageWith flush p k s) := by
  induction k with
  | zero => exact fun s hs => hs
  | succ k ih =>
    intro s hs
    have hc := h.checkPageWith hf p (s.repaired p).waitHead hs
    unfold Machine.decidePageWith
    dsimp only
    split
    · exact hc
    · rename_i n hn
      split
      · exact hc
      · split
        · exact ih _ (h.issueReadWith hf _ _ hc)
        · have hd := h.decideWriteWith hf none p n hc
          split <;> rename_i heq <;> rw [heq] at hd
          · exact ih _ hd
          · exact hd

theorem flushWaitersWith (h : Closed P) {flush : State → State} (hf : ∀ s, P s → P (flush s)) (k) :
    ∀ s, P s → P (flushWaitersWith flush k s) := by
  induction k with
  | zero => exact fun s hs => hs
  | succ k ih =>
    intro s hs
    unfold Machine.flushWaitersWith
    split
    · exact hs
    · rename_i n rest hw
      have hp : P (s.setPool { s.pool with wait := rest }) := h.pool _ _ rfl rfl rfl hs
      dsimp only
      split
      · exact ih _ (h.issue _ hp)
      · exact ih _ (h.decidePageWith hf _ _ _ (h.issueHead _ _ _ (h.checkPageWith hf _ _ hp)))

theorem flushWaiters (h : Closed P) (s) (hs : P s) : P (flushWaiters s) :=
  h.flushWaitersWith (fun _ hs => hs) _ _ hs

theorem enterDegraded (h : Closed P) (c) (hg : s.ctl.state = .guarding) (hs : P s) : P (s.enterDegraded c) :=
  h.enterDegradedWith h.flushWaiters ((addCause_state _ _).trans hg) (addCause_caused _ _) (h.addCause _ hs)

theorem tableFault (h : Closed P) (hs : P s) : P s.tableFault := h.tableFaultWith h.flushWaiters hs

theorem checkPage (h : Closed P) (p t) (hs : P s) : P (s.checkPage p t) := h.checkPageWith h.flushWaiters _ _ hs

theorem checkRec (h : Closed P) (r t) (hs : P s) : P (s.checkRec r t) := h.checkRecWith h.flushWaiters _ _ hs

theorem checkRecs (h : Closed P) (l t) (hs : P s) : P (s.checkRecs l t) := h.checkRecsWith h.flushWaiters _ _ hs

theorem decidePage (h : Closed P) (p) (hs : P s) : P (s.decidePage p) := h.decidePageWith h.flushWaiters _ _ _ hs

/-! ## Frame returns, freeing, outcomes of copies (R46, R47, R65, R66, R94, R99) -/

theorem returnFrameFrom (h : Closed P) (r k) : ∀ s, P s → P (returnFrameFrom r k s) := by
  induction k with
  | zero => exact fun s hs => h.pool _ _ rfl rfl rfl hs
  | succ k ih =>
    intro s hs
    unfold Machine.returnFrameFrom
    split
    · exact h.pool _ _ rfl rfl rfl hs
    · rename_i n rest hw
      have hp : P (s.setPool { s.pool with wait := rest }) := h.pool _ _ rfl rfl rfl hs
      dsimp only
      split
      · exact ih _ hp
      · rename_i p hpst
        have hd := h.decideWriteWith h.flushWaiters (some r) p n (h.checkPage p (some n) hp)
        split <;> rename_i heq <;> rw [heq] at hd
        · exact hd
        · exact ih _ (h.decidePage _ hd)
        · exact ih _ hd

theorem returnFrame (h : Closed P) (r) (hs : P s) : P (s.returnFrame r) := ite hs (h.returnFrameFrom _ _ _ hs)

theorem unlinkRec (h : Closed P) (r) (hs : P s) : P (s.unlinkRec r) := by
  unfold State.unlinkRec
  split
  · exact hs
  · exact h.chainUnlink _ _ (h.checkRecs _ _ (h.checkPage _ _ hs))

theorem leaveJournal (h : Closed P) (r) (hs : P s) : P (s.leaveJournal r) := h.journalRemove _ (h.checkRecs _ _ hs)

theorem orphanJobs (h : Closed P) (r) (hs : P s) : P (s.orphanJobs r) := by
  refine ite (foldl (fun t c ht => h.chan _ _ _ ?_ ht) _ _ (h.wp _ _ rfl ?_ hs)) hs
  · simp [Channel.lawful]
  · simp [WritePath.lawful]

theorem clearRec (h : Closed P) (r) (hs : P s) : P (s.clearRec r) := h.orphanJobs _ (h.record _ _ _ hs)

theorem freeRecord (h : Closed P) (r) (hs : P s) : P (s.freeRecord r) :=
  h.returnFrame _ (h.clearRec _ (h.leaveJournal _ (h.unlinkRec _ hs)))

theorem stopWaiting (h : Closed P) (r) (hs : P s) : P (s.stopWaiting r) := by
  unfold State.stopWaiting
  split
  · exact h.sweep _ _ rfl id hs
  · exact hs

theorem redecideBehind (h : Closed P) (r p) (hs : P s) : P (s.redecideBehind r p) := by
  unfold State.redecideBehind
  split
  · exact hs
  · extract_lets t
    have ht : P t := h.checkPage _ _ hs
    split
    · exact ht
    · exact h.decidePage _ ht

theorem preservationSuccess (h : Closed P) (r) (hs : P s) : P (s.preservationSuccess r) :=
  h.redecideBehind _ _ (h.stopWaiting _ (h.putRec _ _ hs))

theorem afterFailure (h : Closed P) (p n q) (hs : P s) : P (s.afterFailure p n q) := by
  unfold State.afterFailure
  split
  · split
    · exact h.decidePage _ (h.refuse _ _ (h.popHead _ _ (h.captureEntry _ _ hs)))
    · exact h.decidePage _ (h.issueHead _ _ _ hs)
    · exact h.decidePage _ (h.issueHead _ _ _ hs)
  · exact h.decidePage _ hs

theorem damageUnless (h : Closed P) (q : Option Nat) (pol : Policy) (hs : P s) :
    P (match q with
      | none => s
      | some q => if s.wp.policy = pol then s else s.damage q) := by
  split
  · exact hs
  · split
    · exact hs
    · exact h.damage _ hs

theorem checkPageOf (h : Closed P) (p) (hs : P s) : P (s.checkPageOf p) := by
  unfold State.checkPageOf
  split
  · exact hs
  · exact h.checkPage _ _ hs

theorem captureCopy (h : Closed P) (held page) (hs : P s) : P (s.captureCopy held page) := h.capture _ _ _ _ _ hs

theorem preservationFailure (h : Closed P) (r) (hs : P s) : P (s.preservationFailure r) := by
  unfold State.preservationFailure
  extract_lets v s1 held s2 q s3 s4
  have h4 : P s4 :=
    h.stopWaiting _ (h.freeRecord _ (h.damageUnless _ _ (h.captureCopy _ _ (h.raise _ _ (h.checkPageOf _ hs)))))
  split
  · exact h.afterFailure _ _ _ h4
  · exact h4

theorem editReport (h : Closed P) (f) (hs : P s) : P (s.editReport f) := h.sweep _ _ rfl id hs

theorem redecideDemand (h : Closed P) (p) (hs : P s) : P (s.redecideDemand p) := by
  unfold State.redecideDemand
  split
  · exact hs
  · extract_lets t
    have ht : P t := h.checkPage _ _ hs
    exact ite (h.decidePage _ ht) ht

theorem restoreSuccess (h : Closed P) (r) (hs : P s) : P (s.restoreSuccess r) :=
  h.redecideDemand _ (h.editReport _ (h.stopWaiting _ (h.freeRecord _ hs)))

theorem restoreFault (h : Closed P) (page) (hs : P s) : P (s.restoreFault page) :=
  h.captureCopy _ _ (h.editReport _ (h.raise _ _ (h.fault _ _ hs)))

theorem restoreFailure (h : Closed P) (r) (hs : P s) : P (s.restoreFailure r) :=
  h.redecideDemand _ (h.restoreFault _ (h.stopWaiting _ (h.freeRecord _ hs)))

/-! ## The copy engine (07, 7.1 and 7.2) -/

theorem useTag (h : Closed P) (t u) (hs : P s) : P (s.useTag t u) := h.copyTag _ _ _ hs

theorem chunkFailed (h : Closed P) (c) (hs : P s) : P (s.chunkFailed c) := by
  unfold State.chunkFailed
  split
  · refine h.chan _ _ _ ?_ hs
    intro hl
    simp_all [Channel.lawful]
  · exact hs

theorem takeChunk (h : Closed P) (c t u k a m d) (hs : P s) : P (s.takeChunk c t u k a m d) := by
  unfold State.takeChunk
  split
  · exact h.take _ _ _ _ _ _ _ ‹_› (h.useTag _ _ hs)
  · exact h.chunkFailed _ (h.useTag _ _ hs)

theorem chunkRead (h : Closed P) (c t) (hs : P s) : P (s.chunkRead c t) := by
  unfold State.chunkRead
  split
  · exact hs
  · exact h.takeChunk _ _ _ _ _ _ _ (h.chan _ _ _ id hs)

theorem chunkWrite (h : Closed P) (c t k) (hs : P s) : P (s.chunkWrite c t k) := by
  unfold State.chunkWrite
  split
  · exact hs
  · exact h.takeChunk _ _ _ _ _ _ _ hs

theorem redecideJob (h : Closed P) (j) (hs : P s) : P (s.redecideJob j) := h.redecideBehind _ _ hs

theorem orphanFailure (h : Closed P) (j) (hs : P s) : P (s.orphanFailure j) := by
  unfold State.orphanFailure
  exact h.captureCopy _ _ (h.raise _ _ (h.checkPageOf _ hs))

theorem reportOrphan (h : Closed P) (j ok) (hs : P s) : P (s.reportOrphan j ok) := by
  unfold State.reportOrphan
  split
  · exact h.redecideJob _ hs
  · exact h.redecideJob _ (h.orphanFailure _ hs)
  · exact h.redecideDemand _ (h.editReport _ hs)
  · exact h.redecideDemand _ (h.restoreFault _ hs)

theorem reportJob (h : Closed P) (j ok) (hs : P s) : P (s.reportJob j ok) := by
  unfold State.reportJob
  split
  · exact h.reportOrphan _ _ hs
  · extract_lets t
    have ht : P t := h.checkRec _ _ hs
    split
    · exact ite (h.redecideJob _ (h.stopWaiting _ ht)) (h.preservationSuccess _ ht)
    · exact h.preservationFailure _ ht
    · exact h.restoreSuccess _ ht
    · exact h.restoreFailure _ ht

theorem idleChan (h : Closed P) (c) (hs : P s) : P (s.idleChan c) := by
  refine h.chan _ _ _ ?_ hs
  intro _
  dsimp only [Channel.lawful]
  split <;> rfl

theorem settleChan (h : Closed P) (c) (hs : P s) : P (s.settleChan c) := by
  unfold State.settleChan
  split
  · exact hs
  · split
    · exact hs
    · split
      · exact h.reportJob _ _ (h.idleChan _ hs)
      · split
        · exact h.reportJob _ _ (h.idleChan _ hs)
        · exact hs

theorem startJob (h : Closed P) (c j) (hs : P s) : P (s.startJob c j) :=
  h.settleChan _ (foldl (fun _ t hs => h.chunkRead c t hs) _ _ (h.chan _ _ _ (fun _ => rfl) hs))

theorem nextRead (h : Closed P) (c t) (hs : P s) : P (s.nextRead c t) := by
  unfold State.nextRead
  split
  · exact h.chunkRead _ _ hs
  · exact hs

theorem chunkEndBad (h : Closed P) (c t e) (hs : P s) : P (s.chunkEndBad c t e) :=
  h.chunkFailed _ (h.useTag _ _ hs)

theorem endChunk (h : Closed P) (t e) (hs : P s) : P (s.endChunk t e) := by
  unfold State.endChunk
  dsimp only
  split
  · split
    · exact h.settleChan _ (h.chunkWrite _ _ _ (h.copyTag _ _ _ hs))
    · exact h.settleChan _ (h.useTag _ _ hs)
  · exact h.settleChan _ (h.nextRead _ _ (h.chan _ _ _ id (h.useTag _ _ hs)))
  · exact h.settleChan _ (h.chunkEndBad _ _ _ hs)
  · exact h.settleChan _ (h.chunkEndBad _ _ _ hs)
  · exact hs

theorem releaseChunk (h : Closed P) (t) (hs : P s) : P (s.releaseChunk t) := by
  unfold State.releaseChunk
  dsimp only
  split
  · split
    · refine h.chan _ _ _ ?_ (h.useTag _ _ hs)
      intro hl
      simp_all only [Channel.lawful, beq_iff_eq]
      rfl
    · exact h.nextRead _ _ (h.useTag _ _ hs)
  · exact hs

theorem passOver (h : Closed P) (r) (hs : P s) : P (s.passOver r) := h.walkPast _ (h.checkRecs _ _ hs)

theorem startRestore (h : Closed P) (c r) (hs : P s) : P (s.startRestore c r) := by
  have hp := h.putRec r { s.record r with state := .restoring } hs
  exact h.startJob _ _ (ite (h.passOver _ (h.sweep _ _ rfl id hp)) hp)

theorem dropOffer (h : Closed P) (r) (hs : P s) : P (s.dropOffer r) := by
  unfold State.dropOffer
  split
  · exact h.sweep _ _ rfl id hs
  · exact hs

theorem takeTarget (h : Closed P) (c r) (hs : P s) : P (s.takeTarget c r) := by
  unfold State.takeTarget
  split
  · exact h.restoreFailure _ (h.dropOffer _ hs)
  · exact h.startRestore _ _ hs

theorem releaseSource (h : Closed P) (r) (hs : P s) : P (s.releaseSource r) := h.editReport _ (h.freeRecord _ hs)

theorem takeDemand (h : Closed P) (c p) (hs : P s) : P (s.takeDemand c p) := by
  have hc := h.checkRecs ((s.checkPage p none).sourceReads p) none (h.checkPage p none hs)
  unfold State.takeDemand
  dsimp only
  split
  · exact hc
  · exact ite hc (h.takeTarget _ _ (h.editReport _ (foldl (fun _ x hs => h.releaseSource x hs) _ _ hc)))

theorem takePreservation (h : Closed P) (c j rest) (hq : s.wp.queue = j :: rest) (hs : P s) :
    P (s.takePreservation c j rest) := by
  refine h.startJob _ _ (h.wp _ _ rfl ?_ hs)
  simp only [WritePath.lawful, hq, Bool.and_eq_true, Bool.or_eq_true, decide_eq_true_eq, List.isEmpty_iff, beq_iff_eq,
    List.length_append, List.length_cons, List.length_take]
  rcases s.wp.backlog with _ | ⟨b, l⟩
  · rintro ⟨hl, -⟩
    simp only [List.drop_nil, List.length_nil, true_or, and_true]
    omega
  · simp only [List.length_cons]
    intro hl
    have := hl.2.resolve_left (by simp)
    rw [Nat.min_eq_left (by omega), this]
    exact ⟨le_refl _, Or.inr rfl⟩

theorem takeOffer (h : Closed P) (c r) (hs : P s) : P (s.takeOffer c r) := by
  have hc := h.checkRec r none hs
  exact ite (h.takeTarget _ _ hc) (h.dropOffer _ hc)

theorem arbitrateFrom (h : Closed P) (k) : ∀ s, P s → P (arbitrateFrom k s) := by
  induction k with
  | zero => exact fun s hs => hs
  | succ k ih =>
    intro s hs
    unfold Machine.arbitrateFrom
    split
    · exact hs
    · split
      · rename_i hq
        refine ih _ (h.takeDemand _ _ (h.sweep _ _ rfl ?_ hs))
        intro hl
        rw [hq, List.length_cons] at hl
        dsimp only
        omega
      · split
        · exact ih _ (h.takePreservation _ _ _ ‹_› hs)
        · split
          · exact ih _ (h.takeOffer _ _ hs)
          · exact hs

theorem arbitrate (h : Closed P) (hs : P s) : P s.arbitrate := h.arbitrateFrom _ _ hs

/-- The end of a step keeps what the primitive updates keep. -/
theorem finish (h : Closed P) (hs : P s) : P s.finish := h.sendCredits (h.checkIntake (h.arbitrate hs))

theorem failChan (h : Closed P) (c) (hs : P s) : P (s.failChan c) := by
  unfold State.failChan
  split
  · exact hs
  · exact h.reportJob _ _ (h.idleChan _ (foldl (fun _ t hs => h.useTag t _ hs) _ _ hs))

theorem releaseChannels (h : Closed P) (hs : P s) : P s.releaseChannels := by
  unfold State.releaseChannels
  apply foldl
  · intro s c hs
    split
    · refine h.chan _ _ _ ?_ hs
      intro hl
      simp_all only [Channel.lawful, beq_iff_eq]
      rfl
    · exact hs
  · apply foldl
    · intro s t hs
      split
      · exact h.useTag _ _ hs
      · exact hs
    · exact hs

theorem takeFailures (h : Closed P) (k) (hs : P s) : P (s.takeFailures k) :=
  h.arbitrateFrom _ _ (foldl (fun _ c hs => h.failChan c hs) _ _ hs)

/-! ## Joining a list, accepting, timing out (R10, R110, R118) -/

theorem joinList (h : Closed P) (p n) (hs : P s) : P (s.joinList p n) := by
  have hc := h.checkPage p (some n) hs
  unfold State.joinList
  dsimp only
  split
  · exact h.decidePage _ (h.countRequest _ _ (h.waitAppend _ _ (h.entry _ _ _ hc)))
  · exact h.countRequest _ _ (h.waitAppend _ _ (h.entry _ _ _ hc))

theorem unpark (h : Closed P) (n) (hs : P s) : P (s.unpark n) := by
  unfold State.unpark
  split
  · exact hs
  · exact h.joinList _ _ hs

theorem censusWrite (h : Closed P) (n p w) (hs : P s) : P (s.censusWrite n p w) := by
  have hc : P ((s.setEntry n { s.entry n with stamp := s.stampNow }).countWrite w) :=
    h.countWrite _ (h.entry _ _ _ hs)
  unfold State.censusWrite
  dsimp only
  split
  · exact hc
  · split
    · exact hc
    · exact h.countPreserve _ (h.page _ _ _ hc)

theorem refuseNow (h : Closed P) (n f r) (hs : P s) : P (s.refuseNow n f r) :=
  h.refuse _ _ (h.captureEntry _ _ (h.raise _ _ hs))

theorem parkEntry (h : Closed P) (n) (hs : P s) : P (s.parkEntry n) := h.sweep _ _ rfl id (h.entry _ _ _ hs)

theorem handleClass (h : Closed P) (n) (hs : P s) : P (s.handleClass n) := by
  unfold State.handleClass
  dsimp only
  split
  · exact h.refuseNow _ _ _ hs
  · exact h.issue _ (h.countRequest _ _ hs)
  · exact h.issue _ (h.countRead _ hs)
  · exact h.refuseNow _ _ _ hs
  · exact h.issue _ (h.countRead _ hs)
  · exact h.issue _ (h.censusWrite _ _ _ hs)
  · split
    · exact h.parkEntry _ hs
    · exact h.joinList _ _ hs
  · exact h.issue _ hs

theorem acceptRequest (h : Closed P) (n a) (hs : P s) : P (s.acceptRequest n a) :=
  h.handleClass _ (h.noteWork (h.entry _ _ _ hs))

theorem acceptMalformed (h : Closed P) (n a) (hs : P s) : P (s.acceptMalformed n a) :=
  h.refuse _ _ (h.protocolError _ _ (h.noteWork (h.entry _ _ _ hs)))

theorem arrive (h : Closed P) (a) (hs : P s) : P (s.arrive a) := by
  unfold State.arrive
  dsimp only
  split
  · exact hs
  · split
    · exact h.protocolError _ _ hs
    · have hp : P (s.setPort { s.port with credits := s.port.credits - 1 }) := h.port _ _ rfl rfl hs
      split
      · exact h.sendCredits (h.earnCredit (h.protocolError _ _ hp))
      · split
        · exact h.finish (h.acceptRequest _ _ hp)
        · exact h.finish (h.acceptMalformed _ _ hp)

theorem holdExpired (h : Closed P) (n) (hs : P s) : P (s.holdExpired n) :=
  h.refuse _ _ (h.captureEntry _ _ (h.raise _ _ hs))

theorem holdListed (h : Closed P) (p n) (hs : P s) : P (s.holdListed p n) := by
  have hc := h.checkPage p (some n) hs
  unfold State.holdListed
  dsimp only
  split
  · exact hc
  · split
    · exact h.decidePage _ (h.holdExpired _ (h.waitRemove _ _ (h.pool _ _ rfl rfl rfl hc)))
    · exact h.holdExpired _ (h.waitRemove _ _ (h.pool _ _ rfl rfl rfl hc))

theorem holdParked (h : Closed P) (n) (hs : P s) : P (s.holdParked n) := h.holdExpired _ (h.sweep _ _ rfl id hs)

end Closed

end Sys2Proof.Laws
end

