-- ==== Sys2Proof/Laws/Engine.lean ====
section
/-! SUPPORT. The commands of the two ports and of the sweep engine keep every property that their primitive updates
keep. -/

namespace Sys2Proof.Laws

open Sys2Proof.Machine

/-- `P` is kept by each primitive update that a command of the ports or of the sweep engine makes: those of `Closed`, and
the links, the tags, any next operating state, the sequence restart and the updates of a whole table. -/
structure EngineClosed (P : State → Prop) : Prop extends Closed P where
  anyCtl : ∀ s v, (s.ctl.lawful = true → v.lawful = true) → P s → P (s.setCtl v)
  link : ∀ s v, v.holdTimeout = s.port.holdTimeout → P s → P (s.setPort v)
  tag : ∀ s t v, P s → P (s.setTag t v)
  mem : ∀ s v, v.retryLimit = s.mem.retryLimit → v.responseTimeout = s.mem.responseTimeout →
    (s.mem.credits ≤ 65535 → v.credits ≤ 65535) → P s → P (s.setMem v)
  clearTags : ∀ s, P s → P { s with tags := .empty }
  seq : ∀ s v, P s → P { s with nextSeq := v }
  mapPages : ∀ s f, P s → P { s with pst := s.pst.mapCells .clear f }
  mapEntries : ∀ s f, P s → P { s with entries := s.entries.mapCells .freed f }

namespace EngineClosed

variable {P : State → Prop} {s : State}

/-! ## Sweeps (05) -/

theorem setSlotStates (h : EngineClosed P) (st l) (hl : st ≠ .live) (hs : P s) : P (s.setSlotStates st l) :=
  Closed.foldl (fun _ _ hs => h.slot _ _ _ (fun he => absurd he hl) hs) _ _ hs

theorem freeSlots (h : EngineClosed P) (l) (hs : P s) : P (s.freeSlots l) :=
  Closed.foldl (fun _ _ hs => h.slot _ _ _ (fun he => SlotState.noConfusion he) hs) _ _ hs

theorem passDamage (h : EngineClosed P) (q p) (hs : P s) : P (s.passDamage q p) := by
  unfold State.passDamage
  split
  · exact hs
  · exact Closed.ite (h.damage _ hs) hs

theorem endSweep (h : EngineClosed P) (f) (hs : P s) : P (s.endSweep f) :=
  h.pressureCheck (h.sweepIdle (h.raise _ _ hs))

theorem startCommit (h : EngineClosed P) (c) (hs : P s) : P (s.startCommit c) :=
  h.sweep _ _ rfl id (h.setSlotStates _ _ (by decide) hs)

theorem startRollback (h : EngineClosed P) (q f d) (hs : P s) : P (s.startRollback q f d) := h.sweep _ _ rfl id hs

theorem waitFor (h : EngineClosed P) (r) (hs : P s) : P (s.waitFor r) := h.sweep _ _ rfl id hs

theorem endJournal (h : EngineClosed P) (hs : P s) : P s.endJournal := h.nextJournal (h.checkRecs _ _ hs)

theorem moveTo (h : EngineClosed P) (p r) (hs : P s) : P (s.moveTo p r) := h.relabel _ _ (h.checkRecs _ _ hs)

theorem retireValid (h : EngineClosed P) (r) (hs : P s) : P (s.retireValid r) := by
  unfold State.retireValid
  split
  · rename_i p x _ _
    have hp := h.checkPage x none hs
    have hr := h.checkRecs (readUntil (fun y => ((s.checkPage x none).record y).slot == some p)
      ((s.checkPage x none).chainReads x)) none hp
    dsimp only
    split
    · exact h.freeRecord _ hr
    · exact h.moveTo _ _ hr
  · exact h.freeRecord _ hs

theorem retireStep (h : EngineClosed P) (r) (hs : P s) : P (s.retireStep r) := by
  have hc := h.checkRec r none hs
  unfold State.retireStep
  dsimp only
  split
  · exact h.endJournal hc
  · split
    · exact h.waitFor _ hc
    · exact h.retireValid _ hc
    · exact h.passOver _ hc
    · exact h.passOver _ hc

theorem commitStep (h : EngineClosed P) (r) (hs : P s) : P (s.commitStep r) := by
  have hc := h.checkRec r none hs
  unfold State.commitStep
  dsimp only
  split
  · exact h.endJournal hc
  · split
    · exact h.waitFor _ hc
    · exact h.freeRecord _ hc
    · exact h.passOver _ hc
    · exact h.passOver _ hc

theorem discardComplete (h : EngineClosed P) (hs : P s) : P s.discardComplete := by
  unfold State.discardComplete
  split
  · exact h.endSweep _ hs
  · exact h.endSweep _ (h.freeSlots _ (h.passDamage _ _ hs))

theorem mergeComplete (h : EngineClosed P) (hs : P s) : P s.mergeComplete := by
  unfold State.mergeComplete
  split
  · exact h.endSweep _ hs
  · exact h.endSweep _ (h.freeSlots _ (h.passDamage _ _ hs))

theorem clearChains (h : EngineClosed P) (hs : P s) : P s.clearChains :=
  h.mapPages _ _ (Closed.foldl (fun _ _ hs => h.checkPage _ _ hs) _ _ hs)

theorem freeLeft (h : EngineClosed P) (hs : P s) : P s.freeLeft :=
  Closed.foldl (fun _ _ hs => h.returnFrame _ (h.clearRec _ (h.checkRec _ _ hs))) _ _ (h.clearChains hs)

theorem sequenceRestart (h : EngineClosed P) (hs : P s) : P s.sequenceRestart :=
  h.seq _ _ (h.mapPages _ _ (h.mapEntries _ _ hs))

theorem recoverComplete (h : EngineClosed P) (hs : P s) : P s.recoverComplete := by
  have key : ∀ t, P t → P (t.setCtl { t.ctl with spoiled := false, faultDuring := false, linkLost := false }) := by
    intro t ht
    refine h.anyCtl _ _ ?_ ht
    simp only [Control.lawful, Control.caused, Bool.and_eq_true, Bool.or_eq_true]
    tauto
  unfold State.recoverComplete
  dsimp only
  refine key _ ?_
  split
  · rename_i hc
    exact h.anyCtl _ _ (fun _ => by simp [Control.lawful, hc]) hs
  · rename_i hc
    rw [Bool.not_eq_false] at hc
    refine h.raise _ _ (h.flushWaiters _ (h.damageLive (h.anyCtl _ _ ?_ (h.anyCtl _ _ ?_ hs))))
    · simp only [State.setCtl, Control.lawful, Control.caused, hc]
      cases s.ctl.faultDuring <;> cases s.ctl.linkLost <;> simp
    · simp only [Control.lawful, Control.caused, hc]
      cases s.ctl.faultDuring <;> cases s.ctl.linkLost <;> simp

theorem commitComplete (h : EngineClosed P) (hs : P s) : P s.commitComplete := by
  have hr : P (((s.freeLeft.freeSlots (s.freeLeft.slotsIn .retiring)).sequenceRestart.raise .sweepDone).sweepIdle) :=
    h.sweepIdle (h.raise _ _ (h.sequenceRestart (h.freeSlots _ (h.freeLeft hs))))
  unfold State.commitComplete
  exact h.pressureCheck (Closed.ite (h.recoverComplete hr) hr)

theorem commitIfEmpty (h : EngineClosed P) (hs : P s) : P s.commitIfEmpty := Closed.ite (h.commitComplete hs) hs

theorem unwind (h : EngineClosed P) (q) (hs : P s) : P (s.unwind q) :=
  h.setSlotStates _ _ (by decide) (Closed.ite (h.damage _ hs) hs)

theorem enterRestore (h : EngineClosed P) (q) (hs : P s) : P (s.enterRestore q) := h.sweep _ _ rfl id hs

theorem beginRestore (h : EngineClosed P) (q) (hs : P s) : P (s.beginRestore q) :=
  Closed.foldl (fun _ n hs => h.unpark n hs) _ _ (h.enterRestore q (h.checkRecs _ _ (h.unwind q hs)))

theorem restoreValid (h : EngineClosed P) (r) (hs : P s) : P (s.restoreValid r) := by
  have key : ∀ t, P t → P (if t.isSource r = false ∧ (t.record r).suspect = false then t.passOver r
      else if (t.record r).pageIndex.bind t.oldestSource ≠ none ∧
      (t.record r).pageIndex.bind t.oldestSource ≠ some r then t.releaseSource r
      else if (t.record r).suspect = true then t.restoreFailure r
      else (t.setSweep { t.sweep with offer := some r }).noteWork) := by
    intro t ht
    exact Closed.ite (h.passOver _ ht) (Closed.ite (h.releaseSource _ ht)
      (Closed.ite (h.restoreFailure _ ht) (h.noteWork (h.sweep _ _ rfl id ht))))
  unfold State.restoreValid
  refine key _ ?_
  split
  · exact hs
  · exact h.checkRecs _ _ (h.checkPage _ _ hs)

theorem restoreStep (h : EngineClosed P) (r) (hs : P s) : P (s.restoreStep r) := by
  have hc := h.checkRec r none hs
  unfold State.restoreStep
  dsimp only
  split
  · exact h.endJournal hc
  · split
    · exact h.waitFor _ hc
    · exact h.restoreValid _ hc
    · exact h.passOver _ hc
    · exact h.passOver _ hc

theorem beginMerge (h : EngineClosed P) (q) (hs : P s) : P (s.beginMerge q) := by
  have key : ∀ t w (c : Option Nat), P t → w.faultList = t.sweep.faultList → w.demand = t.sweep.demand →
      P (if c = none then (t.setSweep w).mergeComplete else t.setSweep w) := by
    intro t w c ht hf hd
    have hw := h.sweep t w hf (by rw [hd]; exact id) ht
    exact Closed.ite (h.mergeComplete hw) hw
  exact key _ _ _ (h.setSlotStates _ _ (by decide) hs) rfl rfl

theorem endRestore (h : EngineClosed P) (hs : P s) : P s.endRestore := by
  have hf := h.freeSlots (s.slotsIn .unwinding) hs
  unfold State.endRestore
  dsimp only
  split
  · exact h.beginMerge _ hf
  · exact h.endSweep _ hf

/-! ## The request port's link (06) -/

theorem orphanOrFree (h : EngineClosed P) (n) (hs : P s) : P (s.orphanOrFree n) := by
  unfold State.orphanOrFree
  split <;> first
    | exact h.freeEntry _ hs
    | exact h.leaveDrain _ (h.entry _ _ _ hs)
    | exact hs

theorem portDown (h : EngineClosed P) (hs : P s) : P s.portDown :=
  h.pool _ _ rfl rfl rfl (h.sweep _ _ rfl id (h.link _ _ rfl hs))

theorem advertise (h : EngineClosed P) (hs : P s) : P s.advertise := by
  unfold State.advertise
  exact Closed.ite (h.link _ _ rfl hs) (h.link _ _ rfl hs)

/-! ## The memory port (07) -/

theorem idleTag (h : EngineClosed P) (t) (hs : P s) : P (s.idleTag t) :=
  h.mem _ _ rfl rfl id (h.tag _ _ _ hs)

theorem tellOwner (h : EngineClosed P) (t e) (hs : P s) : P (s.tellOwner t e) := by
  unfold State.tellOwner
  exact Closed.ite (h.endEntry _ _ hs) (h.endChunk _ _ hs)

theorem tellReleased (h : EngineClosed P) (t) (hs : P s) : P (s.tellReleased t) := by
  unfold State.tellReleased
  exact Closed.ite (h.releaseEntry _ hs) (h.releaseChunk _ hs)

theorem endTag (h : EngineClosed P) (t e) (hs : P s) : P (s.endTag t e) := h.tellOwner _ _ (h.idleTag _ hs)

theorem endError (h : EngineClosed P) (t) (hs : P s) : P (s.endError t) := h.endTag _ _ (h.mem _ _ rfl rfl id hs)

theorem countLate (h : EngineClosed P) (hs : P s) : P s.countLate := h.raise _ _ (h.mem _ _ rfl rfl id hs)

theorem lateResponse (h : EngineClosed P) (t) (hs : P s) : P (s.lateResponse t) :=
  h.tellReleased _ (h.idleTag _ (h.countLate hs))

theorem requeue (h : EngineClosed P) (t) (hs : P s) : P (s.requeue t) := h.mem _ _ rfl rfl id (h.tag _ _ _ hs)

theorem respond (h : EngineClosed P) (t st d) (hs : P s) : P (s.respond t st d) := by
  unfold State.respond
  exact Closed.ite (Closed.ite (h.finish (h.endTag _ _ hs)) (h.finish (h.endError _ hs)))
    (Closed.ite (Closed.ite (h.requeue _ hs) (h.finish (h.endError _ hs))) (h.finish (h.endError _ hs)))

theorem countTimeout (h : EngineClosed P) (t) (hs : P s) : P (s.countTimeout t) := by
  have hm : P ((s.setMem { s.mem with timeoutCount := satInc s.mem.timeoutCount }).raise .memTimeout) :=
    h.raise _ _ (h.mem _ _ rfl rfl id hs)
  unfold State.countTimeout
  exact Closed.ite (h.captureEntry _ _ hm) hm

theorem quarantineTag (h : EngineClosed P) (t) (hs : P s) : P (s.quarantineTag t) :=
  h.mem _ _ rfl rfl id (h.tag _ _ _ hs)

theorem downEntry (h : EngineClosed P) (n b) (hs : P s) : P (s.downEntry n b) := by
  unfold State.downEntry
  split <;> first
    | exact hs
    | exact h.endEntry _ _ hs
    | exact h.releaseEntry _ hs

theorem downEntries (h : EngineClosed P) (hs : P s) : P s.downEntries :=
  Closed.foldl (fun _ _ hs => h.downEntry _ _ hs) _ _
    (h.mem _ _ rfl rfl (fun _ => Nat.zero_le _) (h.clearTags _ hs))

theorem linkDownControl (h : EngineClosed P) (hs : P s) : P s.linkDownControl := by
  unfold State.linkDownControl
  split
  · exact hs
  · exact h.enterDegraded _ ‹_› hs
  · exact h.addCause _ hs
  · refine h.anyCtl _ _ ?_ hs
    simp only [Control.lawful, Control.caused, Bool.and_eq_true, Bool.or_eq_true]
    tauto

/-! ## The commands -/

/-- A command of the ports or of the sweep engine answers a next state, and that state keeps `P`. -/
theorem exec (h : EngineClosed P) {c : Instr} (hc : engineCommand c = true) (hs : P s) :
    ∃ t, exec c s = .next t ∧ P t := by
  cases c with
  | requestPortLinkDown =>
    simp only [Machine.exec, execRequestPortLinkDown]
    split
    · exact ⟨_, rfl, hs⟩
    · exact ⟨_, rfl, h.finish (h.raise _ _
        (Closed.foldl (fun _ n hs => h.orphanOrFree n hs) _ _ (h.mapPages _ _ (h.portDown hs))))⟩
  | requestPortLinkUp =>
    simp only [Machine.exec, execRequestPortLinkUp]
    split
    · exact ⟨_, rfl, hs⟩
    · exact ⟨_, rfl, h.raise _ _ (h.advertise (h.link _ _ rfl hs))⟩
  | memoryPortLinkDown k =>
    simp only [Machine.exec, execMemoryPortLinkDown]
    split
    · exact ⟨_, rfl, hs⟩
    · exact ⟨_, rfl, h.finish (Closed.foldl (fun _ c hs => h.failChan c hs) _ _
        (h.linkDownControl (h.takeFailures _ (h.releaseChannels (h.raise _ _ (h.downEntries hs))))))⟩
  | memoryPortLinkUp =>
    simp only [Machine.exec, execMemoryPortLinkUp]
    split
    · exact ⟨_, rfl, hs⟩
    · exact ⟨_, rfl, h.raise _ _ (h.mem _ _ rfl rfl id hs)⟩
  | read tag len addr payload => exact ⟨_, rfl, h.arrive _ hs⟩
  | write tag len addr masks data => exact ⟨_, rfl, h.arrive _ hs⟩
  | misdirectedUpstreamMessage t =>
    simp only [Machine.exec, execMisdirectedUpstreamMessage]
    split
    · exact ⟨_, rfl, hs⟩
    · exact ⟨_, rfl, h.protocolError _ _ hs⟩
  | unknownTypeMessage p t =>
    simp only [Machine.exec, execUnknownTypeMessage]
    cases p <;> dsimp only <;> split
    · exact ⟨_, rfl, hs⟩
    · exact ⟨_, rfl, h.protocolError _ _ hs⟩
    · exact ⟨_, rfl, hs⟩
    · exact ⟨_, rfl, h.protocolError _ _ hs⟩
  | completion tag st r d =>
    simp only [Machine.exec, execCompletion]
    split
    · exact ⟨_, rfl, hs⟩
    · split
      · exact ⟨_, rfl, h.countLate hs⟩
      · split
        · exact ⟨_, rfl, h.respond _ _ _ hs⟩
        · exact ⟨_, rfl, h.finish (h.lateResponse _ hs)⟩
        · exact ⟨_, rfl, h.countLate hs⟩
        · exact ⟨_, rfl, h.countLate hs⟩
  | credit n =>
    simp only [Machine.exec, execCredit]
    split
    · exact ⟨_, rfl, hs⟩
    · exact ⟨_, rfl, h.mem _ _ rfl rfl (fun _ => Nat.min_le_left _ _) hs⟩
  | misdirectedDownstreamMessage t =>
    simp only [Machine.exec, execMisdirectedDownstreamMessage]
    split
    · exact ⟨_, rfl, hs⟩
    · exact ⟨_, rfl, h.protocolError _ _ hs⟩
  | sendRequest =>
    simp only [Machine.exec, execSendRequest]
    split
    · exact ⟨_, rfl, hs⟩
    · split
      · exact ⟨_, rfl, hs⟩
      · exact ⟨_, rfl, h.mem _ _ rfl rfl (fun hl => (Nat.sub_le _ _).trans hl) (h.tag _ _ _ hs)⟩
  | holdTimeout n =>
    simp only [Machine.exec, execHoldTimeout]
    split
    · split
      · exact ⟨_, rfl, h.finish (h.holdParked _ hs)⟩
      · exact ⟨_, rfl, h.finish (h.holdListed _ _ hs)⟩
      · exact ⟨_, rfl, h.finish (h.holdListed _ _ hs)⟩
      · exact ⟨_, rfl, h.finish (h.holdListed _ _ hs)⟩
      · exact ⟨_, rfl, hs⟩
    · exact ⟨_, rfl, hs⟩
  | responseTimeout t =>
    simp only [Machine.exec, execResponseTimeout]
    split
    · split
      · exact ⟨_, rfl, h.finish (h.endTag _ _ (h.countTimeout _ hs))⟩
      · exact ⟨_, rfl, h.finish (h.tellOwner _ _ (h.quarantineTag _ (h.countTimeout _ hs)))⟩
      · exact ⟨_, rfl, hs⟩
      · exact ⟨_, rfl, hs⟩
    · exact ⟨_, rfl, hs⟩
  | discardWalkStep =>
    simp only [Machine.exec, execDiscardWalkStep]
    split
    · split
      · exact ⟨_, rfl, h.finish (h.discardComplete hs)⟩
      · exact ⟨_, rfl, h.finish (h.retireStep _ hs)⟩
    · exact ⟨_, rfl, hs⟩
  | commitWalkStep =>
    simp only [Machine.exec, execCommitWalkStep]
    split
    · split
      · exact ⟨_, rfl, h.finish (h.commitComplete hs)⟩
      · exact ⟨_, rfl, h.finish (h.commitStep _ hs)⟩
    · exact ⟨_, rfl, hs⟩
  | restorePhaseStart =>
    simp only [Machine.exec, execRestorePhaseStart]
    split
    · split
      · exact ⟨_, rfl, hs⟩
      · exact ⟨_, rfl, h.finish (h.beginRestore _ hs)⟩
    · exact ⟨_, rfl, hs⟩
  | restoreWalkStep =>
    simp only [Machine.exec, execRestoreWalkStep]
    split
    · split
      · exact ⟨_, rfl, hs⟩
      · exact ⟨_, rfl, h.finish (h.restoreStep _ hs)⟩
    · exact ⟨_, rfl, hs⟩
  | restorePhaseEnd =>
    simp only [Machine.exec, execRestorePhaseEnd]
    split
    · exact ⟨_, rfl, h.finish (h.endRestore hs)⟩
    · exact ⟨_, rfl, hs⟩
  | mergeWalkStep =>
    simp only [Machine.exec, execMergeWalkStep]
    split
    · split
      · exact ⟨_, rfl, h.finish (h.mergeComplete hs)⟩
      · exact ⟨_, rfl, h.finish (h.retireStep _ hs)⟩
    · exact ⟨_, rfl, hs⟩
  | _ => exact absurd hc Bool.false_ne_true

end EngineClosed

end Sys2Proof.Laws
end

