-- ==== Sys2Proof/Laws/Table.lean ====
section
/-! SUPPORT. Sparse tables: what a read gives after a set or a map, and that both keep the canonical form. -/

namespace Sys2Proof.Machine.Table

variable {α : Type}

/-! ## Reads -/

theorem lookup_insertCell (d v : α) (i j : Nat) (l : List (Nat × α)) :
    lookup d (insertCell i v l) j = if j = i then v else lookup d l j := by
  induction l with
  | nil => simp [insertCell, lookup]
  | cons c t ih =>
    obtain ⟨k, w⟩ := c
    unfold insertCell
    split
    · simp [lookup]
    · split
      · subst_vars
        simp only [lookup]
        split <;> rfl
      · simp only [lookup, ih]
        split
        · subst_vars
          simp_all
          omega
        · rfl

theorem lookup_eraseCell (d : α) (i j : Nat) (l : List (Nat × α)) :
    lookup d (eraseCell i l) j = if j = i then d else lookup d l j := by
  induction l with
  | nil => simp [eraseCell, lookup]
  | cons c t ih =>
    obtain ⟨k, w⟩ := c
    unfold eraseCell at ih ⊢
    by_cases hk : k = i
    · subst hk
      simp only [List.filter_cons, bne_self_eq_false, Bool.false_eq_true, if_false, ih, lookup]
      split <;> rfl
    · simp only [List.filter_cons, bne_iff_ne, ne_eq, hk, not_false_eq_true, if_true, lookup, ih]
      split
      · subst_vars
        simp [hk]
      · rfl

/-- A read after a set. -/
theorem get_set [DecidableEq α] (t : Table α) (d v : α) (i j : Nat) :
    (t.set d i v).get d j = if j = i then v else t.get d j := by
  unfold set get
  split
  · subst_vars
    exact lookup_eraseCell _ _ _ _
  · exact lookup_insertCell _ _ _ _ _

@[simp] theorem get_set_same [DecidableEq α] (t : Table α) (d v : α) (i : Nat) : (t.set d i v).get d i = v := by
  simp [get_set]

theorem get_set_other [DecidableEq α] (t : Table α) (d v : α) {i j : Nat} (h : j ≠ i) :
    (t.set d i v).get d j = t.get d j := by
  simp [get_set, h]

@[simp] theorem get_empty (d : α) (i : Nat) : (empty : Table α).get d i = d := rfl

/-- What the default satisfies and every cell satisfies, every key's value satisfies. -/
theorem get_all {p : α → Bool} {t : Table α} {d : α} (hd : p d = true) (h : (t.cells.all fun c => p c.2) = true)
    (i : Nat) : p (t.get d i) = true := by
  obtain ⟨l⟩ := t
  show p (lookup d l i) = true
  induction l with
  | nil => exact hd
  | cons c l ih =>
    simp only [List.all_cons, Bool.and_eq_true] at h
    simp only [lookup]
    split
    · exact h.1
    · exact ih h.2

/-! ## The canonical form -/

/-- Every key of a list is above `k`. -/
theorem sorted_cons {k : Nat} {v : α} {l : List (Nat × α)} :
    sorted ((k, v) :: l) = true ↔ (∀ c ∈ l, k < c.1) ∧ sorted l = true := by
  induction l generalizing k v with
  | nil => simp [sorted]
  | cons c t ih =>
    obtain ⟨j, w⟩ := c
    simp only [sorted, Bool.and_eq_true, decide_eq_true_eq]
    constructor
    · rintro ⟨hkj, hs⟩
      refine ⟨?_, hs⟩
      intro c hc
      rcases List.mem_cons.1 hc with rfl | hc
      · exact hkj
      · exact hkj.trans ((ih.1 hs).1 c hc)
    · rintro ⟨hall, hs⟩
      exact ⟨hall _ (List.mem_cons_self ..), hs⟩

theorem mem_insertCell {i : Nat} {v : α} {l : List (Nat × α)} {c : Nat × α} (h : c ∈ insertCell i v l) :
    c = (i, v) ∨ c ∈ l := by
  induction l with
  | nil => simpa [insertCell] using h
  | cons e t ih =>
    obtain ⟨k, w⟩ := e
    unfold insertCell at h
    split at h
    · simpa using h
    · split at h
      · rcases List.mem_cons.1 h with h | h
        · exact Or.inl h
        · exact Or.inr (List.mem_cons_of_mem _ h)
      · rcases List.mem_cons.1 h with h | h
        · exact Or.inr (h ▸ List.mem_cons_self ..)
        · rcases ih h with h | h
          · exact Or.inl h
          · exact Or.inr (List.mem_cons_of_mem _ h)

theorem sorted_insertCell {i : Nat} {v : α} {l : List (Nat × α)} (h : sorted l = true) :
    sorted (insertCell i v l) = true := by
  induction l with
  | nil => rfl
  | cons c t ih =>
    obtain ⟨k, w⟩ := c
    obtain ⟨hall, hs⟩ := sorted_cons.1 h
    unfold insertCell
    split
    · rename_i hik
      refine sorted_cons.2 ⟨?_, h⟩
      intro c hc
      rcases List.mem_cons.1 hc with rfl | hc
      · exact hik
      · exact hik.trans (hall c hc)
    · split
      · rename_i hik
        exact sorted_cons.2 ⟨hik ▸ hall, hs⟩
      · rename_i h1 h2
        refine sorted_cons.2 ⟨?_, ih hs⟩
        intro c hc
        rcases mem_insertCell hc with rfl | hc
        · dsimp only
          omega
        · exact hall c hc

theorem sorted_filterMap {β : Type} {f : Nat × α → Option (Nat × β)} (hf : ∀ c e, f c = some e → e.1 = c.1)
    {l : List (Nat × α)} (h : sorted l = true) : sorted (l.filterMap f) = true := by
  induction l with
  | nil => rfl
  | cons c t ih =>
    obtain ⟨k, w⟩ := c
    obtain ⟨hall, hs⟩ := sorted_cons.1 h
    rw [List.filterMap_cons]
    split
    · exact ih hs
    · rename_i e he
      obtain ⟨j, x⟩ := e
      refine sorted_cons.2 ⟨?_, ih hs⟩
      intro c hc
      obtain ⟨a, ha, hae⟩ := List.mem_filterMap.1 hc
      have h1 := hf _ _ he
      have h2 := hf _ _ hae
      dsimp only at h1
      rw [h1, h2]
      exact hall a ha

theorem sorted_filter {p : Nat × α → Bool} {l : List (Nat × α)} (h : sorted l = true) :
    sorted (l.filter p) = true := by
  induction l with
  | nil => rfl
  | cons c t ih =>
    obtain ⟨k, w⟩ := c
    obtain ⟨hall, hs⟩ := sorted_cons.1 h
    rw [List.filter_cons]
    split
    · exact sorted_cons.2 ⟨fun c hc => hall c (List.mem_of_mem_filter hc), ih hs⟩
    · exact ih hs

theorem canonical_iff [DecidableEq α] {t : Table α} {d : α} :
    t.canonical d = true ↔ sorted t.cells = true ∧ ∀ c ∈ t.cells, c.2 ≠ d := by
  simp [canonical]

theorem canonical_empty [DecidableEq α] (d : α) : (empty : Table α).canonical d = true := rfl

/-- A set keeps the canonical form. -/
theorem canonical_set [DecidableEq α] {t : Table α} {d : α} (i : Nat) (v : α) (h : t.canonical d = true) :
    (t.set d i v).canonical d = true := by
  obtain ⟨hs, hd⟩ := canonical_iff.1 h
  unfold set
  split
  · exact canonical_iff.2 ⟨sorted_filter hs, fun c hc => hd c (List.mem_of_mem_filter hc)⟩
  · rename_i hv
    refine canonical_iff.2 ⟨sorted_insertCell hs, ?_⟩
    intro c hc
    rcases mem_insertCell hc with rfl | hc
    · exact hv
    · exact hd c hc

/-- A map keeps the canonical form. -/
theorem canonical_mapCells [DecidableEq α] {t : Table α} {d : α} (f : Nat → α → α) (h : t.canonical d = true) :
    (t.mapCells d f).canonical d = true := by
  obtain ⟨hs, hd⟩ := canonical_iff.1 h
  unfold mapCells
  refine canonical_iff.2 ⟨sorted_filterMap ?_ hs, ?_⟩
  · intro c e he
    split at he
    · cases he
    · cases he
      rfl
  · intro c hc
    obtain ⟨a, ha, hac⟩ := List.mem_filterMap.1 hc
    split at hac
    · cases hac
    · cases hac
      assumption

/-- A read after a map, for a function that keeps the default. -/
theorem get_mapCells [DecidableEq α] {t : Table α} {d : α} {f : Nat → α → α} (hf : ∀ i, f i d = d)
    (h : t.canonical d = true) (i : Nat) : (t.mapCells d f).get d i = f i (t.get d i) := by
  obtain ⟨hs, -⟩ := canonical_iff.1 h
  obtain ⟨l⟩ := t
  unfold mapCells get
  dsimp only at hs ⊢
  clear h
  induction l with
  | nil => exact (hf i).symm
  | cons c t ih =>
    obtain ⟨k, w⟩ := c
    obtain ⟨hall, hs⟩ := sorted_cons.1 hs
    have absent : ∀ l : List (Nat × α), (∀ c ∈ l, k < c.1) → lookup d l k = d := by
      intro l hl
      induction l with
      | nil => rfl
      | cons e u ihu =>
        obtain ⟨j, x⟩ := e
        have hkj := hl _ (List.mem_cons_self ..)
        dsimp only at hkj
        rw [lookup, if_neg (by omega)]
        exact ihu fun c hc => hl c (List.mem_cons_of_mem _ hc)
    rw [List.filterMap_cons]
    by_cases hfd : f k w = d
    · rw [if_pos hfd]
      dsimp only
      rw [ih hs]
      by_cases hik : i = k
      · subst hik
        rw [absent t hall, hf, lookup, if_pos rfl, hfd]
      · rw [lookup, if_neg hik]
    · rw [if_neg hfd]
      dsimp only
      by_cases hik : i = k
      · subst hik
        rw [lookup, if_pos rfl, lookup, if_pos rfl]
      · rw [lookup, if_neg hik, lookup, if_neg hik, ih hs]

end Sys2Proof.Machine.Table
end

