-- ==== Sys2Proof/Laws/State.lean ====
section
/-! SUPPORT. One lemma per field per update of the state, so that no proof unfolds a record update: what each setter, a
flag's set and a capture leave alone, and what a table's reader gives after its setter. -/

namespace Sys2Proof.Machine.State

variable (s : State)

/-! ## setWindow -/

@[simp] theorem setWindow_windows (i v) : (s.setWindow i v).windows = s.windows.set .reset i v := rfl
@[simp] theorem setWindow_activity (i v) : (s.setWindow i v).activity = s.activity := rfl
@[simp] theorem setWindow_pst (i v) : (s.setWindow i v).pst = s.pst := rfl
@[simp] theorem setWindow_pstAssigned (i v) : (s.setWindow i v).pstAssigned = s.pstAssigned := rfl
@[simp] theorem setWindow_slots (i v) : (s.setWindow i v).slots = s.slots := rfl
@[simp] theorem setWindow_nextSeq (i v) : (s.setWindow i v).nextSeq = s.nextSeq := rfl
@[simp] theorem setWindow_records (i v) : (s.setWindow i v).records = s.records := rfl
@[simp] theorem setWindow_pool (i v) : (s.setWindow i v).pool = s.pool := rfl
@[simp] theorem setWindow_wp (i v) : (s.setWindow i v).wp = s.wp := rfl
@[simp] theorem setWindow_sweep (i v) : (s.setWindow i v).sweep = s.sweep := rfl
@[simp] theorem setWindow_entries (i v) : (s.setWindow i v).entries = s.entries := rfl
@[simp] theorem setWindow_port (i v) : (s.setWindow i v).port = s.port := rfl
@[simp] theorem setWindow_channels (i v) : (s.setWindow i v).channels = s.channels := rfl
@[simp] theorem setWindow_copyTags (i v) : (s.setWindow i v).copyTags = s.copyTags := rfl
@[simp] theorem setWindow_tags (i v) : (s.setWindow i v).tags = s.tags := rfl
@[simp] theorem setWindow_mem (i v) : (s.setWindow i v).mem = s.mem := rfl
@[simp] theorem setWindow_ctl (i v) : (s.setWindow i v).ctl = s.ctl := rfl
@[simp] theorem setWindow_now (i v) : (s.setWindow i v).now = s.now := rfl
@[simp] theorem setWindow_sampler (i v) : (s.setWindow i v).sampler = s.sampler := rfl
@[simp] theorem setWindow_sched (i v) : (s.setWindow i v).sched = s.sched := rfl
@[simp] theorem setWindow_mgmt (i v) : (s.setWindow i v).mgmt = s.mgmt := rfl
@[simp] theorem setWindow_spi (i v) : (s.setWindow i v).spi = s.spi := rfl
@[simp] theorem setWindow_pending (i v) : (s.setWindow i v).pending = s.pending := rfl
@[simp] theorem setWindow_window (i v j) : (s.setWindow i v).window j = if j = i then v else s.window j :=
  Table.get_set _ _ _ _ _
@[simp] theorem setWindow_act (i v j) : (s.setWindow i v).act j = s.act j := rfl
@[simp] theorem setWindow_page (i v j) : (s.setWindow i v).page j = s.page j := rfl
@[simp] theorem setWindow_slot (i v j) : (s.setWindow i v).slot j = s.slot j := rfl
@[simp] theorem setWindow_record (i v j) : (s.setWindow i v).record j = s.record j := rfl
@[simp] theorem setWindow_entry (i v j) : (s.setWindow i v).entry j = s.entry j := rfl
@[simp] theorem setWindow_chan (i v j) : (s.setWindow i v).chan j = s.chan j := rfl
@[simp] theorem setWindow_copyTag (i v j) : (s.setWindow i v).copyTag j = s.copyTag j := rfl
@[simp] theorem setWindow_tag (i v j) : (s.setWindow i v).tag j = s.tag j := rfl

/-! ## setAct -/

@[simp] theorem setAct_windows (i v) : (s.setAct i v).windows = s.windows := rfl
@[simp] theorem setAct_activity (i v) : (s.setAct i v).activity = s.activity.set .zero i v := rfl
@[simp] theorem setAct_pst (i v) : (s.setAct i v).pst = s.pst := rfl
@[simp] theorem setAct_pstAssigned (i v) : (s.setAct i v).pstAssigned = s.pstAssigned := rfl
@[simp] theorem setAct_slots (i v) : (s.setAct i v).slots = s.slots := rfl
@[simp] theorem setAct_nextSeq (i v) : (s.setAct i v).nextSeq = s.nextSeq := rfl
@[simp] theorem setAct_records (i v) : (s.setAct i v).records = s.records := rfl
@[simp] theorem setAct_pool (i v) : (s.setAct i v).pool = s.pool := rfl
@[simp] theorem setAct_wp (i v) : (s.setAct i v).wp = s.wp := rfl
@[simp] theorem setAct_sweep (i v) : (s.setAct i v).sweep = s.sweep := rfl
@[simp] theorem setAct_entries (i v) : (s.setAct i v).entries = s.entries := rfl
@[simp] theorem setAct_port (i v) : (s.setAct i v).port = s.port := rfl
@[simp] theorem setAct_channels (i v) : (s.setAct i v).channels = s.channels := rfl
@[simp] theorem setAct_copyTags (i v) : (s.setAct i v).copyTags = s.copyTags := rfl
@[simp] theorem setAct_tags (i v) : (s.setAct i v).tags = s.tags := rfl
@[simp] theorem setAct_mem (i v) : (s.setAct i v).mem = s.mem := rfl
@[simp] theorem setAct_ctl (i v) : (s.setAct i v).ctl = s.ctl := rfl
@[simp] theorem setAct_now (i v) : (s.setAct i v).now = s.now := rfl
@[simp] theorem setAct_sampler (i v) : (s.setAct i v).sampler = s.sampler := rfl
@[simp] theorem setAct_sched (i v) : (s.setAct i v).sched = s.sched := rfl
@[simp] theorem setAct_mgmt (i v) : (s.setAct i v).mgmt = s.mgmt := rfl
@[simp] theorem setAct_spi (i v) : (s.setAct i v).spi = s.spi := rfl
@[simp] theorem setAct_pending (i v) : (s.setAct i v).pending = s.pending := rfl
@[simp] theorem setAct_window (i v j) : (s.setAct i v).window j = s.window j := rfl
@[simp] theorem setAct_act (i v j) : (s.setAct i v).act j = if j = i then v else s.act j :=
  Table.get_set _ _ _ _ _
@[simp] theorem setAct_page (i v j) : (s.setAct i v).page j = s.page j := rfl
@[simp] theorem setAct_slot (i v j) : (s.setAct i v).slot j = s.slot j := rfl
@[simp] theorem setAct_record (i v j) : (s.setAct i v).record j = s.record j := rfl
@[simp] theorem setAct_entry (i v j) : (s.setAct i v).entry j = s.entry j := rfl
@[simp] theorem setAct_chan (i v j) : (s.setAct i v).chan j = s.chan j := rfl
@[simp] theorem setAct_copyTag (i v j) : (s.setAct i v).copyTag j = s.copyTag j := rfl
@[simp] theorem setAct_tag (i v j) : (s.setAct i v).tag j = s.tag j := rfl

/-! ## setPage -/

@[simp] theorem setPage_windows (i v) : (s.setPage i v).windows = s.windows := rfl
@[simp] theorem setPage_activity (i v) : (s.setPage i v).activity = s.activity := rfl
@[simp] theorem setPage_pst (i v) : (s.setPage i v).pst = s.pst.set .clear i v := rfl
@[simp] theorem setPage_pstAssigned (i v) : (s.setPage i v).pstAssigned = s.pstAssigned := rfl
@[simp] theorem setPage_slots (i v) : (s.setPage i v).slots = s.slots := rfl
@[simp] theorem setPage_nextSeq (i v) : (s.setPage i v).nextSeq = s.nextSeq := rfl
@[simp] theorem setPage_records (i v) : (s.setPage i v).records = s.records := rfl
@[simp] theorem setPage_pool (i v) : (s.setPage i v).pool = s.pool := rfl
@[simp] theorem setPage_wp (i v) : (s.setPage i v).wp = s.wp := rfl
@[simp] theorem setPage_sweep (i v) : (s.setPage i v).sweep = s.sweep := rfl
@[simp] theorem setPage_entries (i v) : (s.setPage i v).entries = s.entries := rfl
@[simp] theorem setPage_port (i v) : (s.setPage i v).port = s.port := rfl
@[simp] theorem setPage_channels (i v) : (s.setPage i v).channels = s.channels := rfl
@[simp] theorem setPage_copyTags (i v) : (s.setPage i v).copyTags = s.copyTags := rfl
@[simp] theorem setPage_tags (i v) : (s.setPage i v).tags = s.tags := rfl
@[simp] theorem setPage_mem (i v) : (s.setPage i v).mem = s.mem := rfl
@[simp] theorem setPage_ctl (i v) : (s.setPage i v).ctl = s.ctl := rfl
@[simp] theorem setPage_now (i v) : (s.setPage i v).now = s.now := rfl
@[simp] theorem setPage_sampler (i v) : (s.setPage i v).sampler = s.sampler := rfl
@[simp] theorem setPage_sched (i v) : (s.setPage i v).sched = s.sched := rfl
@[simp] theorem setPage_mgmt (i v) : (s.setPage i v).mgmt = s.mgmt := rfl
@[simp] theorem setPage_spi (i v) : (s.setPage i v).spi = s.spi := rfl
@[simp] theorem setPage_pending (i v) : (s.setPage i v).pending = s.pending := rfl
@[simp] theorem setPage_window (i v j) : (s.setPage i v).window j = s.window j := rfl
@[simp] theorem setPage_act (i v j) : (s.setPage i v).act j = s.act j := rfl
@[simp] theorem setPage_page (i v j) : (s.setPage i v).page j = if j = i then v else s.page j :=
  Table.get_set _ _ _ _ _
@[simp] theorem setPage_slot (i v j) : (s.setPage i v).slot j = s.slot j := rfl
@[simp] theorem setPage_record (i v j) : (s.setPage i v).record j = s.record j := rfl
@[simp] theorem setPage_entry (i v j) : (s.setPage i v).entry j = s.entry j := rfl
@[simp] theorem setPage_chan (i v j) : (s.setPage i v).chan j = s.chan j := rfl
@[simp] theorem setPage_copyTag (i v j) : (s.setPage i v).copyTag j = s.copyTag j := rfl
@[simp] theorem setPage_tag (i v j) : (s.setPage i v).tag j = s.tag j := rfl

/-! ## setSlot -/

@[simp] theorem setSlot_windows (i v) : (s.setSlot i v).windows = s.windows := rfl
@[simp] theorem setSlot_activity (i v) : (s.setSlot i v).activity = s.activity := rfl
@[simp] theorem setSlot_pst (i v) : (s.setSlot i v).pst = s.pst := rfl
@[simp] theorem setSlot_pstAssigned (i v) : (s.setSlot i v).pstAssigned = s.pstAssigned := rfl
@[simp] theorem setSlot_slots (i v) : (s.setSlot i v).slots = s.slots.set .freed i v := rfl
@[simp] theorem setSlot_nextSeq (i v) : (s.setSlot i v).nextSeq = s.nextSeq := rfl
@[simp] theorem setSlot_records (i v) : (s.setSlot i v).records = s.records := rfl
@[simp] theorem setSlot_pool (i v) : (s.setSlot i v).pool = s.pool := rfl
@[simp] theorem setSlot_wp (i v) : (s.setSlot i v).wp = s.wp := rfl
@[simp] theorem setSlot_sweep (i v) : (s.setSlot i v).sweep = s.sweep := rfl
@[simp] theorem setSlot_entries (i v) : (s.setSlot i v).entries = s.entries := rfl
@[simp] theorem setSlot_port (i v) : (s.setSlot i v).port = s.port := rfl
@[simp] theorem setSlot_channels (i v) : (s.setSlot i v).channels = s.channels := rfl
@[simp] theorem setSlot_copyTags (i v) : (s.setSlot i v).copyTags = s.copyTags := rfl
@[simp] theorem setSlot_tags (i v) : (s.setSlot i v).tags = s.tags := rfl
@[simp] theorem setSlot_mem (i v) : (s.setSlot i v).mem = s.mem := rfl
@[simp] theorem setSlot_ctl (i v) : (s.setSlot i v).ctl = s.ctl := rfl
@[simp] theorem setSlot_now (i v) : (s.setSlot i v).now = s.now := rfl
@[simp] theorem setSlot_sampler (i v) : (s.setSlot i v).sampler = s.sampler := rfl
@[simp] theorem setSlot_sched (i v) : (s.setSlot i v).sched = s.sched := rfl
@[simp] theorem setSlot_mgmt (i v) : (s.setSlot i v).mgmt = s.mgmt := rfl
@[simp] theorem setSlot_spi (i v) : (s.setSlot i v).spi = s.spi := rfl
@[simp] theorem setSlot_pending (i v) : (s.setSlot i v).pending = s.pending := rfl
@[simp] theorem setSlot_window (i v j) : (s.setSlot i v).window j = s.window j := rfl
@[simp] theorem setSlot_act (i v j) : (s.setSlot i v).act j = s.act j := rfl
@[simp] theorem setSlot_page (i v j) : (s.setSlot i v).page j = s.page j := rfl
@[simp] theorem setSlot_slot (i v j) : (s.setSlot i v).slot j = if j = i then v else s.slot j :=
  Table.get_set _ _ _ _ _
@[simp] theorem setSlot_record (i v j) : (s.setSlot i v).record j = s.record j := rfl
@[simp] theorem setSlot_entry (i v j) : (s.setSlot i v).entry j = s.entry j := rfl
@[simp] theorem setSlot_chan (i v j) : (s.setSlot i v).chan j = s.chan j := rfl
@[simp] theorem setSlot_copyTag (i v j) : (s.setSlot i v).copyTag j = s.copyTag j := rfl
@[simp] theorem setSlot_tag (i v j) : (s.setSlot i v).tag j = s.tag j := rfl

/-! ## setRec -/

@[simp] theorem setRec_windows (i v) : (s.setRec i v).windows = s.windows := rfl
@[simp] theorem setRec_activity (i v) : (s.setRec i v).activity = s.activity := rfl
@[simp] theorem setRec_pst (i v) : (s.setRec i v).pst = s.pst := rfl
@[simp] theorem setRec_pstAssigned (i v) : (s.setRec i v).pstAssigned = s.pstAssigned := rfl
@[simp] theorem setRec_slots (i v) : (s.setRec i v).slots = s.slots := rfl
@[simp] theorem setRec_nextSeq (i v) : (s.setRec i v).nextSeq = s.nextSeq := rfl
@[simp] theorem setRec_records (i v) : (s.setRec i v).records = s.records.set .freed i v := rfl
@[simp] theorem setRec_pool (i v) : (s.setRec i v).pool = s.pool := rfl
@[simp] theorem setRec_wp (i v) : (s.setRec i v).wp = s.wp := rfl
@[simp] theorem setRec_sweep (i v) : (s.setRec i v).sweep = s.sweep := rfl
@[simp] theorem setRec_entries (i v) : (s.setRec i v).entries = s.entries := rfl
@[simp] theorem setRec_port (i v) : (s.setRec i v).port = s.port := rfl
@[simp] theorem setRec_channels (i v) : (s.setRec i v).channels = s.channels := rfl
@[simp] theorem setRec_copyTags (i v) : (s.setRec i v).copyTags = s.copyTags := rfl
@[simp] theorem setRec_tags (i v) : (s.setRec i v).tags = s.tags := rfl
@[simp] theorem setRec_mem (i v) : (s.setRec i v).mem = s.mem := rfl
@[simp] theorem setRec_ctl (i v) : (s.setRec i v).ctl = s.ctl := rfl
@[simp] theorem setRec_now (i v) : (s.setRec i v).now = s.now := rfl
@[simp] theorem setRec_sampler (i v) : (s.setRec i v).sampler = s.sampler := rfl
@[simp] theorem setRec_sched (i v) : (s.setRec i v).sched = s.sched := rfl
@[simp] theorem setRec_mgmt (i v) : (s.setRec i v).mgmt = s.mgmt := rfl
@[simp] theorem setRec_spi (i v) : (s.setRec i v).spi = s.spi := rfl
@[simp] theorem setRec_pending (i v) : (s.setRec i v).pending = s.pending := rfl
@[simp] theorem setRec_window (i v j) : (s.setRec i v).window j = s.window j := rfl
@[simp] theorem setRec_act (i v j) : (s.setRec i v).act j = s.act j := rfl
@[simp] theorem setRec_page (i v j) : (s.setRec i v).page j = s.page j := rfl
@[simp] theorem setRec_slot (i v j) : (s.setRec i v).slot j = s.slot j := rfl
@[simp] theorem setRec_record (i v j) : (s.setRec i v).record j = if j = i then v else s.record j :=
  Table.get_set _ _ _ _ _
@[simp] theorem setRec_entry (i v j) : (s.setRec i v).entry j = s.entry j := rfl
@[simp] theorem setRec_chan (i v j) : (s.setRec i v).chan j = s.chan j := rfl
@[simp] theorem setRec_copyTag (i v j) : (s.setRec i v).copyTag j = s.copyTag j := rfl
@[simp] theorem setRec_tag (i v j) : (s.setRec i v).tag j = s.tag j := rfl

/-! ## setEntry -/

@[simp] theorem setEntry_windows (i v) : (s.setEntry i v).windows = s.windows := rfl
@[simp] theorem setEntry_activity (i v) : (s.setEntry i v).activity = s.activity := rfl
@[simp] theorem setEntry_pst (i v) : (s.setEntry i v).pst = s.pst := rfl
@[simp] theorem setEntry_pstAssigned (i v) : (s.setEntry i v).pstAssigned = s.pstAssigned := rfl
@[simp] theorem setEntry_slots (i v) : (s.setEntry i v).slots = s.slots := rfl
@[simp] theorem setEntry_nextSeq (i v) : (s.setEntry i v).nextSeq = s.nextSeq := rfl
@[simp] theorem setEntry_records (i v) : (s.setEntry i v).records = s.records := rfl
@[simp] theorem setEntry_pool (i v) : (s.setEntry i v).pool = s.pool := rfl
@[simp] theorem setEntry_wp (i v) : (s.setEntry i v).wp = s.wp := rfl
@[simp] theorem setEntry_sweep (i v) : (s.setEntry i v).sweep = s.sweep := rfl
@[simp] theorem setEntry_entries (i v) : (s.setEntry i v).entries = s.entries.set .freed i v := rfl
@[simp] theorem setEntry_port (i v) : (s.setEntry i v).port = s.port := rfl
@[simp] theorem setEntry_channels (i v) : (s.setEntry i v).channels = s.channels := rfl
@[simp] theorem setEntry_copyTags (i v) : (s.setEntry i v).copyTags = s.copyTags := rfl
@[simp] theorem setEntry_tags (i v) : (s.setEntry i v).tags = s.tags := rfl
@[simp] theorem setEntry_mem (i v) : (s.setEntry i v).mem = s.mem := rfl
@[simp] theorem setEntry_ctl (i v) : (s.setEntry i v).ctl = s.ctl := rfl
@[simp] theorem setEntry_now (i v) : (s.setEntry i v).now = s.now := rfl
@[simp] theorem setEntry_sampler (i v) : (s.setEntry i v).sampler = s.sampler := rfl
@[simp] theorem setEntry_sched (i v) : (s.setEntry i v).sched = s.sched := rfl
@[simp] theorem setEntry_mgmt (i v) : (s.setEntry i v).mgmt = s.mgmt := rfl
@[simp] theorem setEntry_spi (i v) : (s.setEntry i v).spi = s.spi := rfl
@[simp] theorem setEntry_pending (i v) : (s.setEntry i v).pending = s.pending := rfl
@[simp] theorem setEntry_window (i v j) : (s.setEntry i v).window j = s.window j := rfl
@[simp] theorem setEntry_act (i v j) : (s.setEntry i v).act j = s.act j := rfl
@[simp] theorem setEntry_page (i v j) : (s.setEntry i v).page j = s.page j := rfl
@[simp] theorem setEntry_slot (i v j) : (s.setEntry i v).slot j = s.slot j := rfl
@[simp] theorem setEntry_record (i v j) : (s.setEntry i v).record j = s.record j := rfl
@[simp] theorem setEntry_entry (i v j) : (s.setEntry i v).entry j = if j = i then v else s.entry j :=
  Table.get_set _ _ _ _ _
@[simp] theorem setEntry_chan (i v j) : (s.setEntry i v).chan j = s.chan j := rfl
@[simp] theorem setEntry_copyTag (i v j) : (s.setEntry i v).copyTag j = s.copyTag j := rfl
@[simp] theorem setEntry_tag (i v j) : (s.setEntry i v).tag j = s.tag j := rfl

/-! ## setChan -/

@[simp] theorem setChan_windows (i v) : (s.setChan i v).windows = s.windows := rfl
@[simp] theorem setChan_activity (i v) : (s.setChan i v).activity = s.activity := rfl
@[simp] theorem setChan_pst (i v) : (s.setChan i v).pst = s.pst := rfl
@[simp] theorem setChan_pstAssigned (i v) : (s.setChan i v).pstAssigned = s.pstAssigned := rfl
@[simp] theorem setChan_slots (i v) : (s.setChan i v).slots = s.slots := rfl
@[simp] theorem setChan_nextSeq (i v) : (s.setChan i v).nextSeq = s.nextSeq := rfl
@[simp] theorem setChan_records (i v) : (s.setChan i v).records = s.records := rfl
@[simp] theorem setChan_pool (i v) : (s.setChan i v).pool = s.pool := rfl
@[simp] theorem setChan_wp (i v) : (s.setChan i v).wp = s.wp := rfl
@[simp] theorem setChan_sweep (i v) : (s.setChan i v).sweep = s.sweep := rfl
@[simp] theorem setChan_entries (i v) : (s.setChan i v).entries = s.entries := rfl
@[simp] theorem setChan_port (i v) : (s.setChan i v).port = s.port := rfl
@[simp] theorem setChan_channels (i v) : (s.setChan i v).channels = s.channels.set .reset i v := rfl
@[simp] theorem setChan_copyTags (i v) : (s.setChan i v).copyTags = s.copyTags := rfl
@[simp] theorem setChan_tags (i v) : (s.setChan i v).tags = s.tags := rfl
@[simp] theorem setChan_mem (i v) : (s.setChan i v).mem = s.mem := rfl
@[simp] theorem setChan_ctl (i v) : (s.setChan i v).ctl = s.ctl := rfl
@[simp] theorem setChan_now (i v) : (s.setChan i v).now = s.now := rfl
@[simp] theorem setChan_sampler (i v) : (s.setChan i v).sampler = s.sampler := rfl
@[simp] theorem setChan_sched (i v) : (s.setChan i v).sched = s.sched := rfl
@[simp] theorem setChan_mgmt (i v) : (s.setChan i v).mgmt = s.mgmt := rfl
@[simp] theorem setChan_spi (i v) : (s.setChan i v).spi = s.spi := rfl
@[simp] theorem setChan_pending (i v) : (s.setChan i v).pending = s.pending := rfl
@[simp] theorem setChan_window (i v j) : (s.setChan i v).window j = s.window j := rfl
@[simp] theorem setChan_act (i v j) : (s.setChan i v).act j = s.act j := rfl
@[simp] theorem setChan_page (i v j) : (s.setChan i v).page j = s.page j := rfl
@[simp] theorem setChan_slot (i v j) : (s.setChan i v).slot j = s.slot j := rfl
@[simp] theorem setChan_record (i v j) : (s.setChan i v).record j = s.record j := rfl
@[simp] theorem setChan_entry (i v j) : (s.setChan i v).entry j = s.entry j := rfl
@[simp] theorem setChan_chan (i v j) : (s.setChan i v).chan j = if j = i then v else s.chan j :=
  Table.get_set _ _ _ _ _
@[simp] theorem setChan_copyTag (i v j) : (s.setChan i v).copyTag j = s.copyTag j := rfl
@[simp] theorem setChan_tag (i v j) : (s.setChan i v).tag j = s.tag j := rfl

/-! ## setCopyTag -/

@[simp] theorem setCopyTag_windows (i v) : (s.setCopyTag i v).windows = s.windows := rfl
@[simp] theorem setCopyTag_activity (i v) : (s.setCopyTag i v).activity = s.activity := rfl
@[simp] theorem setCopyTag_pst (i v) : (s.setCopyTag i v).pst = s.pst := rfl
@[simp] theorem setCopyTag_pstAssigned (i v) : (s.setCopyTag i v).pstAssigned = s.pstAssigned := rfl
@[simp] theorem setCopyTag_slots (i v) : (s.setCopyTag i v).slots = s.slots := rfl
@[simp] theorem setCopyTag_nextSeq (i v) : (s.setCopyTag i v).nextSeq = s.nextSeq := rfl
@[simp] theorem setCopyTag_records (i v) : (s.setCopyTag i v).records = s.records := rfl
@[simp] theorem setCopyTag_pool (i v) : (s.setCopyTag i v).pool = s.pool := rfl
@[simp] theorem setCopyTag_wp (i v) : (s.setCopyTag i v).wp = s.wp := rfl
@[simp] theorem setCopyTag_sweep (i v) : (s.setCopyTag i v).sweep = s.sweep := rfl
@[simp] theorem setCopyTag_entries (i v) : (s.setCopyTag i v).entries = s.entries := rfl
@[simp] theorem setCopyTag_port (i v) : (s.setCopyTag i v).port = s.port := rfl
@[simp] theorem setCopyTag_channels (i v) : (s.setCopyTag i v).channels = s.channels := rfl
@[simp] theorem setCopyTag_copyTags (i v) : (s.setCopyTag i v).copyTags = s.copyTags.set .reset i v := rfl
@[simp] theorem setCopyTag_tags (i v) : (s.setCopyTag i v).tags = s.tags := rfl
@[simp] theorem setCopyTag_mem (i v) : (s.setCopyTag i v).mem = s.mem := rfl
@[simp] theorem setCopyTag_ctl (i v) : (s.setCopyTag i v).ctl = s.ctl := rfl
@[simp] theorem setCopyTag_now (i v) : (s.setCopyTag i v).now = s.now := rfl
@[simp] theorem setCopyTag_sampler (i v) : (s.setCopyTag i v).sampler = s.sampler := rfl
@[simp] theorem setCopyTag_sched (i v) : (s.setCopyTag i v).sched = s.sched := rfl
@[simp] theorem setCopyTag_mgmt (i v) : (s.setCopyTag i v).mgmt = s.mgmt := rfl
@[simp] theorem setCopyTag_spi (i v) : (s.setCopyTag i v).spi = s.spi := rfl
@[simp] theorem setCopyTag_pending (i v) : (s.setCopyTag i v).pending = s.pending := rfl
@[simp] theorem setCopyTag_window (i v j) : (s.setCopyTag i v).window j = s.window j := rfl
@[simp] theorem setCopyTag_act (i v j) : (s.setCopyTag i v).act j = s.act j := rfl
@[simp] theorem setCopyTag_page (i v j) : (s.setCopyTag i v).page j = s.page j := rfl
@[simp] theorem setCopyTag_slot (i v j) : (s.setCopyTag i v).slot j = s.slot j := rfl
@[simp] theorem setCopyTag_record (i v j) : (s.setCopyTag i v).record j = s.record j := rfl
@[simp] theorem setCopyTag_entry (i v j) : (s.setCopyTag i v).entry j = s.entry j := rfl
@[simp] theorem setCopyTag_chan (i v j) : (s.setCopyTag i v).chan j = s.chan j := rfl
@[simp] theorem setCopyTag_copyTag (i v j) : (s.setCopyTag i v).copyTag j = if j = i then v else s.copyTag j :=
  Table.get_set _ _ _ _ _
@[simp] theorem setCopyTag_tag (i v j) : (s.setCopyTag i v).tag j = s.tag j := rfl

/-! ## setTag -/

@[simp] theorem setTag_windows (i v) : (s.setTag i v).windows = s.windows := rfl
@[simp] theorem setTag_activity (i v) : (s.setTag i v).activity = s.activity := rfl
@[simp] theorem setTag_pst (i v) : (s.setTag i v).pst = s.pst := rfl
@[simp] theorem setTag_pstAssigned (i v) : (s.setTag i v).pstAssigned = s.pstAssigned := rfl
@[simp] theorem setTag_slots (i v) : (s.setTag i v).slots = s.slots := rfl
@[simp] theorem setTag_nextSeq (i v) : (s.setTag i v).nextSeq = s.nextSeq := rfl
@[simp] theorem setTag_records (i v) : (s.setTag i v).records = s.records := rfl
@[simp] theorem setTag_pool (i v) : (s.setTag i v).pool = s.pool := rfl
@[simp] theorem setTag_wp (i v) : (s.setTag i v).wp = s.wp := rfl
@[simp] theorem setTag_sweep (i v) : (s.setTag i v).sweep = s.sweep := rfl
@[simp] theorem setTag_entries (i v) : (s.setTag i v).entries = s.entries := rfl
@[simp] theorem setTag_port (i v) : (s.setTag i v).port = s.port := rfl
@[simp] theorem setTag_channels (i v) : (s.setTag i v).channels = s.channels := rfl
@[simp] theorem setTag_copyTags (i v) : (s.setTag i v).copyTags = s.copyTags := rfl
@[simp] theorem setTag_tags (i v) : (s.setTag i v).tags = s.tags.set .idle i v := rfl
@[simp] theorem setTag_mem (i v) : (s.setTag i v).mem = s.mem := rfl
@[simp] theorem setTag_ctl (i v) : (s.setTag i v).ctl = s.ctl := rfl
@[simp] theorem setTag_now (i v) : (s.setTag i v).now = s.now := rfl
@[simp] theorem setTag_sampler (i v) : (s.setTag i v).sampler = s.sampler := rfl
@[simp] theorem setTag_sched (i v) : (s.setTag i v).sched = s.sched := rfl
@[simp] theorem setTag_mgmt (i v) : (s.setTag i v).mgmt = s.mgmt := rfl
@[simp] theorem setTag_spi (i v) : (s.setTag i v).spi = s.spi := rfl
@[simp] theorem setTag_pending (i v) : (s.setTag i v).pending = s.pending := rfl
@[simp] theorem setTag_window (i v j) : (s.setTag i v).window j = s.window j := rfl
@[simp] theorem setTag_act (i v j) : (s.setTag i v).act j = s.act j := rfl
@[simp] theorem setTag_page (i v j) : (s.setTag i v).page j = s.page j := rfl
@[simp] theorem setTag_slot (i v j) : (s.setTag i v).slot j = s.slot j := rfl
@[simp] theorem setTag_record (i v j) : (s.setTag i v).record j = s.record j := rfl
@[simp] theorem setTag_entry (i v j) : (s.setTag i v).entry j = s.entry j := rfl
@[simp] theorem setTag_chan (i v j) : (s.setTag i v).chan j = s.chan j := rfl
@[simp] theorem setTag_copyTag (i v j) : (s.setTag i v).copyTag j = s.copyTag j := rfl
@[simp] theorem setTag_tag (i v j) : (s.setTag i v).tag j = if j = i then v else s.tag j :=
  Table.get_set _ _ _ _ _

/-! ## setPool -/

@[simp] theorem setPool_windows (v) : (s.setPool v).windows = s.windows := rfl
@[simp] theorem setPool_activity (v) : (s.setPool v).activity = s.activity := rfl
@[simp] theorem setPool_pst (v) : (s.setPool v).pst = s.pst := rfl
@[simp] theorem setPool_pstAssigned (v) : (s.setPool v).pstAssigned = s.pstAssigned := rfl
@[simp] theorem setPool_slots (v) : (s.setPool v).slots = s.slots := rfl
@[simp] theorem setPool_nextSeq (v) : (s.setPool v).nextSeq = s.nextSeq := rfl
@[simp] theorem setPool_records (v) : (s.setPool v).records = s.records := rfl
@[simp] theorem setPool_pool (v) : (s.setPool v).pool = v := rfl
@[simp] theorem setPool_wp (v) : (s.setPool v).wp = s.wp := rfl
@[simp] theorem setPool_sweep (v) : (s.setPool v).sweep = s.sweep := rfl
@[simp] theorem setPool_entries (v) : (s.setPool v).entries = s.entries := rfl
@[simp] theorem setPool_port (v) : (s.setPool v).port = s.port := rfl
@[simp] theorem setPool_channels (v) : (s.setPool v).channels = s.channels := rfl
@[simp] theorem setPool_copyTags (v) : (s.setPool v).copyTags = s.copyTags := rfl
@[simp] theorem setPool_tags (v) : (s.setPool v).tags = s.tags := rfl
@[simp] theorem setPool_mem (v) : (s.setPool v).mem = s.mem := rfl
@[simp] theorem setPool_ctl (v) : (s.setPool v).ctl = s.ctl := rfl
@[simp] theorem setPool_now (v) : (s.setPool v).now = s.now := rfl
@[simp] theorem setPool_sampler (v) : (s.setPool v).sampler = s.sampler := rfl
@[simp] theorem setPool_sched (v) : (s.setPool v).sched = s.sched := rfl
@[simp] theorem setPool_mgmt (v) : (s.setPool v).mgmt = s.mgmt := rfl
@[simp] theorem setPool_spi (v) : (s.setPool v).spi = s.spi := rfl
@[simp] theorem setPool_pending (v) : (s.setPool v).pending = s.pending := rfl
@[simp] theorem setPool_window (v j) : (s.setPool v).window j = s.window j := rfl
@[simp] theorem setPool_act (v j) : (s.setPool v).act j = s.act j := rfl
@[simp] theorem setPool_page (v j) : (s.setPool v).page j = s.page j := rfl
@[simp] theorem setPool_slot (v j) : (s.setPool v).slot j = s.slot j := rfl
@[simp] theorem setPool_record (v j) : (s.setPool v).record j = s.record j := rfl
@[simp] theorem setPool_entry (v j) : (s.setPool v).entry j = s.entry j := rfl
@[simp] theorem setPool_chan (v j) : (s.setPool v).chan j = s.chan j := rfl
@[simp] theorem setPool_copyTag (v j) : (s.setPool v).copyTag j = s.copyTag j := rfl
@[simp] theorem setPool_tag (v j) : (s.setPool v).tag j = s.tag j := rfl

/-! ## setWp -/

@[simp] theorem setWp_windows (v) : (s.setWp v).windows = s.windows := rfl
@[simp] theorem setWp_activity (v) : (s.setWp v).activity = s.activity := rfl
@[simp] theorem setWp_pst (v) : (s.setWp v).pst = s.pst := rfl
@[simp] theorem setWp_pstAssigned (v) : (s.setWp v).pstAssigned = s.pstAssigned := rfl
@[simp] theorem setWp_slots (v) : (s.setWp v).slots = s.slots := rfl
@[simp] theorem setWp_nextSeq (v) : (s.setWp v).nextSeq = s.nextSeq := rfl
@[simp] theorem setWp_records (v) : (s.setWp v).records = s.records := rfl
@[simp] theorem setWp_pool (v) : (s.setWp v).pool = s.pool := rfl
@[simp] theorem setWp_wp (v) : (s.setWp v).wp = v := rfl
@[simp] theorem setWp_sweep (v) : (s.setWp v).sweep = s.sweep := rfl
@[simp] theorem setWp_entries (v) : (s.setWp v).entries = s.entries := rfl
@[simp] theorem setWp_port (v) : (s.setWp v).port = s.port := rfl
@[simp] theorem setWp_channels (v) : (s.setWp v).channels = s.channels := rfl
@[simp] theorem setWp_copyTags (v) : (s.setWp v).copyTags = s.copyTags := rfl
@[simp] theorem setWp_tags (v) : (s.setWp v).tags = s.tags := rfl
@[simp] theorem setWp_mem (v) : (s.setWp v).mem = s.mem := rfl
@[simp] theorem setWp_ctl (v) : (s.setWp v).ctl = s.ctl := rfl
@[simp] theorem setWp_now (v) : (s.setWp v).now = s.now := rfl
@[simp] theorem setWp_sampler (v) : (s.setWp v).sampler = s.sampler := rfl
@[simp] theorem setWp_sched (v) : (s.setWp v).sched = s.sched := rfl
@[simp] theorem setWp_mgmt (v) : (s.setWp v).mgmt = s.mgmt := rfl
@[simp] theorem setWp_spi (v) : (s.setWp v).spi = s.spi := rfl
@[simp] theorem setWp_pending (v) : (s.setWp v).pending = s.pending := rfl
@[simp] theorem setWp_window (v j) : (s.setWp v).window j = s.window j := rfl
@[simp] theorem setWp_act (v j) : (s.setWp v).act j = s.act j := rfl
@[simp] theorem setWp_page (v j) : (s.setWp v).page j = s.page j := rfl
@[simp] theorem setWp_slot (v j) : (s.setWp v).slot j = s.slot j := rfl
@[simp] theorem setWp_record (v j) : (s.setWp v).record j = s.record j := rfl
@[simp] theorem setWp_entry (v j) : (s.setWp v).entry j = s.entry j := rfl
@[simp] theorem setWp_chan (v j) : (s.setWp v).chan j = s.chan j := rfl
@[simp] theorem setWp_copyTag (v j) : (s.setWp v).copyTag j = s.copyTag j := rfl
@[simp] theorem setWp_tag (v j) : (s.setWp v).tag j = s.tag j := rfl

/-! ## setSweep -/

@[simp] theorem setSweep_windows (v) : (s.setSweep v).windows = s.windows := rfl
@[simp] theorem setSweep_activity (v) : (s.setSweep v).activity = s.activity := rfl
@[simp] theorem setSweep_pst (v) : (s.setSweep v).pst = s.pst := rfl
@[simp] theorem setSweep_pstAssigned (v) : (s.setSweep v).pstAssigned = s.pstAssigned := rfl
@[simp] theorem setSweep_slots (v) : (s.setSweep v).slots = s.slots := rfl
@[simp] theorem setSweep_nextSeq (v) : (s.setSweep v).nextSeq = s.nextSeq := rfl
@[simp] theorem setSweep_records (v) : (s.setSweep v).records = s.records := rfl
@[simp] theorem setSweep_pool (v) : (s.setSweep v).pool = s.pool := rfl
@[simp] theorem setSweep_wp (v) : (s.setSweep v).wp = s.wp := rfl
@[simp] theorem setSweep_sweep (v) : (s.setSweep v).sweep = v := rfl
@[simp] theorem setSweep_entries (v) : (s.setSweep v).entries = s.entries := rfl
@[simp] theorem setSweep_port (v) : (s.setSweep v).port = s.port := rfl
@[simp] theorem setSweep_channels (v) : (s.setSweep v).channels = s.channels := rfl
@[simp] theorem setSweep_copyTags (v) : (s.setSweep v).copyTags = s.copyTags := rfl
@[simp] theorem setSweep_tags (v) : (s.setSweep v).tags = s.tags := rfl
@[simp] theorem setSweep_mem (v) : (s.setSweep v).mem = s.mem := rfl
@[simp] theorem setSweep_ctl (v) : (s.setSweep v).ctl = s.ctl := rfl
@[simp] theorem setSweep_now (v) : (s.setSweep v).now = s.now := rfl
@[simp] theorem setSweep_sampler (v) : (s.setSweep v).sampler = s.sampler := rfl
@[simp] theorem setSweep_sched (v) : (s.setSweep v).sched = s.sched := rfl
@[simp] theorem setSweep_mgmt (v) : (s.setSweep v).mgmt = s.mgmt := rfl
@[simp] theorem setSweep_spi (v) : (s.setSweep v).spi = s.spi := rfl
@[simp] theorem setSweep_pending (v) : (s.setSweep v).pending = s.pending := rfl
@[simp] theorem setSweep_window (v j) : (s.setSweep v).window j = s.window j := rfl
@[simp] theorem setSweep_act (v j) : (s.setSweep v).act j = s.act j := rfl
@[simp] theorem setSweep_page (v j) : (s.setSweep v).page j = s.page j := rfl
@[simp] theorem setSweep_slot (v j) : (s.setSweep v).slot j = s.slot j := rfl
@[simp] theorem setSweep_record (v j) : (s.setSweep v).record j = s.record j := rfl
@[simp] theorem setSweep_entry (v j) : (s.setSweep v).entry j = s.entry j := rfl
@[simp] theorem setSweep_chan (v j) : (s.setSweep v).chan j = s.chan j := rfl
@[simp] theorem setSweep_copyTag (v j) : (s.setSweep v).copyTag j = s.copyTag j := rfl
@[simp] theorem setSweep_tag (v j) : (s.setSweep v).tag j = s.tag j := rfl

/-! ## setPort -/

@[simp] theorem setPort_windows (v) : (s.setPort v).windows = s.windows := rfl
@[simp] theorem setPort_activity (v) : (s.setPort v).activity = s.activity := rfl
@[simp] theorem setPort_pst (v) : (s.setPort v).pst = s.pst := rfl
@[simp] theorem setPort_pstAssigned (v) : (s.setPort v).pstAssigned = s.pstAssigned := rfl
@[simp] theorem setPort_slots (v) : (s.setPort v).slots = s.slots := rfl
@[simp] theorem setPort_nextSeq (v) : (s.setPort v).nextSeq = s.nextSeq := rfl
@[simp] theorem setPort_records (v) : (s.setPort v).records = s.records := rfl
@[simp] theorem setPort_pool (v) : (s.setPort v).pool = s.pool := rfl
@[simp] theorem setPort_wp (v) : (s.setPort v).wp = s.wp := rfl
@[simp] theorem setPort_sweep (v) : (s.setPort v).sweep = s.sweep := rfl
@[simp] theorem setPort_entries (v) : (s.setPort v).entries = s.entries := rfl
@[simp] theorem setPort_port (v) : (s.setPort v).port = v := rfl
@[simp] theorem setPort_channels (v) : (s.setPort v).channels = s.channels := rfl
@[simp] theorem setPort_copyTags (v) : (s.setPort v).copyTags = s.copyTags := rfl
@[simp] theorem setPort_tags (v) : (s.setPort v).tags = s.tags := rfl
@[simp] theorem setPort_mem (v) : (s.setPort v).mem = s.mem := rfl
@[simp] theorem setPort_ctl (v) : (s.setPort v).ctl = s.ctl := rfl
@[simp] theorem setPort_now (v) : (s.setPort v).now = s.now := rfl
@[simp] theorem setPort_sampler (v) : (s.setPort v).sampler = s.sampler := rfl
@[simp] theorem setPort_sched (v) : (s.setPort v).sched = s.sched := rfl
@[simp] theorem setPort_mgmt (v) : (s.setPort v).mgmt = s.mgmt := rfl
@[simp] theorem setPort_spi (v) : (s.setPort v).spi = s.spi := rfl
@[simp] theorem setPort_pending (v) : (s.setPort v).pending = s.pending := rfl
@[simp] theorem setPort_window (v j) : (s.setPort v).window j = s.window j := rfl
@[simp] theorem setPort_act (v j) : (s.setPort v).act j = s.act j := rfl
@[simp] theorem setPort_page (v j) : (s.setPort v).page j = s.page j := rfl
@[simp] theorem setPort_slot (v j) : (s.setPort v).slot j = s.slot j := rfl
@[simp] theorem setPort_record (v j) : (s.setPort v).record j = s.record j := rfl
@[simp] theorem setPort_entry (v j) : (s.setPort v).entry j = s.entry j := rfl
@[simp] theorem setPort_chan (v j) : (s.setPort v).chan j = s.chan j := rfl
@[simp] theorem setPort_copyTag (v j) : (s.setPort v).copyTag j = s.copyTag j := rfl
@[simp] theorem setPort_tag (v j) : (s.setPort v).tag j = s.tag j := rfl

/-! ## setMem -/

@[simp] theorem setMem_windows (v) : (s.setMem v).windows = s.windows := rfl
@[simp] theorem setMem_activity (v) : (s.setMem v).activity = s.activity := rfl
@[simp] theorem setMem_pst (v) : (s.setMem v).pst = s.pst := rfl
@[simp] theorem setMem_pstAssigned (v) : (s.setMem v).pstAssigned = s.pstAssigned := rfl
@[simp] theorem setMem_slots (v) : (s.setMem v).slots = s.slots := rfl
@[simp] theorem setMem_nextSeq (v) : (s.setMem v).nextSeq = s.nextSeq := rfl
@[simp] theorem setMem_records (v) : (s.setMem v).records = s.records := rfl
@[simp] theorem setMem_pool (v) : (s.setMem v).pool = s.pool := rfl
@[simp] theorem setMem_wp (v) : (s.setMem v).wp = s.wp := rfl
@[simp] theorem setMem_sweep (v) : (s.setMem v).sweep = s.sweep := rfl
@[simp] theorem setMem_entries (v) : (s.setMem v).entries = s.entries := rfl
@[simp] theorem setMem_port (v) : (s.setMem v).port = s.port := rfl
@[simp] theorem setMem_channels (v) : (s.setMem v).channels = s.channels := rfl
@[simp] theorem setMem_copyTags (v) : (s.setMem v).copyTags = s.copyTags := rfl
@[simp] theorem setMem_tags (v) : (s.setMem v).tags = s.tags := rfl
@[simp] theorem setMem_mem (v) : (s.setMem v).mem = v := rfl
@[simp] theorem setMem_ctl (v) : (s.setMem v).ctl = s.ctl := rfl
@[simp] theorem setMem_now (v) : (s.setMem v).now = s.now := rfl
@[simp] theorem setMem_sampler (v) : (s.setMem v).sampler = s.sampler := rfl
@[simp] theorem setMem_sched (v) : (s.setMem v).sched = s.sched := rfl
@[simp] theorem setMem_mgmt (v) : (s.setMem v).mgmt = s.mgmt := rfl
@[simp] theorem setMem_spi (v) : (s.setMem v).spi = s.spi := rfl
@[simp] theorem setMem_pending (v) : (s.setMem v).pending = s.pending := rfl
@[simp] theorem setMem_window (v j) : (s.setMem v).window j = s.window j := rfl
@[simp] theorem setMem_act (v j) : (s.setMem v).act j = s.act j := rfl
@[simp] theorem setMem_page (v j) : (s.setMem v).page j = s.page j := rfl
@[simp] theorem setMem_slot (v j) : (s.setMem v).slot j = s.slot j := rfl
@[simp] theorem setMem_record (v j) : (s.setMem v).record j = s.record j := rfl
@[simp] theorem setMem_entry (v j) : (s.setMem v).entry j = s.entry j := rfl
@[simp] theorem setMem_chan (v j) : (s.setMem v).chan j = s.chan j := rfl
@[simp] theorem setMem_copyTag (v j) : (s.setMem v).copyTag j = s.copyTag j := rfl
@[simp] theorem setMem_tag (v j) : (s.setMem v).tag j = s.tag j := rfl

/-! ## setCtl -/

@[simp] theorem setCtl_windows (v) : (s.setCtl v).windows = s.windows := rfl
@[simp] theorem setCtl_activity (v) : (s.setCtl v).activity = s.activity := rfl
@[simp] theorem setCtl_pst (v) : (s.setCtl v).pst = s.pst := rfl
@[simp] theorem setCtl_pstAssigned (v) : (s.setCtl v).pstAssigned = s.pstAssigned := rfl
@[simp] theorem setCtl_slots (v) : (s.setCtl v).slots = s.slots := rfl
@[simp] theorem setCtl_nextSeq (v) : (s.setCtl v).nextSeq = s.nextSeq := rfl
@[simp] theorem setCtl_records (v) : (s.setCtl v).records = s.records := rfl
@[simp] theorem setCtl_pool (v) : (s.setCtl v).pool = s.pool := rfl
@[simp] theorem setCtl_wp (v) : (s.setCtl v).wp = s.wp := rfl
@[simp] theorem setCtl_sweep (v) : (s.setCtl v).sweep = s.sweep := rfl
@[simp] theorem setCtl_entries (v) : (s.setCtl v).entries = s.entries := rfl
@[simp] theorem setCtl_port (v) : (s.setCtl v).port = s.port := rfl
@[simp] theorem setCtl_channels (v) : (s.setCtl v).channels = s.channels := rfl
@[simp] theorem setCtl_copyTags (v) : (s.setCtl v).copyTags = s.copyTags := rfl
@[simp] theorem setCtl_tags (v) : (s.setCtl v).tags = s.tags := rfl
@[simp] theorem setCtl_mem (v) : (s.setCtl v).mem = s.mem := rfl
@[simp] theorem setCtl_ctl (v) : (s.setCtl v).ctl = v := rfl
@[simp] theorem setCtl_now (v) : (s.setCtl v).now = s.now := rfl
@[simp] theorem setCtl_sampler (v) : (s.setCtl v).sampler = s.sampler := rfl
@[simp] theorem setCtl_sched (v) : (s.setCtl v).sched = s.sched := rfl
@[simp] theorem setCtl_mgmt (v) : (s.setCtl v).mgmt = s.mgmt := rfl
@[simp] theorem setCtl_spi (v) : (s.setCtl v).spi = s.spi := rfl
@[simp] theorem setCtl_pending (v) : (s.setCtl v).pending = s.pending := rfl
@[simp] theorem setCtl_window (v j) : (s.setCtl v).window j = s.window j := rfl
@[simp] theorem setCtl_act (v j) : (s.setCtl v).act j = s.act j := rfl
@[simp] theorem setCtl_page (v j) : (s.setCtl v).page j = s.page j := rfl
@[simp] theorem setCtl_slot (v j) : (s.setCtl v).slot j = s.slot j := rfl
@[simp] theorem setCtl_record (v j) : (s.setCtl v).record j = s.record j := rfl
@[simp] theorem setCtl_entry (v j) : (s.setCtl v).entry j = s.entry j := rfl
@[simp] theorem setCtl_chan (v j) : (s.setCtl v).chan j = s.chan j := rfl
@[simp] theorem setCtl_copyTag (v j) : (s.setCtl v).copyTag j = s.copyTag j := rfl
@[simp] theorem setCtl_tag (v j) : (s.setCtl v).tag j = s.tag j := rfl

/-! ## setSampler -/

@[simp] theorem setSampler_windows (v) : (s.setSampler v).windows = s.windows := rfl
@[simp] theorem setSampler_activity (v) : (s.setSampler v).activity = s.activity := rfl
@[simp] theorem setSampler_pst (v) : (s.setSampler v).pst = s.pst := rfl
@[simp] theorem setSampler_pstAssigned (v) : (s.setSampler v).pstAssigned = s.pstAssigned := rfl
@[simp] theorem setSampler_slots (v) : (s.setSampler v).slots = s.slots := rfl
@[simp] theorem setSampler_nextSeq (v) : (s.setSampler v).nextSeq = s.nextSeq := rfl
@[simp] theorem setSampler_records (v) : (s.setSampler v).records = s.records := rfl
@[simp] theorem setSampler_pool (v) : (s.setSampler v).pool = s.pool := rfl
@[simp] theorem setSampler_wp (v) : (s.setSampler v).wp = s.wp := rfl
@[simp] theorem setSampler_sweep (v) : (s.setSampler v).sweep = s.sweep := rfl
@[simp] theorem setSampler_entries (v) : (s.setSampler v).entries = s.entries := rfl
@[simp] theorem setSampler_port (v) : (s.setSampler v).port = s.port := rfl
@[simp] theorem setSampler_channels (v) : (s.setSampler v).channels = s.channels := rfl
@[simp] theorem setSampler_copyTags (v) : (s.setSampler v).copyTags = s.copyTags := rfl
@[simp] theorem setSampler_tags (v) : (s.setSampler v).tags = s.tags := rfl
@[simp] theorem setSampler_mem (v) : (s.setSampler v).mem = s.mem := rfl
@[simp] theorem setSampler_ctl (v) : (s.setSampler v).ctl = s.ctl := rfl
@[simp] theorem setSampler_now (v) : (s.setSampler v).now = s.now := rfl
@[simp] theorem setSampler_sampler (v) : (s.setSampler v).sampler = v := rfl
@[simp] theorem setSampler_sched (v) : (s.setSampler v).sched = s.sched := rfl
@[simp] theorem setSampler_mgmt (v) : (s.setSampler v).mgmt = s.mgmt := rfl
@[simp] theorem setSampler_spi (v) : (s.setSampler v).spi = s.spi := rfl
@[simp] theorem setSampler_pending (v) : (s.setSampler v).pending = s.pending := rfl
@[simp] theorem setSampler_window (v j) : (s.setSampler v).window j = s.window j := rfl
@[simp] theorem setSampler_act (v j) : (s.setSampler v).act j = s.act j := rfl
@[simp] theorem setSampler_page (v j) : (s.setSampler v).page j = s.page j := rfl
@[simp] theorem setSampler_slot (v j) : (s.setSampler v).slot j = s.slot j := rfl
@[simp] theorem setSampler_record (v j) : (s.setSampler v).record j = s.record j := rfl
@[simp] theorem setSampler_entry (v j) : (s.setSampler v).entry j = s.entry j := rfl
@[simp] theorem setSampler_chan (v j) : (s.setSampler v).chan j = s.chan j := rfl
@[simp] theorem setSampler_copyTag (v j) : (s.setSampler v).copyTag j = s.copyTag j := rfl
@[simp] theorem setSampler_tag (v j) : (s.setSampler v).tag j = s.tag j := rfl

/-! ## setSched -/

@[simp] theorem setSched_windows (v) : (s.setSched v).windows = s.windows := rfl
@[simp] theorem setSched_activity (v) : (s.setSched v).activity = s.activity := rfl
@[simp] theorem setSched_pst (v) : (s.setSched v).pst = s.pst := rfl
@[simp] theorem setSched_pstAssigned (v) : (s.setSched v).pstAssigned = s.pstAssigned := rfl
@[simp] theorem setSched_slots (v) : (s.setSched v).slots = s.slots := rfl
@[simp] theorem setSched_nextSeq (v) : (s.setSched v).nextSeq = s.nextSeq := rfl
@[simp] theorem setSched_records (v) : (s.setSched v).records = s.records := rfl
@[simp] theorem setSched_pool (v) : (s.setSched v).pool = s.pool := rfl
@[simp] theorem setSched_wp (v) : (s.setSched v).wp = s.wp := rfl
@[simp] theorem setSched_sweep (v) : (s.setSched v).sweep = s.sweep := rfl
@[simp] theorem setSched_entries (v) : (s.setSched v).entries = s.entries := rfl
@[simp] theorem setSched_port (v) : (s.setSched v).port = s.port := rfl
@[simp] theorem setSched_channels (v) : (s.setSched v).channels = s.channels := rfl
@[simp] theorem setSched_copyTags (v) : (s.setSched v).copyTags = s.copyTags := rfl
@[simp] theorem setSched_tags (v) : (s.setSched v).tags = s.tags := rfl
@[simp] theorem setSched_mem (v) : (s.setSched v).mem = s.mem := rfl
@[simp] theorem setSched_ctl (v) : (s.setSched v).ctl = s.ctl := rfl
@[simp] theorem setSched_now (v) : (s.setSched v).now = s.now := rfl
@[simp] theorem setSched_sampler (v) : (s.setSched v).sampler = s.sampler := rfl
@[simp] theorem setSched_sched (v) : (s.setSched v).sched = v := rfl
@[simp] theorem setSched_mgmt (v) : (s.setSched v).mgmt = s.mgmt := rfl
@[simp] theorem setSched_spi (v) : (s.setSched v).spi = s.spi := rfl
@[simp] theorem setSched_pending (v) : (s.setSched v).pending = s.pending := rfl
@[simp] theorem setSched_window (v j) : (s.setSched v).window j = s.window j := rfl
@[simp] theorem setSched_act (v j) : (s.setSched v).act j = s.act j := rfl
@[simp] theorem setSched_page (v j) : (s.setSched v).page j = s.page j := rfl
@[simp] theorem setSched_slot (v j) : (s.setSched v).slot j = s.slot j := rfl
@[simp] theorem setSched_record (v j) : (s.setSched v).record j = s.record j := rfl
@[simp] theorem setSched_entry (v j) : (s.setSched v).entry j = s.entry j := rfl
@[simp] theorem setSched_chan (v j) : (s.setSched v).chan j = s.chan j := rfl
@[simp] theorem setSched_copyTag (v j) : (s.setSched v).copyTag j = s.copyTag j := rfl
@[simp] theorem setSched_tag (v j) : (s.setSched v).tag j = s.tag j := rfl

/-! ## setMgmt -/

@[simp] theorem setMgmt_windows (v) : (s.setMgmt v).windows = s.windows := rfl
@[simp] theorem setMgmt_activity (v) : (s.setMgmt v).activity = s.activity := rfl
@[simp] theorem setMgmt_pst (v) : (s.setMgmt v).pst = s.pst := rfl
@[simp] theorem setMgmt_pstAssigned (v) : (s.setMgmt v).pstAssigned = s.pstAssigned := rfl
@[simp] theorem setMgmt_slots (v) : (s.setMgmt v).slots = s.slots := rfl
@[simp] theorem setMgmt_nextSeq (v) : (s.setMgmt v).nextSeq = s.nextSeq := rfl
@[simp] theorem setMgmt_records (v) : (s.setMgmt v).records = s.records := rfl
@[simp] theorem setMgmt_pool (v) : (s.setMgmt v).pool = s.pool := rfl
@[simp] theorem setMgmt_wp (v) : (s.setMgmt v).wp = s.wp := rfl
@[simp] theorem setMgmt_sweep (v) : (s.setMgmt v).sweep = s.sweep := rfl
@[simp] theorem setMgmt_entries (v) : (s.setMgmt v).entries = s.entries := rfl
@[simp] theorem setMgmt_port (v) : (s.setMgmt v).port = s.port := rfl
@[simp] theorem setMgmt_channels (v) : (s.setMgmt v).channels = s.channels := rfl
@[simp] theorem setMgmt_copyTags (v) : (s.setMgmt v).copyTags = s.copyTags := rfl
@[simp] theorem setMgmt_tags (v) : (s.setMgmt v).tags = s.tags := rfl
@[simp] theorem setMgmt_mem (v) : (s.setMgmt v).mem = s.mem := rfl
@[simp] theorem setMgmt_ctl (v) : (s.setMgmt v).ctl = s.ctl := rfl
@[simp] theorem setMgmt_now (v) : (s.setMgmt v).now = s.now := rfl
@[simp] theorem setMgmt_sampler (v) : (s.setMgmt v).sampler = s.sampler := rfl
@[simp] theorem setMgmt_sched (v) : (s.setMgmt v).sched = s.sched := rfl
@[simp] theorem setMgmt_mgmt (v) : (s.setMgmt v).mgmt = v := rfl
@[simp] theorem setMgmt_spi (v) : (s.setMgmt v).spi = s.spi := rfl
@[simp] theorem setMgmt_pending (v) : (s.setMgmt v).pending = s.pending := rfl
@[simp] theorem setMgmt_window (v j) : (s.setMgmt v).window j = s.window j := rfl
@[simp] theorem setMgmt_act (v j) : (s.setMgmt v).act j = s.act j := rfl
@[simp] theorem setMgmt_page (v j) : (s.setMgmt v).page j = s.page j := rfl
@[simp] theorem setMgmt_slot (v j) : (s.setMgmt v).slot j = s.slot j := rfl
@[simp] theorem setMgmt_record (v j) : (s.setMgmt v).record j = s.record j := rfl
@[simp] theorem setMgmt_entry (v j) : (s.setMgmt v).entry j = s.entry j := rfl
@[simp] theorem setMgmt_chan (v j) : (s.setMgmt v).chan j = s.chan j := rfl
@[simp] theorem setMgmt_copyTag (v j) : (s.setMgmt v).copyTag j = s.copyTag j := rfl
@[simp] theorem setMgmt_tag (v j) : (s.setMgmt v).tag j = s.tag j := rfl

/-! ## Flags and captures (R174, R176) -/

@[simp] theorem raise_windows (f) : (s.raise f).windows = s.windows := rfl
@[simp] theorem raise_activity (f) : (s.raise f).activity = s.activity := rfl
@[simp] theorem raise_pst (f) : (s.raise f).pst = s.pst := rfl
@[simp] theorem raise_pstAssigned (f) : (s.raise f).pstAssigned = s.pstAssigned := rfl
@[simp] theorem raise_slots (f) : (s.raise f).slots = s.slots := rfl
@[simp] theorem raise_nextSeq (f) : (s.raise f).nextSeq = s.nextSeq := rfl
@[simp] theorem raise_records (f) : (s.raise f).records = s.records := rfl
@[simp] theorem raise_pool (f) : (s.raise f).pool = s.pool := rfl
@[simp] theorem raise_wp (f) : (s.raise f).wp = s.wp := rfl
@[simp] theorem raise_sweep (f) : (s.raise f).sweep = s.sweep := rfl
@[simp] theorem raise_entries (f) : (s.raise f).entries = s.entries := rfl
@[simp] theorem raise_port (f) : (s.raise f).port = s.port := rfl
@[simp] theorem raise_channels (f) : (s.raise f).channels = s.channels := rfl
@[simp] theorem raise_copyTags (f) : (s.raise f).copyTags = s.copyTags := rfl
@[simp] theorem raise_tags (f) : (s.raise f).tags = s.tags := rfl
@[simp] theorem raise_mem (f) : (s.raise f).mem = s.mem := rfl
@[simp] theorem raise_ctl (f) : (s.raise f).ctl = s.ctl := rfl
@[simp] theorem raise_now (f) : (s.raise f).now = s.now := rfl
@[simp] theorem raise_sampler (f) : (s.raise f).sampler = s.sampler := rfl
@[simp] theorem raise_sched (f) : (s.raise f).sched = s.sched := rfl
@[simp] theorem raise_spi (f) : (s.raise f).spi = s.spi := rfl
@[simp] theorem raise_pending (f) : (s.raise f).pending = s.pending := rfl
@[simp] theorem raise_window (f j) : (s.raise f).window j = s.window j := rfl
@[simp] theorem raise_act (f j) : (s.raise f).act j = s.act j := rfl
@[simp] theorem raise_page (f j) : (s.raise f).page j = s.page j := rfl
@[simp] theorem raise_slot (f j) : (s.raise f).slot j = s.slot j := rfl
@[simp] theorem raise_record (f j) : (s.raise f).record j = s.record j := rfl
@[simp] theorem raise_entry (f j) : (s.raise f).entry j = s.entry j := rfl
@[simp] theorem raise_chan (f j) : (s.raise f).chan j = s.chan j := rfl
@[simp] theorem raise_copyTag (f j) : (s.raise f).copyTag j = s.copyTag j := rfl
@[simp] theorem raise_tag (f j) : (s.raise f).tag j = s.tag j := rfl

/-- A capture changes the first-error record alone. -/
theorem capture_eq (k t a w) :
    s.capture k t a w =
      s.setMgmt { s.mgmt with
        firstError := if s.mgmt.firstError.kind = .none then ⟨k, t, a, w, false⟩
          else { s.mgmt.firstError with more := true } } := by
  unfold State.capture
  split <;> simp_all

@[simp] theorem capture_windows (k t a w) : (s.capture k t a w).windows = s.windows := by rw [capture_eq]; rfl
@[simp] theorem capture_activity (k t a w) : (s.capture k t a w).activity = s.activity := by rw [capture_eq]; rfl
@[simp] theorem capture_pst (k t a w) : (s.capture k t a w).pst = s.pst := by rw [capture_eq]; rfl
@[simp] theorem capture_pstAssigned (k t a w) : (s.capture k t a w).pstAssigned = s.pstAssigned := by rw [capture_eq]; rfl
@[simp] theorem capture_slots (k t a w) : (s.capture k t a w).slots = s.slots := by rw [capture_eq]; rfl
@[simp] theorem capture_nextSeq (k t a w) : (s.capture k t a w).nextSeq = s.nextSeq := by rw [capture_eq]; rfl
@[simp] theorem capture_records (k t a w) : (s.capture k t a w).records = s.records := by rw [capture_eq]; rfl
@[simp] theorem capture_pool (k t a w) : (s.capture k t a w).pool = s.pool := by rw [capture_eq]; rfl
@[simp] theorem capture_wp (k t a w) : (s.capture k t a w).wp = s.wp := by rw [capture_eq]; rfl
@[simp] theorem capture_sweep (k t a w) : (s.capture k t a w).sweep = s.sweep := by rw [capture_eq]; rfl
@[simp] theorem capture_entries (k t a w) : (s.capture k t a w).entries = s.entries := by rw [capture_eq]; rfl
@[simp] theorem capture_port (k t a w) : (s.capture k t a w).port = s.port := by rw [capture_eq]; rfl
@[simp] theorem capture_channels (k t a w) : (s.capture k t a w).channels = s.channels := by rw [capture_eq]; rfl
@[simp] theorem capture_copyTags (k t a w) : (s.capture k t a w).copyTags = s.copyTags := by rw [capture_eq]; rfl
@[simp] theorem capture_tags (k t a w) : (s.capture k t a w).tags = s.tags := by rw [capture_eq]; rfl
@[simp] theorem capture_mem (k t a w) : (s.capture k t a w).mem = s.mem := by rw [capture_eq]; rfl
@[simp] theorem capture_ctl (k t a w) : (s.capture k t a w).ctl = s.ctl := by rw [capture_eq]; rfl
@[simp] theorem capture_now (k t a w) : (s.capture k t a w).now = s.now := by rw [capture_eq]; rfl
@[simp] theorem capture_sampler (k t a w) : (s.capture k t a w).sampler = s.sampler := by rw [capture_eq]; rfl
@[simp] theorem capture_sched (k t a w) : (s.capture k t a w).sched = s.sched := by rw [capture_eq]; rfl
@[simp] theorem capture_spi (k t a w) : (s.capture k t a w).spi = s.spi := by rw [capture_eq]; rfl
@[simp] theorem capture_pending (k t a w) : (s.capture k t a w).pending = s.pending := by rw [capture_eq]; rfl
@[simp] theorem capture_window (k t a w j) : (s.capture k t a w).window j = s.window j := by rw [capture_eq]; rfl
@[simp] theorem capture_act (k t a w j) : (s.capture k t a w).act j = s.act j := by rw [capture_eq]; rfl
@[simp] theorem capture_page (k t a w j) : (s.capture k t a w).page j = s.page j := by rw [capture_eq]; rfl
@[simp] theorem capture_slot (k t a w j) : (s.capture k t a w).slot j = s.slot j := by rw [capture_eq]; rfl
@[simp] theorem capture_record (k t a w j) : (s.capture k t a w).record j = s.record j := by rw [capture_eq]; rfl
@[simp] theorem capture_entry (k t a w j) : (s.capture k t a w).entry j = s.entry j := by rw [capture_eq]; rfl
@[simp] theorem capture_chan (k t a w j) : (s.capture k t a w).chan j = s.chan j := by rw [capture_eq]; rfl
@[simp] theorem capture_copyTag (k t a w j) : (s.capture k t a w).copyTag j = s.copyTag j := by rw [capture_eq]; rfl
@[simp] theorem capture_tag (k t a w j) : (s.capture k t a w).tag j = s.tag j := by rw [capture_eq]; rfl

end Sys2Proof.Machine.State
end

