-- ==== Sys2Proof/Laws/Ops.lean ====
section
/-! SUPPORT. What the shared operations of Machine/Ops.lean, the end of a step, the reads of sound tables, the moves of a
sweep's cursor and the ends of a rollback's phases do, said once. -/

namespace Sys2Proof.Machine

/-! ## The end of a step (R109, R120, R130) -/

/-- The arbiter has nothing to give. -/
def State.ArbiterIdle (s : State) : Prop :=
  s.idleChannel = none ∨ (s.sweep.demand = [] ∧ s.wp.queue = [] ∧ s.sweep.offer = none)

theorem arbitrateFrom_idle {s : State} (h : s.ArbiterIdle) (k : Nat) : arbitrateFrom k s = s := by
  cases k with
  | zero => rfl
  | succ k =>
    unfold arbitrateFrom
    rcases h with h | ⟨h1, h2, h3⟩
    · rw [h]
    · rw [h1, h2, h3]
      dsimp only
      split <;> rfl

theorem checkIntake_idle {s : State} (h : s.port.intake = .closing → s.emptyCondition = false) : s.checkIntake = s := by
  unfold State.checkIntake
  rw [if_neg]
  rintro ⟨h1, h2⟩
  simp [h h1] at h2

/-- With nothing to give and nothing to close, the end of a step sends the step's credits. -/
theorem finish_eq {s : State} (ha : s.ArbiterIdle) (hi : s.port.intake = .closing → s.emptyCondition = false) :
    s.finish = s.sendCredits := by
  unfold State.finish State.arbitrate
  rw [arbitrateFrom_idle ha, checkIntake_idle hi]

/-- The end of a step does nothing in a settled state. -/
theorem finish_settled {s : State} (h : s.Settled) : s.finish = s := by
  rw [finish_eq h.arbiter h.intake]
  simp [State.sendCredits, h.due]

/-- A busy entry denies the empty condition. -/
theorem emptyCondition_busy {s : State} {n : Nat} (hn : n < 128) (h : (s.entry n).state ≠ .free) :
    s.emptyCondition = false := by
  unfold State.emptyCondition
  rw [Bool.and_eq_false_iff]
  left
  rw [List.all_eq_false]
  exact ⟨n, List.mem_range.2 hn, by simpa using h⟩

/-! ## Credits, completions, freeing (R105, R108, R109) -/

theorem earnCredit_opened {s : State} (hu : s.port.up = true) (ho : s.port.intake = .opened) :
    s.earnCredit = s.setPort { s.port with due := s.port.due + 1 } := by
  simp [State.earnCredit, hu, ho]

theorem sendUp_up {s : State} (m : UpMessage) (hu : s.port.up = true) :
    s.sendUp m = s.setPort { s.port with sent := s.port.sent ++ [m] } := by
  simp [State.sendUp, hu]

theorem freeEntry_busy {s : State} {n : Nat} (h : (s.entry n).state ≠ .free) :
    s.freeEntry n = ((s.setEntry n .freed).leaveDrain n).earnCredit := by
  simp [State.freeEntry, h]

/-! ## Reads of sound tables (R14, R43) -/

theorem checkPageWith_sound {flush : State → State} {s : State} {p : Nat} {tag : Option Nat}
    (h : (s.page p).parityOk = true) : checkPageWith flush p tag s = s := if_pos h

theorem checkPage_sound {s : State} {p : Nat} {tag : Option Nat} (h : (s.page p).parityOk = true) :
    s.checkPage p tag = s := if_pos h

theorem checkRecWith_sound {flush : State → State} {s : State} {r : Nat} {tag : Option Nat}
    (h : (s.record r).parityOk = true) : checkRecWith flush r tag s = s := if_pos h

theorem checkRec_sound {s : State} {r : Nat} {tag : Option Nat} (h : (s.record r).parityOk = true) :
    s.checkRec r tag = s := if_pos h

theorem checkRecsWith_sound {flush : State → State} {s : State} {l : List Nat} {tag : Option Nat}
    (h : ∀ r, r ∈ l → (s.record r).parityOk = true) : checkRecsWith flush l tag s = s := by
  induction l with
  | nil => rfl
  | cons r l ih =>
    unfold checkRecsWith
    rw [List.foldl_cons, checkRecWith_sound (h r (List.mem_cons_self ..))]
    exact ih fun x hx => h x (List.mem_cons_of_mem _ hx)

theorem checkRecs_sound {s : State} {l : List Nat} {tag : Option Nat}
    (h : ∀ r, r ∈ l → (s.record r).parityOk = true) : s.checkRecs l tag = s := checkRecsWith_sound h

/-! ## What moves a sweep's cursor changes the sweep engine alone (R81, R92) -/

theorem nextJournal_eq (s : State) : s.nextJournal = s.setSweep s.nextJournal.sweep := rfl

theorem walkPast_eq (s : State) (r : Nat) : s.walkPast r = s.setSweep (s.walkPast r).sweep := by
  unfold State.walkPast
  split <;> rfl

theorem sweepPast_eq (s : State) (r : Nat) : s.sweepPast r = s.setSweep (s.sweepPast r).sweep := by
  unfold State.sweepPast
  extract_lets older t
  have ht : t = s.setSweep t.sweep := by
    dsimp only [t]
    split
    · exact walkPast_eq s r
    · rfl
  split
  · rw [ht]; rfl
  · exact ht

theorem stopWaiting_eq (s : State) (r : Nat) : s.stopWaiting r = s.setSweep (s.stopWaiting r).sweep := by
  unfold State.stopWaiting
  split <;> rfl

/-! ## Jobs of a freed record (log 26) -/

theorem orphanJobs_unnamed {s : State} {r : Nat} (h : s.namesJob r = false) : s.orphanJobs r = s :=
  if_neg (by rw [h]; exact Bool.false_ne_true)

/-- Clearing a record that no job names clears the record alone. -/
theorem clearRec_unnamed {s : State} {r : Nat} (h : s.namesJob r = false) : s.clearRec r = s.setRec r .freed :=
  orphanJobs_unnamed (s := s.setRec r .freed) h

/-! ## Links, and a returned frame (R43, R44, R47, R51) -/

theorem journalLink_of {s : State} {r : Nat} (h : (s.record r).state ≠ .free) : s.journalLink (some r) = some r := if_pos h

theorem journalLink_free {s : State} {r : Nat} (h : (s.record r).state = .free) : s.journalLink (some r) = none :=
  if_neg (not_not.2 h)

/-- The free-frame queue holds a record once at most. -/
theorem returnFrame_queued {s : State} {r : Nat} (h : r ∈ s.pool.free) : s.returnFrame r = s := if_pos h

/-- With no write in FRAME_WAIT a returned frame joins the tail of the free-frame queue. -/
theorem returnFrame_noWaiter {s : State} {r : Nat} (h : r ∉ s.pool.free) (hw : s.pool.wait = []) :
    s.returnFrame r = s.setPool { s.pool with free := s.pool.free ++ [r] } := by
  unfold State.returnFrame
  rw [if_neg h]
  show returnFrameFrom r (Config.entries + 1) s = _
  unfold returnFrameFrom
  rw [hw]

/-- An older link that is borne out is the stored one, and names a record of the page that the walk has not met (R43). -/
theorem chainOlder_eq_some {s : State} {p r y : Nat} : s.chainOlder p r = some y ↔
    (s.record r).older = some y ∧ (s.record y).state ≠ .free ∧ (s.record y).pageIndex = some p ∧ y ≠ r ∧
      y ∉ (s.chain p).takeWhile (fun x => x != r) := by
  unfold State.chainOlder State.chainLink
  cases (s.record r).older with
  | none => simp
  | some z =>
    dsimp only
    constructor
    · intro h
      split at h
      · rename_i hz
        obtain rfl := Option.some.inj h
        exact ⟨rfl, hz.1, hz.2.1, fun c => hz.2.2 (c ▸ List.mem_cons_self), fun c => hz.2.2 (List.mem_cons_of_mem _ c)⟩
      · cases h
    · rintro ⟨h, h1, h2, h3, h4⟩
      obtain rfl := Option.some.inj h
      exact if_pos ⟨h1, h2, fun c => (List.mem_cons.1 c).elim h3 h4⟩

/-- What a walk that has met `met` takes a journal link to (R43). -/
theorem walkLink_eq_some {s : State} {met : List Nat} {o : Option Nat} {y : Nat} :
    s.walkLink met o = some y ↔ o = some y ∧ (s.record y).state ≠ .free ∧ y ∉ met := by
  unfold State.walkLink State.journalLink
  cases o with
  | none => simp
  | some z =>
    dsimp only
    split
    · rename_i hz
      simp only [Option.filter_some, Option.some.injEq]
      constructor
      · intro h
        split at h
        · rename_i hm
          obtain rfl := Option.some.inj h
          exact ⟨rfl, hz, by simpa using hm⟩
        · cases h
      · rintro ⟨rfl, -, hm⟩
        simp [hm]
    · rename_i hz
      exact ⟨fun h => by simp at h, fun h => absurd (Option.some.inj h.1 ▸ h.2.1) hz⟩

/-- The older neighbour of a record that is removed is the one its link names, neither the record itself nor the newer
neighbour (R43, R54). -/
theorem leaveOlder_eq_some {s : State} {r y : Nat} : s.leaveOlder r = some y ↔
    (s.record r).jOlder = some y ∧ (s.record y).state ≠ .free ∧ y ≠ r ∧ s.leaveNewer r ≠ some y := by
  unfold State.leaveOlder
  rw [walkLink_eq_some]
  cases s.leaveNewer r <;> simp [eq_comm]

@[simp] theorem linkNewer_slot (s : State) (o v : Option Nat) (j : Nat) : (s.linkNewer o v).slot j = s.slot j := by
  cases o <;> rfl

@[simp] theorem linkOlder_slot (s : State) (n v : Option Nat) (j : Nat) : (s.linkOlder n v).slot j = s.slot j := by
  cases n <;> rfl

/-- The slot after its record has been unlinked: head and tail move where they name the record (R54). -/
theorem journalUnlink_slot (s : State) (q r j : Nat) : (s.journalUnlink q r).slot j =
    if j = q then { s.slot q with
      head := if (s.slot q).head = some r then s.leaveNewer r else (s.slot q).head
      tail := if (s.slot q).tail = some r then s.leaveOlder r else (s.slot q).tail } else s.slot j := by
  unfold State.journalUnlink
  simp

/-- An unlink that does not find its record changes nothing (R51). -/
theorem chainUnlink_of_not_mem {s : State} {p r : Nat} (h : r ∉ s.chain p) : s.chainUnlink p r = s := if_neg h

/-- A record that a sweep's look-up calls a source stands in the page's chain. -/
theorem mem_chain_of_mem_sources {s : State} {p r : Nat} (h : r ∈ s.sources p) : r ∈ s.chain p := by
  have hs : r ∈ s.sinceTarget p := List.mem_of_mem_filter h
  unfold State.sinceTarget at hs
  split at hs
  · cases hs
  · exact List.mem_reverse.1 ((List.dropWhile_sublist _).subset (List.mem_reverse.1 hs))

/-- The look-up of a page's records since the target's mark, in a chain whose head is not below it: it ends at a record that
is not below, and those it leaves out are below (R52). -/
theorem sinceTarget_append {s : State} {p h : Nat} (hh : (s.chain p).head? = some h) (hb : s.belowTarget h = false) :
    ∃ older, s.chain p = s.sinceTarget p ++ older ∧ (∀ x, x ∈ older → s.belowTarget x = true) ∧
      ∀ x, (s.sinceTarget p).getLast? = some x → s.belowTarget x = false := by
  have hs : s.sinceTarget p = (s.chain p).rdropWhile s.belowTarget := by
    unfold State.sinceTarget
    rw [hh]
    exact if_neg (by simp [hb])
  rw [hs]
  refine ⟨(s.chain p).rtakeWhile s.belowTarget, List.rdropWhile_append_rtakeWhile.symm, fun x hx => ?_, fun x hx => ?_⟩
  · exact List.mem_rtakeWhile_imp hx
  · have h0 : (s.chain p).rdropWhile s.belowTarget ≠ [] := by rintro h0; rw [h0] at hx; cases hx
    rw [List.getLast?_eq_some_getLast h0] at hx
    rw [← Option.some.inj hx]
    simpa using List.rdropWhile_last_not s.belowTarget (s.chain p) h0

/-! ## The cursor, and the ends of a rollback's phases (R81, R89, R92, R101) -/

/-- Where the walk goes with its next journal: to the first record that one of the slots to come begins at. -/
theorem nextJournal_cursor (s : State) : s.nextJournal.sweep.cursor = s.laterSlots.findSome? s.walkStart := by
  show (firstPlace (s.laterSlots.map fun e => (e.1, s.walkStart e))).map (fun e => e.2) = _
  unfold firstPlace
  rw [List.findSome?_map, List.map_findSome?]
  congr 1
  funext e
  show ((s.walkStart e).map _).map _ = _
  cases s.walkStart e <;> rfl

/-- The cursor after record `r`: along the link by which the walk leaves it, or with the next journal. -/
theorem walkPast_cursor (s : State) (r : Nat) :
    (s.walkPast r).sweep.cursor = (s.walkTo r).orElse fun _ => s.laterSlots.findSome? s.walkStart := by
  unfold State.walkPast
  cases s.walkTo r with
  | none => exact nextJournal_cursor s
  | some x => rfl

theorem jobInChannel_eq_false {s : State} {k : JobKind} :
    s.jobInChannel k = false ↔ ∀ c j, c < 4 → (s.chan c).job = some j → j.kind ≠ k := by
  unfold State.jobInChannel
  rw [List.any_eq_false]
  constructor
  · intro h c j hc hj e
    refine h c ?_ ?_
    · show c ∈ [0, 1, 2, 3]
      simp only [List.mem_cons, List.not_mem_nil, or_false]
      omega
    · rw [hj]
      exact beq_iff_eq.2 e
  · intro h c hc e
    have h4 : c < 4 := by
      change c ∈ [0, 1, 2, 3] at hc
      simp only [List.mem_cons, List.not_mem_nil, or_false] at hc
      omega
    cases hj : (s.chan c).job with
    | none => rw [hj] at e; cases e
    | some j => rw [hj] at e; exact h c j h4 hj (beq_iff_eq.1 e)

theorem drained_iff {s : State} :
    s.drained = true ↔ s.sweep.drainSet = [] ∧ s.wp.queue = [] ∧ s.wp.backlog = [] ∧
      ∀ c j, c < 4 → (s.chan c).job = some j → j.kind ≠ .preservation := by
  rw [← jobInChannel_eq_false]
  unfold State.drained
  simp [and_assoc]

theorem restoreOver_iff {s : State} :
    s.restoreOver = true ↔ s.sweep.cursor = none ∧ s.sweep.demand = [] ∧ s.sweep.offer = none ∧
      ∀ c j, c < 4 → (s.chan c).job = some j → j.kind ≠ .restore := by
  rw [← jobInChannel_eq_false]
  unfold State.restoreOver
  simp [and_assoc]

/-! ## The pressure check (R165, R166) -/

/-- Without roll retention a pressure check changes nothing. -/
theorem pressureCheck_noRoll {s : State} (h : s.sched.roll = false) : s.pressureCheck = s :=
  if_neg fun c => by rw [h] at c; exact Bool.false_ne_true c.1

/-- With fewer than two LIVE marks a pressure check changes nothing. -/
theorem pressureCheck_fewMarks {s : State} (h : s.liveCount < 2) : s.pressureCheck = s :=
  if_neg fun c => Nat.not_le.2 h c.2.2.1

/-- With a sweep in progress a pressure check changes nothing. -/
theorem pressureCheck_sweeping {s : State} (h : s.sweep.kind ≠ .none) : s.pressureCheck = s :=
  if_neg fun c => h c.2.2.2

/-- With no frame short a pressure check changes nothing. -/
theorem pressureCheck_unpressed {s : State} (h : s.pressed = false) : s.pressureCheck = s :=
  if_neg fun c => by rw [h] at c; exact Bool.false_ne_true c.2.1

/-! ## Demands and offers that meet a record that is not VALID (R42, R92, R97; log 30) -/

/-- An offered record that reads no longer VALID loses its offer, and nothing else changes. -/
theorem takeOffer_withdrawn {s : State} {c r : Nat} (hp : (s.record r).parityOk = true)
    (h : (s.record r).state ≠ .valid) : s.takeOffer c r = s.dropOffer r := by
  unfold State.takeOffer
  rw [checkRec_sound hp]
  exact if_neg h

/-- A demand whose page has a source that is not VALID frees and restores nothing. -/
theorem takeDemand_invalid {s : State} {c p : Nat} (hp : (s.page p).parityOk = true)
    (hr : ∀ r, r ∈ s.sourceReads p → (s.record r).parityOk = true) (h : s.sourcesValid p = false) :
    s.takeDemand c p = s := by
  unfold State.takeDemand
  rw [checkPage_sound hp]
  dsimp only
  rw [checkRecs_sound hr]
  split
  · rfl
  · exact if_pos h

/-! ## The tick (R155, R159) -/

theorem takeTick_none {s : State} (h : s.tickDue = false) : s.takeTick = s := if_pos h

end Sys2Proof.Machine
end

