-- ==== Sys2Proof/Laws/PerInstr.lean ====
section
/-! SUPPORT. The statement made per command: no word spells it (log 1), since no row of the table gives bits. -/

namespace Sys2Proof.Laws

/-- No word of any width spells command `i`. -/
def NoWord.Statement (i : Instr) : Prop := ∀ nbits w, decodeTableWord nbits w ≠ some i

/-- The decoder answers no command at all. -/
theorem noWord_all (i : Instr) : NoWord.Statement i := fun _ _ => nofun

theorem NoWord.powerOnReset : NoWord.Statement .powerOnReset := noWord_all _
theorem NoWord.rstN : NoWord.Statement .rstN := noWord_all _
theorem NoWord.requestPortLinkDown : NoWord.Statement .requestPortLinkDown := noWord_all _
theorem NoWord.requestPortLinkUp : NoWord.Statement .requestPortLinkUp := noWord_all _
theorem NoWord.memoryPortLinkDown (failuresFirst : Nat) : NoWord.Statement (.memoryPortLinkDown failuresFirst) := noWord_all _
theorem NoWord.memoryPortLinkUp : NoWord.Statement .memoryPortLinkUp := noWord_all _
theorem NoWord.read (tag : Byte) (len : BitVec 2) (addr : Addr) (payload : List Byte) : NoWord.Statement (.read tag len addr payload) := noWord_all _
theorem NoWord.write (tag : Byte) (len : BitVec 2) (addr : Addr) (masks : List (BitVec 64)) (data : List Byte) : NoWord.Statement (.write tag len addr masks data) := noWord_all _
theorem NoWord.misdirectedUpstreamMessage (type : BitVec 4) : NoWord.Statement (.misdirectedUpstreamMessage type) := noWord_all _
theorem NoWord.unknownTypeMessage (port : LinkPort) (type : BitVec 4) : NoWord.Statement (.unknownTypeMessage port type) := noWord_all _
theorem NoWord.completion (tag : Byte) (status : BitVec 4) (reason : BitVec 4) (data : List Byte) : NoWord.Statement (.completion tag status reason data) := noWord_all _
theorem NoWord.credit (count : BitVec 16) : NoWord.Statement (.credit count) := noWord_all _
theorem NoWord.misdirectedDownstreamMessage (type : BitVec 4) : NoWord.Statement (.misdirectedDownstreamMessage type) := noWord_all _
theorem NoWord.sendRequest : NoWord.Statement .sendRequest := noWord_all _
theorem NoWord.samplingTick : NoWord.Statement .samplingTick := noWord_all _
theorem NoWord.intervalEnd : NoWord.Statement .intervalEnd := noWord_all _
theorem NoWord.holdTimeout (entry : Nat) : NoWord.Statement (.holdTimeout entry) := noWord_all _
theorem NoWord.responseTimeout (tag : Nat) : NoWord.Statement (.responseTimeout tag) := noWord_all _
theorem NoWord.discardWalkStep : NoWord.Statement .discardWalkStep := noWord_all _
theorem NoWord.commitWalkStep : NoWord.Statement .commitWalkStep := noWord_all _
theorem NoWord.restorePhaseStart : NoWord.Statement .restorePhaseStart := noWord_all _
theorem NoWord.restoreWalkStep : NoWord.Statement .restoreWalkStep := noWord_all _
theorem NoWord.restorePhaseEnd : NoWord.Statement .restorePhaseEnd := noWord_all _
theorem NoWord.mergeWalkStep : NoWord.Statement .mergeWalkStep := noWord_all _
theorem NoWord.configEnter : NoWord.Statement .configEnter := noWord_all _
theorem NoWord.configExit : NoWord.Statement .configExit := noWord_all _
theorem NoWord.mark : NoWord.Statement .mark := noWord_all _
theorem NoWord.discard : NoWord.Statement .discard := noWord_all _
theorem NoWord.commit : NoWord.Statement .commit := noWord_all _
theorem NoWord.rollback : NoWord.Statement .rollback := noWord_all _
theorem NoWord.quiesce : NoWord.Statement .quiesce := noWord_all _
theorem NoWord.resume : NoWord.Statement .resume := noWord_all _
theorem NoWord.degrade : NoWord.Statement .degrade := noWord_all _
theorem NoWord.recover : NoWord.Statement .recover := noWord_all _
theorem NoWord.clearCounts : NoWord.Statement .clearCounts := noWord_all _
theorem NoWord.faultPop : NoWord.Statement .faultPop := noWord_all _
theorem NoWord.badOpcode (code : Byte) : NoWord.Statement (.badOpcode code) := noWord_all _
theorem NoWord.eventFlagWrite (data : Word) : NoWord.Statement (.eventFlagWrite data) := noWord_all _
theorem NoWord.firstErrorClear (data : Word) : NoWord.Statement (.firstErrorClear data) := noWord_all _
theorem NoWord.alertMaskWrite (data : Word) : NoWord.Statement (.alertMaskWrite data) := noWord_all _
theorem NoWord.run (data : Word) : NoWord.Statement (.run data) := noWord_all _
theorem NoWord.stop (data : Word) : NoWord.Statement (.stop data) := noWord_all _
theorem NoWord.restart (data : Word) : NoWord.Statement (.restart data) := noWord_all _
theorem NoWord.tickSelectWrite (data : Word) : NoWord.Statement (.tickSelectWrite data) := noWord_all _
theorem NoWord.autoEnableWrite (data : Word) : NoWord.Statement (.autoEnableWrite data) := noWord_all _
theorem NoWord.rollRetentionWrite (data : Word) : NoWord.Statement (.rollRetentionWrite data) := noWord_all _
theorem NoWord.registerWrite (index : Byte) (data : Word) : NoWord.Statement (.registerWrite index data) := noWord_all _

end Sys2Proof.Laws
end

