-- ==== Sys2Proof/Tests/Slice0.lean ====
section
/-! SUPPORT. The model's own tests: ill-formed commands refused by the check, a concrete state for the hypotheses of each
statement, clause by clause, and a few single steps. -/

namespace Sys2Proof.Tests

open Sys2Proof Sys2Proof.Machine

set_option Elab.async false

/-! ## Ill-formed commands -/

theorem test_wf_rejects_upstream_type : (Instr.misdirectedUpstreamMessage 1#4).wf = false := by decide
theorem test_wf_rejects_known_type : (Instr.unknownTypeMessage .request 1#4).wf = false := by decide
theorem test_wf_rejects_downstream_type : (Instr.misdirectedDownstreamMessage 3#4).wf = false := by decide
theorem test_wf_rejects_entry_128 : (Instr.holdTimeout 128).wf = false := by decide
theorem test_wf_rejects_tag_144 : (Instr.responseTimeout 144).wf = false := by decide
theorem test_wf_rejects_named_opcode : (Instr.badOpcode 12#8).wf = false := by decide
theorem test_wf_rejects_run_with_bit_0_clear : (Instr.run 2#32).wf = false := by decide
theorem test_wf_rejects_stop_with_bit_0_set : (Instr.stop 1#32).wf = false := by decide
theorem test_wf_rejects_restart_with_bit_1_clear : (Instr.restart 1#32).wf = false := by decide
theorem test_wf_rejects_own_row_words :
    ([0x2C#8, 0x2D#8, 0x30#8, 0x31#8].all fun i => !(Instr.registerWrite i 0#32).wf) = true := by decide
theorem test_wf_accepts : ([Instr.misdirectedUpstreamMessage 4#4, .unknownTypeMessage .memory 0#4,
    .misdirectedDownstreamMessage 2#4, .holdTimeout 127, .responseTimeout 143, .badOpcode 13#8, .run 1#32, .stop 0#32,
    .restart 2#32, .registerWrite 0x98#8 0#32].all Instr.wf) = true := by decide

/-! ## Small states -/

/-- GUARDING with both links up: window 0 GUARD on pages 0 to 15, window 1 CENSUS on 16 to 31, window 2 FENCE on 32 to 47,
window 3 PASS on 48 to 63, a pool of four frames at page 100. -/
def base : State :=
  { State.reset with
    windows := ⟨[(0, ⟨true, .guard, 0#28, 16#16, 0#16⟩), (1, ⟨true, .census, 16#28, 16#16, 16#16⟩),
      (2, ⟨true, .fence, 32#28, 16#16, 0#16⟩), (3, ⟨true, .pass, 48#28, 16#16, 0#16⟩)]⟩
    pstAssigned := 32
    pool := ⟨100#28, 4#16, 2#15, [0, 1, 2, 3], []⟩
    port := { State.reset.port with up := true, credits := 8 }
    mem := { State.reset.mem with up := true, credits := 8 }
    ctl := { State.reset.ctl with state := .guarding } }

/-- `base` with a LIVE mark of sequence 1 in slot 0 and one of sequence 2 in slot 1. -/
def marked : State :=
  { base with
    slots := ⟨[(0, ⟨.live, 1#32, .command, false, 0, none, none⟩), (1, ⟨.live, 2#32, .command, false, 0, none, none⟩)]⟩
    nextSeq := 3#32 }

/-- `base` with LIVE marks 1 to 4 in slots 0 to 3. -/
def full : State :=
  { base with
    slots := ⟨[(0, ⟨.live, 1#32, .command, false, 0, none, none⟩), (1, ⟨.live, 2#32, .command, false, 0, none, none⟩),
      (2, ⟨.live, 3#32, .auto, false, 0, none, none⟩), (3, ⟨.live, 4#32, .auto, false, 0, none, none⟩)]⟩
    nextSeq := 5#32 }

/-- A state with every channel BLOCKED. -/
def blocked (s : State) : State :=
  { s with channels :=
      ⟨[(0, ⟨.blocked, none, 0, 0⟩), (1, ⟨.blocked, none, 0, 0⟩), (2, ⟨.blocked, none, 0, 0⟩), (3, ⟨.blocked, none, 0, 0⟩)]⟩ }

/-- `marked` with record 0 VALID for page `x` at slot `q`, alone in the chain and in the journal. -/
def savedAt (x q : Nat) : State :=
  { marked with
    slots := marked.slots.set .freed q { marked.slot q with count := 1, head := some 0, tail := some 0 }
    pst := ⟨[(x, ⟨some 0, none, none, true, 0#32⟩)]⟩
    records := ⟨[(0, ⟨.valid, some x, some x, some q, none, none, none, false, true⟩)]⟩
    pool := { marked.pool with free := [1, 2, 3] } }

/-- Page 5 saved at slot `q`. -/
def saved (q : Nat) : State := savedAt 5 q

/-- `s` in an operating state. -/
def inState (o : OpState) (s : State) : State := { s with ctl := { s.ctl with state := o, causeCommand := o == .degraded } }

/-- `s` with a sweep of kind `k` in phase `p`. -/
def sweeping (k : SweepKind) (p : Phase) (s : State) : State :=
  { s with sweep := { s.sweep with kind := k, cause := some .discard, phase := p } }

/-- `s` with COMMAND_ARG's sequence. -/
def naming (q : Seq) (s : State) : State := { s with mgmt := { s.mgmt with argSeq := q } }

/-- An entry for page 5, class GUARD, in state `st`, deadline 0. -/
def waiter (st : EntryState) (next : Option Nat) : Entry :=
  ⟨st, .write, 0x5000#40, 1, [1#64], List.replicate 64 7#8, some .guard, some 0, some 5, 2#32, next, none, some 0, 0#40⟩

/-- `s` with entry 3 alone in page 5's list, HELD on `on` under stamp `stamp`. -/
def holding (on : HeldOn) (stamp : Seq) (s : State) : State :=
  { s with
    entries := ⟨[(3, { waiter .held none with heldOn := some on, stamp := stamp })]⟩
    pst := s.pst.set .clear 5 { s.page 5 with waitHead := some 3, waitTail := some 3 } }

/-- `s` with an intake in state `i`. -/
def intaking (i : Intake) (s : State) : State := { s with port := { s.port with intake := i } }

/-- An ISSUED read of line 0 of page 5 under tag 3, its tag in state `ts`. -/
def inFlight (ts : TagState) (s : State) : State :=
  { s with
    entries := ⟨[(3, ⟨.issued, .read, 0x5000#40, 1, [], [], some .guard, some 0, some 5, 0#32, none, none, none, 0x5000#40⟩)]⟩
    tags := ⟨[(3, ⟨ts, .read, 0x5000#40, 1, [], [], 0, some 0⟩)]⟩
    mem := { s.mem with takeList := [3], sendQueue := if ts = .queued then [3] else [] } }

/-- A preservation of page 5 into frame 0 RUNNING in channel 0, chunk `i` on tag 128 with use `u`. -/
def copying (u : TagUse) (next done : Nat) : State :=
  { saved 1 with
    records := ⟨[(0, ⟨.copying, some 5, some 5, some 1, none, none, none, false, true⟩)]⟩
    channels := ⟨[(0, ⟨.running, some ⟨.preservation, 0, 5, 100, false⟩, next, done⟩)]⟩
    copyTags := ⟨[(128, ⟨u, List.replicate 256 0#8⟩)]⟩
    tags := ⟨[(128, ⟨.outstanding, .write, 0x64000#40, 4, List.replicate 4 (BitVec.allOnes 64), [], 0, some 200⟩)]⟩
    mem := { base.mem with takeList := [128] } }

/-- A record of page 5 under a sweep's cursor. -/
def walking (k : SweepKind) (p : Phase) (st : RecState) (q : Nat) (pred : Option Nat) : State :=
  { saved q with
    records := ⟨[(0, ⟨st, some 5, some 5, some q, none, none, none, false, true⟩)]⟩
    slots := (saved q).slots.set .freed q { (saved q).slot q with state := .retiring }
    sweep := { base.sweep with
      kind := k, cause := some .discard, phase := p, retiring := some q, predecessor := pred, order := [(q, some 0)]
      cursor := some 0, walkSlot := some q } }

/-- `saved 0` in a rollback to slot 0, slot 1 newer, in phase `p`, with drain set `d`. -/
def unwinding (p : Phase) (d : List Nat) (drop : Bool) : State :=
  { saved 0 with sweep := { base.sweep with
      kind := .rollback, cause := some .rollback, phase := p, target := some 0, drop := drop, drainSet := d } }

/-- The restore phase of a rollback to slot 0 with every channel BLOCKED, record 0 in state `st` being page 5's only source
and under the cursor. -/
def restoringWalk (st : RecState) (offer : Option Nat) : State :=
  blocked { unwinding .restore [] false with
    records := ⟨[(0, ⟨st, some 5, some 5, some 0, none, none, none, false, true⟩)]⟩
    sweep := { (unwinding .restore [] false).sweep with
      cursor := some 0, walkSlot := some 0, order := [(0, some 0)], boundary := some 0, offer := offer } }

/-- The state that a command leaves. -/
def after (c : Instr) (s : State) : State :=
  match exec c s with
  | .next t => t
  | _ => s

/-- With the arbiter's queues empty, the intake OPEN and no credit due, the end of a step has nothing to do. -/
theorem settled_of {s : State} (h : s.port.due = 0) (h1 : s.sweep.demand = []) (h2 : s.wp.queue = [])
    (h3 : s.sweep.offer = none) (h4 : s.port.intake = .opened) : s.Settled :=
  ⟨h, Or.inr ⟨h1, h2, h3⟩, fun h => by rw [h4] at h; cases h⟩

/-- The same with an entry in use, in every state of the intake. -/
theorem settled_busy {s : State} (h : s.port.due = 0) (h1 : s.sweep.demand = []) (h2 : s.wp.queue = [])
    (h3 : s.sweep.offer = none) (h4 : s.emptyCondition = false) : s.Settled :=
  ⟨h, Or.inr ⟨h1, h2, h3⟩, fun _ => h4⟩

/-- Every record has sound parity where the listed ones do. -/
theorem records_sound {s : State} (h : (s.records.cells.all fun c => c.2.parityOk) = true) (y : Nat) :
    (s.record y).parityOk = true := Table.get_all (p := Record.parityOk) rfl h y

/-- Every PST entry has sound parity where the listed ones do. -/
theorem pages_sound {s : State} (h : (s.pst.cells.all fun c => c.2.parityOk) = true) (p : Nat) :
    (s.page p).parityOk = true := Table.get_all (p := PstEntry.parityOk) rfl h p

/-! ## A state for the hypotheses of each statement -/

theorem test_idle_hypotheses : base.pending = [] := rfl

/-- A due tick, a due interval end, a due hold deadline and a due response deadline all occur, together in log 2's order, and
a deadline one microsecond away is due where one of two is not. -/
theorem test_idle_events :
    (match step { inFlight .queued base with
        entries := ⟨[(3, waiter .parked none), (4, waiter .frameWait none)]⟩
        sampler := ⟨true, 0#2, 5#16, 1#16, 9, false⟩ } with
      | .next t => t.pending | _ => []) = [.intervalEnd, .holdTimeout 3, .holdTimeout 4, .responseTimeout 3] ∧
    (let s : State := { base with entries := ⟨[(4, { waiter .held none with deadline := some 1 }),
        (5, { waiter .waiting none with deadline := some 2 })]⟩ }
     holdReached s (s.now + 1) 4 = true ∧ holdReached s (s.now + 1) 5 = false) ∧
    (match step { inFlight .queued base with sampler := ⟨true, 0#2, 5#16, 1#16, 9, false⟩ } with
      | .next t => t.pending | _ => []) = [.intervalEnd, .responseTimeout 3] ∧
    (match step { base with
        entries := ⟨[(4, waiter .parked none)]⟩, sampler := ⟨true, 0#2, 5#16, 2#16, 9, false⟩ } with
      | .next t => t.pending | _ => []) = [.samplingTick, .holdTimeout 4] := by decide +kernel

theorem test_laws_hypotheses : State.Lawful { State.reset with pending := [.mark] } ∧
    ∃ t, step { State.reset with pending := [.mark] } = .next t :=
  ⟨⟨by decide, by decide, fun _ => rfl, by decide, by decide, by decide, by decide, by decide, by decide, by decide⟩, _, rfl⟩

theorem test_engine_hypotheses : engineCommand .sendRequest = true ∧ clearsFlags .sendRequest = false ∧
    ({ base with mgmt := { base.mgmt with firstError := ⟨.protocol, none, none, none, true⟩ } } : State).mgmt.firstError.kind
      ≠ .none := by decide

theorem test_flags_hypotheses : clearsFlags .mark = false ∧
    ({ base with mgmt := { base.mgmt with flags := 1#21 } } : State).flag .cmdDone = true := by decide

theorem test_protected_hypotheses : base.ctl.state ≠ .config ∧ isReset .mark = false ∧ State.reset.ctl.state = .config := by
  decide

theorem test_first_error_hypotheses : base.mgmt.firstError.kind = .none := by decide

theorem test_protected_write_clauses : State.reset.ctl.state = .config ∧ (0x80#8).toNat = 0x80 + 2 * 0 ∧
    (0x8E#8).toNat = 0x80 + 2 * 7 ∧ (0x81#8).toNat = 0x81 + 2 * 0 ∧ (0x8F#8).toNat = 0x81 + 2 * 7 := by decide

theorem test_ignored_write_clauses :
    (0x80 ≤ (0x95#8).toNat ∧ (0x95#8).toNat ≤ 0x95 ∧ base.ctl.state ≠ .config) ∧
    ((0xFF#8).toNat < 0x80 ∨ 0x95 < (0xFF#8).toNat) ∧
    (0xFF#8) ∉ [0x2C#8, 0x2D#8, 0x30#8, 0x31#8, 0x32#8, 0x33#8, 0x98#8, 0x9C#8] ∧
    (0x7F#8) ∉ [0x2C#8, 0x2D#8, 0x30#8, 0x31#8, 0x32#8, 0x33#8, 0x98#8, 0x9C#8] := by decide

theorem test_unnamed_index_clauses :
    ((0x13 ≤ (0x13#8).toNat ∧ (0x13#8).toNat < 0x18) ∧ (0x13 ≤ (0x17#8).toNat ∧ (0x17#8).toNat < 0x18)) ∧
    ((0x38 ≤ (0x38#8).toNat ∧ (0x38#8).toNat < 0x40) ∧ (0x38 ≤ (0x3F#8).toNat ∧ (0x3F#8).toNat < 0x40)) ∧
    0x9F ≤ (0x9F#8).toNat ∧ 0x9F ≤ (0xFF#8).toNat := by decide

theorem test_command_word_clauses : ((0x0C#32).extractLsb' 0 8).toNat = 12 ∧ 13 ≤ ((0x0D#32).extractLsb' 0 8).toNat ∧
    ((0x100#32).extractLsb' 0 8).toNat = 0 := by decide

theorem test_scheduler_write_sets_roll : base.sched.roll = false ∧ (2#32).getLsbD 1 = true ∧ (0#32).getLsbD 1 = false := by
  decide

theorem test_pressure_hypotheses :
    let s : State := { marked with sched := { marked.sched with roll := true }, pool := { marked.pool with free := [] } }
    s.sched.roll = true ∧ s.pool.free.length < s.pool.lowWater.toNat ∧ 2 ≤ s.liveCount ∧ s.sweep.kind = .none := by decide

/-- The timer with a tick to take, at count `n`. -/
def ticking (n : BitVec 16) : State := { base with sampler := ⟨true, 0#2, 5#16, n, 0, true⟩ }

theorem test_tick_hypotheses :
    (ticking 2#16).sampler.running = true ∧ (ticking 2#16).sampler.tick = true ∧ (ticking 2#16).sampler.count ≠ 1#16 ∧
    base.sampler.tick = false ∧ base.sampler.running = false := by decide

/-- A restart that overtakes a tick: the count is reloaded, and the tick then takes one. -/
theorem test_restart_before_tick :
    (match exec (.restart 0x00050003#32) (ticking 1#16) with
      | .next t => (match exec .intervalEnd t with | .next u => u.sampler.count | _ => 0#16)
      | _ => 0#16) = 4#16 := by decide +kernel

theorem test_interval_hypotheses :
    let s := ticking 1#16
    s.sampler.running = true ∧ s.sampler.tick = true ∧ s.sampler.count = 1#16 ∧
    s.activity.canonical .zero = true ∧ s.sched.enable = false ∧ s.pressureCheck = s := by decide +kernel

/-- The scheduler enabled with `n` interval ends to go, a quiet threshold of `q` and at most `m` deferrals. -/
def auto (n : BitVec 8) (q : BitVec 16) (m : BitVec 6) (roll : Bool) (s : State) : State :=
  { s with sched := { s.sched with enable := true, roll := roll, periodCounter := n, quiet := q, maxDeferrals := m } }

theorem test_auto_mark_clauses :
    base.sched.enable = false ∧ 1 < (auto 2#8 0#16 1#6 false base).sched.periodCounter.toNat ∧
    (let s := { auto 1#8 0#16 1#6 false base with activity := ⟨[(0, ⟨.zero, ⟨0#32, 3#32, 0#32, 0#32⟩⟩)]⟩ }
     s.sched.quiet.toNat < s.guardedTotal ∧ s.sched.deferrals.toNat < s.sched.maxDeferrals.toNat) ∧
    (let s := auto 0#8 0#16 0#6 false base
     s.sched.periodCounter.toNat ≤ 1 ∧ s.guardedTotal ≤ s.sched.quiet.toNat ∧ s.ctl.state = .guarding ∧
       s.sweep.kind = .none ∧ s.nextSeq ≠ 0#32 ∧ s.liveCount < 4 ∧ (s.slot 0).state = .free) ∧
    (inState .degraded (auto 0#8 0#16 0#6 false base)).ctl.state ≠ .guarding ∧
    (sweeping .commit .walk base).sweep.kind = .commit ∧ ({ base with nextSeq := 0#32 } : State).nextSeq = 0#32 ∧
    (4 ≤ full.liveCount ∧ full.sched.roll = false) ∧
    (let s := sweeping .discard .walk (auto 0#8 0#16 0#6 true full)
     s.sweep.kind = .discard ∧ 4 ≤ s.liveCount ∧ s.sched.roll = true ∧ s.nextSeq ≠ 0#32) ∧
    (let s := auto 1#8 0#16 0#6 true full
     s.sched.enable = true ∧ s.sched.periodCounter.toNat ≤ 1 ∧ s.guardedTotal ≤ s.sched.quiet.toNat ∧
       s.ctl.state = .guarding ∧ s.sweep.kind = .none ∧ s.nextSeq ≠ 0#32 ∧ s.liveCount = 4 ∧ s.sched.roll = true ∧
       (s.slot 4).state = .free ∧ (s.slot 0).state = .live ∧
       ∀ j, j < 5 → j ≠ 0 → (s.slot j).state = .live → (s.slot 0).seq < (s.slot j).seq) := by decide +kernel

theorem test_fault_pop_clauses : ({ base with sweep := { base.sweep with faultList := [9] } } : State).sweep.faultList =
    9 :: [] ∧ base.sweep.faultList = [] ∧ base.sweep.faultList.length < 16 := ⟨rfl, rfl, by decide⟩

theorem test_mark_clauses :
    (inState .degraded base).ctl.state ≠ .guarding ∧ (sweeping .rollback .drain base).sweep.kind = .rollback ∧
    (base.ctl.state = .guarding ∧ base.sweep.kind = .none ∧ base.nextSeq ≠ 0#32 ∧ base.liveCount < 4 ∧
      (base.slot 0).state = .free) ∧
    (full.liveCount = 4 ∧ full.mgmt.argRoll = false ∧ (full.slot 4).state = .free ∧ (full.slot 0).state = .live ∧
      ∀ j, j < 5 → j ≠ 0 → (full.slot j).state = .live → (full.slot 0).seq < (full.slot j).seq) ∧
    ({ full with mgmt := { full.mgmt with argRoll := true } } : State).mgmt.argRoll = true ∧
    (sweeping .discard .walk full).sweep.kind = .discard ∧ ({ full with nextSeq := 0#32 } : State).nextSeq = 0#32 := by
  decide +kernel

theorem test_named_mark_clauses :
    (inState .config base).ctl.state = .config ∧ (sweeping .discard .walk base).sweep.kind ≠ .none ∧
    (∀ q, q < 5 → (marked.slot q).state = .live → (marked.slot q).seq ≠ marked.mgmt.argSeq) ∧
    (let s := naming 2#32 marked
     s.ctl.state = .guarding ∧ s.sweep.kind = .none ∧ s.ctl.tableFault = false ∧ (s.slot 1).state = .live ∧
       (s.slot 1).seq = s.mgmt.argSeq ∧ s.mgmt.argForce = false ∧
       (∀ j, j < 5 → (s.slot j).state = .live → (s.slot j).seq = s.mgmt.argSeq → j = 1) ∧
       ∀ j, j < 5 → (s.slot j).state = .live → (s.slot 1).seq ≤ (s.slot j).seq → (s.slot j).damaged = false) ∧
    (let s := { naming 1#32 marked with slots := marked.slots.set .freed 1 { marked.slot 1 with damaged := true } }
     s.mgmt.argForce = false ∧ (s.slot 1).state = .live ∧ (s.slot 0).seq ≤ (s.slot 1).seq ∧ (s.slot 1).damaged = true) ∧
    ({ marked with ctl := { marked.ctl with tableFault := true } } : State).ctl.tableFault = true := by decide +kernel

theorem test_commit_settled : marked.Settled ∧ base.Settled ∧ (inState .degraded base).Settled ∧
    (sweeping .discard .walk base).Settled :=
  ⟨settled_of rfl rfl rfl rfl rfl, settled_of rfl rfl rfl rfl rfl, settled_of rfl rfl rfl rfl rfl,
    settled_of rfl rfl rfl rfl rfl⟩

theorem test_commit_clauses :
    (marked.ctl.state = .guarding ∧ marked.sweep.kind = .none ∧ 0 < marked.liveCount) ∧
    (base.tablesCanonical = true ∧ base.liveCount = 0 ∧ base.leftRecords = []) ∧
    (∀ p, (base.page p).parityOk = true) :=
  ⟨by decide +kernel, by decide +kernel, pages_sound rfl⟩

theorem test_recover_clauses :
    (let s := inState .degraded marked
     s.ctl.state = .degraded ∧ s.mem.up = true ∧ s.sweep.kind = .none ∧ s.copyIdle = true ∧ 0 < s.liveCount) ∧
    (inState .degraded base).tablesCanonical = true ∧ (inState .degraded base).liveCount = 0 ∧ (inState .degraded base).leftRecords = [] ∧
    (copying (.read 0) 1 0).copyIdle = false ∧ (∀ p, ((inState .degraded base).page p).parityOk = true) :=
  ⟨by decide +kernel, by decide, by decide +kernel, by decide +kernel, by decide +kernel, pages_sound rfl⟩

theorem test_quiesce_clauses :
    (inFlight .queued base).Settled ∧ (inFlight .queued base).emptyCondition = false ∧ base.emptyCondition = true ∧
    base.port.intake = .opened ∧
    (let s : State := { base with port := { base.port with intake := .closed } }; s.Settled ∧ s.port.intake ≠ .opened) :=
  ⟨settled_of rfl rfl rfl rfl rfl, by decide +kernel, by decide +kernel, rfl,
    ⟨rfl, Or.inr ⟨rfl, rfl, rfl⟩, fun h => by cases h⟩, by decide⟩

/-- `s` with writes 4 and 13 in FRAME_WAIT, 4 the longer waiting, alone in page 7's list, and a read behind 13 in page
6's. -/
def lined (s : State) : State :=
  { s with
    entries := ((s.entries.set .freed 4 { waiter .frameWait none with address := 0x7000#40, pst := some 7 }).set .freed 13
      { waiter .frameWait (some 20) with address := 0x6000#40, pst := some 6 }).set .freed 20
      { waiter .waiting none with kind := .read, masks := [], data := [], address := 0x6000#40, pst := some 6 }
    pst := (s.pst.set .clear 6 { s.page 6 with waitHead := some 13, waitTail := some 20 }).set .clear 7
      { s.page 7 with waitHead := some 4, waitTail := some 4 }
    pool := { s.pool with wait := [4, 13] } }

/-- The writes in FRAME_WAIT of a state, each read from it. -/
theorem waitersStand_of {s : State}
    (h : ∀ n, n ∈ s.pool.wait → (s.entry n).state = .frameWait ∧
      ((s.entry n).pst.any fun x => decide ((s.page x).waitHead = some n ∧ (s.page x).parityOk = true ∧
        s.sources x = [])) = true)
    (h1 : ∀ m, m ∈ waitersIssued s → m < 128 ∧ ((s.entry m).state = .frameWait ∨ (s.entry m).state = .waiting))
    (h2 : (waitersIssued s).Nodup) (h3 : (s.records.cells.all fun c => c.2.parityOk) = true) : WaitersStand s :=
  ⟨fun n hn => ⟨(h n hn).1, by
      obtain ⟨x, hx, hp⟩ := (Option.any_eq_true _ _).1 (h n hn).2
      have hp := of_decide_eq_true hp
      exact ⟨x, hx, hp.1, hp.2.1, fun _ => hp.2.2⟩⟩, h1, h2, fun _ => records_sound h3⟩

/-- Writes in FRAME_WAIT at the entry to DEGRADED, a request behind one of them: with no sweep, with an idle copy engine; and
in a restore phase. -/
theorem test_waiters_clauses :
    ((lined marked).Settled ∧ (lined marked).ctl.state = .guarding ∧ (lined marked).mem.up = true ∧
      (lined marked).copyIdle = true ∧ WaitersStand (lined marked) ∧ waitersIssued (lined marked) = [4, 13, 20]) ∧
    (let s := lined (restoringWalk .valid none)
     s.Settled ∧ s.ctl.state = .guarding ∧ s.restoring = true ∧ WaitersStand s) :=
  ⟨⟨settled_of rfl rfl rfl rfl rfl, rfl, rfl, by decide +kernel,
      waitersStand_of (by decide +kernel) (by decide +kernel) (by decide +kernel) rfl, by decide +kernel⟩,
    settled_of rfl rfl rfl rfl rfl, rfl, rfl,
    waitersStand_of (by decide +kernel) (by decide +kernel) (by decide +kernel) rfl⟩

theorem test_degrade_clauses : base.ctl.state = .guarding ∧ base.pool.wait = [] ∧
    (inState .degraded base).ctl.state = .degraded ∧ (inState .recovering base).ctl.state = .recovering := by decide

theorem test_config_enter_clauses :
    (inState .recovering base).ctl.state = .recovering ∧ (copying (.read 0) 1 0).copyIdle = false ∧
    (marked.ctl.state = .guarding ∧ marked.sweep.kind = .none ∧ marked.copyIdle = true ∧ (marked.slot 0).state ≠ .free) ∧
    (base.copyIdle = true ∧ ∀ q, q < 5 → (base.slot q).state = .free) := by decide +kernel

/-- CONFIG with the windows of a list. -/
def configured (l : List (Nat × Window)) (pool : Pool) : State := { State.reset with windows := ⟨l⟩, pool := pool }

/-- A state for each failure of CONFIG_EXIT, in the order of the checks, at the boundary value where there is one. -/
theorem test_config_exit_clauses :
    (let s := configured [(7, ⟨true, .pass, 268435455#28, 2#16, 0#16⟩)] base.pool
     (s.window 7).enable = true ∧ (s.window 7).base.toNat + (s.window 7).pages = 268435457) ∧
    (let s := configured [] { base.pool with frames := 16385#16 }; 16384 < s.pool.frames.toNat) ∧
    (let s := configured [(0, ⟨true, .guard, 0#28, 16#16, 0#16⟩)] { base.pool with frames := 0#16 }
     s.pool.frames = 0#16 ∧ (s.window 0).enable = true ∧ (s.window 0).mode = .guard) ∧
    (let s := configured [] { base.pool with base := 268435452#28, frames := 5#16 }
     268435456 < s.pool.base.toNat + s.pool.frames.toNat ∧ s.pool.frames.toNat ≤ 16384) ∧
    (let s := configured [(0, ⟨true, .pass, 0#28, 1#16, 0#16⟩), (1, ⟨true, .pass, 0#28, 2#16, 0#16⟩)] base.pool
     (s.window 0).base.toNat ≤ 0 ∧ 0 < (s.window 0).base.toNat + (s.window 0).pages ∧
       (s.window 1).base.toNat ≤ 0 ∧ 0 < (s.window 1).base.toNat + (s.window 1).pages) ∧
    (let s := configured [(2, ⟨true, .pass, 99#28, 2#16, 0#16⟩)] base.pool
     (s.window 2).base.toNat ≤ 100 ∧ 100 < (s.window 2).base.toNat + (s.window 2).pages ∧ s.poolHolds 100 = true) ∧
    (let s := configured [(0, ⟨true, .guard, 1000#28, 0#16, 0#16⟩), (1, ⟨true, .census, 100000#28, 1#16, 0#16⟩)] base.pool
     65536 < s.pstPages [0, 1, 2, 3, 4, 5, 6, 7]) := by decide +kernel

/-- One window of one page passes every check. -/
theorem test_config_valid :
    let s := configured [(0, ⟨true, .guard, 0#28, 1#16, 0#16⟩)] base.pool
    s.ctl.state = .config ∧ configValid s ∧ s.liveCount = 0 ∧ s.pool.wait = [] ∧ s.tablesCanonical = true := by
  refine ⟨rfl, ⟨by decide +kernel, by decide, by decide, by decide, ?_, ?_, by decide +kernel⟩, by decide, rfl, by decide⟩
  · intro a b h hb ha he
    have key : ∀ b, b < 8 → 0 < b →
        ((configured [(0, ⟨true, .guard, 0#28, 1#16, 0#16⟩)] base.pool).window b).enable = false := by decide +kernel
    rw [key b hb (by omega)] at he; cases he
  · rintro w hw he ⟨p, ⟨-, h2⟩, hp⟩
    have key : ∀ w, w < 8 →
        ((configured [(0, ⟨true, .guard, 0#28, 1#16, 0#16⟩)] base.pool).window w).enable = true → w = 0 := by decide +kernel
    obtain rfl := key w hw he
    have h3 : p < 1 := h2
    obtain rfl : p = 0 := by omega
    revert hp; decide

theorem test_mark_resolution_clauses :
    (∀ q, q < 5 → (base.slot q).state ≠ .live) ∧ (marked.slot 0).state = .live ∧ marked.effective 1#32 = some 0 ∧
    marked.effective 0#32 = none ∧ ((walking .discard .walk .valid 1 none).slot 1).state = .retiring ∧
    (walking .discard .walk .valid 1 none).resolved ((saved 1).record 0) = some 0 ∧
    (walking .discard .walk .valid 0 none).resolved ((saved 0).record 0) = none := by decide +kernel

theorem test_class_clauses :
    base.ctl.state ≠ .config ∧ (base.pool.base.toNat ≤ 103 ∧ 103 < base.pool.base.toNat + base.pool.frames.toNat) ∧
    (∀ w, w < 8 → (base.window w).enable = true →
      ¬((base.window w).base.toNat ≤ 64 ∧ 64 < (base.window w).base.toNat + (base.window w).pages)) ∧
    ((base.window 0).base.toNat ≤ 15 ∧ 15 < (base.window 0).base.toNat + (base.window 0).pages) ∧
    (∀ v, v < 8 → v ≠ 0 → (base.window v).enable = true →
      ¬((base.window v).base.toNat ≤ 15 ∧ 15 < (base.window v).base.toNat + (base.window v).pages)) := by decide +kernel

/-! ## Requests -/

/-- A request of one line to `address` under tag 3 is accepted by `s`. -/
theorem accepts_of {s : State} {address : Addr} (h1 : s.port.up = true) (h2 : 0 < s.port.credits)
    (h3 : (s.entry 3).state = .free) (h4 : formOk 0#2 address = true) : s.Accepts 3#8 0#2 address :=
  ⟨h1, h2, by decide, h3, h4⟩

theorem test_passed_clauses :
    base.Accepts 3#8 0#2 0x30000#40 ∧ base.Settled ∧ base.classify (pageOf 0x30000#40) = (.pass, some 3) ∧
    base.classify (pageOf 0x40000#40) = (.unwindowed, none) ∧ base.classify (pageOf 0x20000#40) = (.fence, some 2) ∧
    State.reset.classify (pageOf 0x30000#40) = (.passThrough, none) ∧
    payloadOk 0#2 [1#64] (List.replicate 64 7#8) = true ∧ base.mem.up = true ∧ base.port.intake = .opened ∧
    ({ base with mem := State.reset.mem } : State).mem.up = false :=
  ⟨accepts_of rfl (by decide) rfl (by decide), settled_of rfl rfl rfl rfl rfl, by decide +kernel, by decide +kernel,
    by decide +kernel, by decide +kernel, by decide +kernel, rfl, rfl, rfl⟩

theorem test_census_clauses :
    base.Accepts 3#8 0#2 0x10000#40 ∧ base.Settled ∧ base.classify (pageOf 0x10000#40) = (.census, some 1) ∧
    base.pstIndex 1 (pageOf 0x10000#40) = 16 ∧ marked.effective marked.stampNow = some 1 ∧
    (marked.page 16).touch ≠ (marked.slot 1).seq ∧ base.effective base.stampNow = none ∧
    (let s : State := { marked with pst := ⟨[(16, ⟨none, none, none, true, 2#32⟩)]⟩ }
     s.effective s.stampNow = some 1 ∧ (s.page 16).touch = (s.slot 1).seq) :=
  ⟨accepts_of rfl (by decide) rfl (by decide), settled_of rfl rfl rfl rfl rfl, by decide +kernel, by decide +kernel,
    by decide +kernel, by decide +kernel, by decide +kernel, by decide +kernel⟩

theorem test_refused_clauses :
    base.Settled ∧ base.port.intake = .opened ∧ base.port.up = true ∧ 0 < base.port.credits ∧ (3#8).toNat < 128 ∧
    (base.entry 3).state = .free ∧ formOk 0#2 0x64000#40 = true ∧ (base.classify (pageOf 0x64000#40)).1 = .pool ∧
    base.classify (pageOf 0x20000#40) = (.fence, some 2) ∧ payloadOk 0#2 [1#64] (List.replicate 64 7#8) = true ∧
    formOk 3#2 0#40 = false ∧ formOk 2#2 64#40 = false ∧ payloadOk 1#2 [1#64] (List.replicate 64 7#8) = false :=
  ⟨settled_of rfl rfl rfl rfl rfl, rfl, rfl, by decide, by decide, rfl, by decide, by decide +kernel, by decide +kernel,
    by decide +kernel, by decide, by decide, by decide +kernel⟩

/-- An arrival in every state of the intake: with an entry in use, and in CLOSED with none. -/
theorem test_arrival_intake_clauses :
    (∀ i, let s := intaking i { base with entries := ⟨[(4, waiter .parked none)]⟩ }
     s.Settled ∧ s.Accepts 3#8 0#2 0x20000#40 ∧ s.port.intake = i) ∧
    (let s := intaking .closed base
     s.Settled ∧ s.Accepts 3#8 0#2 0x20000#40 ∧ s.port.intake = .closed ∧ s.emptyCondition = true) :=
  ⟨fun i => ⟨settled_busy rfl rfl rfl rfl (by cases i <;> decide +kernel), accepts_of rfl (show 0 < 8 by decide) rfl
      (by decide), rfl⟩,
    ⟨rfl, Or.inr ⟨rfl, rfl, rfl⟩, fun h => by cases h⟩, accepts_of rfl (show 0 < 8 by decide) rfl (by decide), rfl,
    by decide +kernel⟩

theorem test_dropped_clauses :
    base.port.up = true ∧ base.port.due = 0 ∧ 0 < base.port.credits ∧ 128 ≤ (128#8).toNat ∧
    ((inFlight .queued base).entry 3).state ≠ .free ∧
    ({ base with port := { base.port with credits := 0 } } : State).port.credits = 0 := by decide +kernel

/-- A request of one line to page 5 reaches `s` with an empty wait list. -/
theorem guardArrival_of {s : State} (h1 : s.port.up = true) (h2 : 0 < s.port.credits) (h3 : (s.entry 3).state = .free)
    (h4 : s.port.due = 0) (h5 : s.classify 5 = (.guard, some 0)) (h6 : s.pstIndex 0 5 = 5) (h7 : s.draining = false)
    (h8 : (s.page 5).parityOk = true) (h : (s.records.cells.all fun c => c.2.parityOk) = true)
    (h9 : (s.page 5).waitHead = none) (h10 : (s.page 5).waitTail = none) :
    GuardArrival s 3#8 0#2 0x5000#40 0 5 :=
  ⟨accepts_of h1 h2 h3 (by decide), h4, h5, h6, h7, h8, fun _ y _ => records_sound h y, h9, h10⟩

theorem test_guarded_issue_clauses :
    GuardArrival (saved 1) 3#8 0#2 0x5000#40 0 5 ∧ (saved 1).Settled ∧ (saved 1).mem.up = true ∧ noSource (saved 1) 5 ∧
    ((saved 1).effective (saved 1).stampNow = some 1 ∧ (saved 1).chainTop 5 = some 0 ∧
      ((saved 1).record 0).parityOk = true ∧ ((saved 1).record 0).state = .valid ∧
      (saved 1).resolved ((saved 1).record 0) = some 1) ∧
    GuardArrival base 3#8 0#2 0x5000#40 0 5 ∧ base.effective base.stampNow = none ∧
    GuardArrival (inState .degraded marked) 3#8 0#2 0x5000#40 0 5 :=
  ⟨guardArrival_of rfl (by decide) rfl rfl (by decide +kernel) rfl rfl rfl rfl rfl rfl, settled_of rfl rfl rfl rfl rfl, rfl,
    fun h => absurd h (by decide), by decide +kernel,
    guardArrival_of rfl (by decide) rfl rfl (by decide +kernel) rfl rfl rfl rfl rfl rfl, by decide,
    guardArrival_of rfl (by decide) rfl rfl (by decide +kernel) rfl rfl rfl rfl rfl rfl⟩

/-- A read that arrives in a restore phase, to a page with a rollback source and to one without. -/
theorem test_redirected_read_clauses :
    let s := restoringWalk .valid none
    GuardArrival s 3#8 0#2 0x5000#40 0 5 ∧ s.Settled ∧ s.mem.up = true ∧ s.restoring = true ∧ s.oldestSource 5 = some 0 ∧
    s.sources 6 = [] ∧ readAddress s 5 0x5000#40 = 0x64000#40 :=
  ⟨guardArrival_of rfl (by decide) rfl rfl (by decide +kernel) rfl rfl rfl rfl rfl rfl, settled_of rfl rfl rfl rfl rfl, rfl,
    rfl, by decide +kernel, by decide +kernel, by decide +kernel⟩

/-- A request to page 5 with its form, for the clauses of the requests that wait. -/
theorem test_request_form :
    (ReqKind.read = .read → ([] : List (BitVec 64)) = [] ∧ ([] : List Byte) = []) ∧
    (ReqKind.write = .write → payloadOk 0#2 [1#64] (List.replicate 64 7#8) = true) :=
  ⟨fun _ => ⟨rfl, rfl⟩, fun _ => by decide +kernel⟩

/-- Page 5's list holds entry 4, which waits, when a request under tag 3 arrives, in a restore phase and outside one. -/
def behind (s : State) : State :=
  { s with
    entries := ⟨[(4, waiter .held none)]⟩, pst := s.pst.set .clear 5 { s.page 5 with waitHead := some 4, waitTail := some 4 } }

theorem test_wait_behind_clauses :
    (let s := behind marked
     s.Accepts 3#8 0#2 0x5000#40 ∧ s.Settled ∧ s.classify (pageOf 0x5000#40) = (.guard, some 0) ∧
       s.pstIndex 0 (pageOf 0x5000#40) = 5 ∧ s.draining = false ∧ (s.page 5).parityOk = true ∧
       (s.page 5).waitHead = some 4 ∧ (s.page 5).waitTail = some 4 ∧ 4 ≠ (3#8).toNat) ∧
    (let s := behind (restoringWalk .valid none)
     s.restoring = true ∧ s.draining = false ∧ s.Settled ∧ (s.page 5).waitHead = some 4) :=
  ⟨⟨accepts_of rfl (by decide) rfl (by decide), settled_of rfl rfl rfl rfl rfl, by decide +kernel, rfl, rfl, rfl, rfl, rfl,
    by decide⟩, rfl, rfl, settled_of rfl rfl rfl rfl rfl, rfl⟩

theorem test_parked_clauses :
    let s := unwinding .drain [] false
    s.Accepts 3#8 0#2 0x5000#40 ∧ s.Settled ∧ s.classify (pageOf 0x5000#40) = (.guard, some 0) ∧
    s.pstIndex 0 (pageOf 0x5000#40) = 5 ∧ s.draining = true :=
  ⟨accepts_of rfl (by decide) rfl (by decide), settled_of rfl rfl rfl rfl rfl, by decide +kernel, rfl, rfl⟩

/-- A write to a page with a source: its target VALID, RESTORING, the page queued already, and the demand queue full. -/
theorem test_demand_clauses :
    (let s := restoringWalk .valid none
     GuardArrival s 3#8 0#2 0x5000#40 0 5 ∧ s.Settled ∧ s.restoring = true ∧ s.oldestSource 5 = some 0 ∧
       s.idleChannel = none ∧ (s.record 0).state ≠ .restoring ∧ 5 ∉ s.sweep.demand ∧ s.sweep.demand.length < 128) ∧
    ((restoringWalk .restoring none).record 0).state = .restoring ∧
    (restoringWalk .restoring none).oldestSource 5 = some 0 ∧
    (∀ l : List Nat, ({ restoringWalk .valid none with
      sweep := { (restoringWalk .valid none).sweep with demand := l } } : State).Settled) :=
  ⟨⟨guardArrival_of rfl (by decide) rfl rfl (by decide +kernel) rfl rfl rfl rfl rfl rfl, settled_of rfl rfl rfl rfl rfl, rfl,
    by decide +kernel, by decide +kernel, by decide, by decide, by decide⟩, rfl, by decide +kernel,
    fun _ => ⟨rfl, Or.inl rfl, fun h => by cases h⟩⟩

/-- Page 5 with two rollback sources, every channel IDLE: record 0 at the target, slot 0, and the newer record 1 at the
UNWINDING slot 1, which is under the cursor. -/
def twoSources : State :=
  { restoringWalk .valid none with
    channels := ⟨[]⟩
    records := ⟨[(0, ⟨.valid, some 5, some 5, some 0, none, none, none, false, true⟩),
      (1, ⟨.valid, some 5, some 5, some 1, some 0, none, none, false, true⟩)]⟩
    slots := ⟨[(0, ⟨.live, 1#32, .command, false, 1, some 0, some 0⟩),
      (1, ⟨.unwinding, 2#32, .command, false, 1, some 1, some 1⟩)]⟩
    pst := ⟨[(5, ⟨some 1, none, none, true, 0#32⟩)]⟩
    pool := { marked.pool with free := [2, 3] }
    sweep := { (restoringWalk .valid none).sweep with
      cursor := some 1, walkSlot := some 1, order := [(1, some 1), (0, some 0)] } }

/-- The demand taken in the same step: no newer source, and one. -/
theorem test_demand_taken_clauses :
    (let s : State := { restoringWalk .valid none with channels := ⟨[]⟩ }
     GuardArrival s 3#8 0#2 0x5000#40 0 5 ∧ s.Settled ∧ s.restoring = true ∧ s.sources 5 = [] ++ [0] ∧
       (s.record 0).state = .valid ∧ (s.record 0).suspect = false ∧ (s.record 0).pageNumber = some 5 ∧
       (∀ y, (s.record y).parityOk = true) ∧ s.pool.wait = [] ∧ s.mem.up = true ∧ s.idleChannel = some 0) ∧
    (let s := twoSources
     GuardArrival s 3#8 0#2 0x5000#40 0 5 ∧ s.Settled ∧ s.restoring = true ∧ s.sources 5 = [1] ++ [0] ∧
       (s.record 0).state = .valid ∧ (s.record 0).suspect = false ∧ (s.record 0).pageNumber = some 5 ∧
       (∀ y, (s.record y).parityOk = true) ∧ ((s.record 1).state = .valid ∧ 1 ∉ s.pool.free ∧ s.namesJob 1 = false) ∧ s.pool.wait = [] ∧
       s.mem.up = true ∧ s.idleChannel = some 0) :=
  ⟨⟨guardArrival_of rfl (by decide) rfl rfl (by decide +kernel) rfl rfl rfl rfl rfl rfl, settled_of rfl rfl rfl rfl rfl, rfl,
      by decide +kernel, rfl, rfl, rfl, records_sound rfl, rfl, rfl, by decide +kernel⟩,
    ⟨guardArrival_of rfl (by decide) rfl rfl (by decide +kernel) rfl rfl rfl rfl rfl rfl, settled_of rfl rfl rfl rfl rfl, rfl,
      by decide +kernel, rfl, rfl, rfl, records_sound rfl, by decide +kernel, rfl, rfl, by decide +kernel⟩⟩

/-- `restoringWalk` with every channel IDLE and record 0, slot 0's one source, suspect, in operating state `o`; the slot is
UNWINDING or the target. -/
def suspecting (o : OpState) (st : SlotState) : State :=
  { inState o (restoringWalk .valid none) with
    channels := ⟨[]⟩
    slots := marked.slots.set .freed 0 { (saved 0).slot 0 with state := st }
    records := ⟨[(0, ⟨.valid, some 5, some 5, some 0, none, none, none, true, true⟩)]⟩ }

/-- Record 0 of page 5 stands in slot 0's journal. -/
theorem threaded_at_target {s : State} (h : s.record 0 = { s.record 0 with pageIndex := some 5, slot := some 0 })
    (h1 : ((s.slot 0).state == .free) = false) (h2 : (s.chain 5).contains 0 = true) (h3 : (s.journal 0).contains 0 = true)
    (h4 : s.pool.free = [1, 2, 3]) (h5 : (s.records.cells.all fun c => c.2.parityOk) = true)
    (h6 : (s.page 5).parityOk = true) : Threaded s 0 5 0 :=
  ⟨by rw [h], by rw [h], ⟨by decide, fun e => by rw [e] at h1; cases h1⟩, List.contains_iff_mem.1 h2,
    List.contains_iff_mem.1 h3, by rw [h4]; decide, records_sound h5, h6⟩

/-- A demand with an IDLE channel whose target is suspect, in DEGRADED and in GUARDING, and one without an effective mark. -/
theorem test_suspect_demand_clauses :
    (∀ o, o = OpState.guarding ∨ o = .degraded → let s := suspecting o .live
     GuardArrival s 3#8 0#2 0x5000#40 0 5 ∧ s.Settled ∧ s.restoring = true ∧ s.sources 5 = [0] ∧ s.chain 5 = [0] ∧
       (s.record 0).state = .valid ∧ (s.record 0).suspect = true ∧ (s.record 0).pageNumber = some 5 ∧
       Threaded s 0 5 0 ∧ s.namesJob 0 = false ∧ s.pool.wait = [] ∧ s.mem.up = true ∧ s.idleChannel = some 0 ∧
       s.wp.backlog = [] ∧ s.ctl.state = o ∧ s.effective s.stampNow = some 1) ∧
    (let s : State := { suspecting .guarding .unwinding with slots := ⟨[(0, ⟨.unwinding, 1#32, .command, false, 1, some 0, some 0⟩)]⟩ }
     s.sources 5 = [0] ∧ s.effective s.stampNow = none) :=
  ⟨fun o h => by
    rcases h with rfl | rfl <;>
    exact ⟨guardArrival_of rfl (by decide) rfl rfl (by decide +kernel) rfl rfl rfl rfl rfl rfl,
      settled_of rfl rfl rfl rfl rfl, rfl, by decide +kernel, by decide +kernel, rfl, rfl, rfl,
      threaded_at_target rfl rfl (by decide +kernel) (by decide +kernel) rfl rfl rfl, by decide +kernel, rfl, rfl,
      by decide +kernel, rfl, rfl, by decide +kernel⟩, by decide +kernel⟩

/-- Page 5's two sources with the newer one, record 1, in state `st`. -/
def unready (st : RecState) : State :=
  { twoSources with
    records := ⟨[(0, ⟨.valid, some 5, some 5, some 0, none, none, none, false, true⟩),
      (1, ⟨st, some 5, some 5, some 1, some 0, none, none, false, true⟩)]⟩ }

/-- An IDLE channel and a target that is RESTORING, or another source that is not VALID. -/
theorem test_demand_dropped_clauses :
    (let s : State := { restoringWalk .restoring none with channels := ⟨[]⟩ }
     GuardArrival s 3#8 0#2 0x5000#40 0 5 ∧ s.Settled ∧ s.restoring = true ∧ s.oldestSource 5 = some 0 ∧
       s.idleChannel = some 0 ∧ (s.record 0).state = .restoring) ∧
    (let s := unready .copying
     GuardArrival s 3#8 0#2 0x5000#40 0 5 ∧ s.Settled ∧ s.restoring = true ∧ s.oldestSource 5 = some 0 ∧
       s.idleChannel = some 0 ∧ 1 ∈ s.sources 5 ∧ (s.record 1).state ≠ .valid) :=
  ⟨⟨guardArrival_of rfl (by decide) rfl rfl (by decide +kernel) rfl rfl rfl rfl rfl rfl, settled_of rfl rfl rfl rfl rfl, rfl,
      by decide +kernel, by decide +kernel, rfl⟩,
    guardArrival_of rfl (by decide) rfl rfl (by decide +kernel) rfl rfl rfl rfl rfl rfl, settled_of rfl rfl rfl rfl rfl, rfl,
    by decide +kernel, by decide +kernel, by decide +kernel, by decide⟩

/-- A write on an empty list whose page's newest record is COPYING. -/
theorem test_copying_head_clauses :
    let s := copying (.read 0) 1 0
    GuardArrival s 3#8 0#2 0x5000#40 0 5 ∧ s.Settled ∧ noSource s 5 ∧ s.ctl.state ≠ .degraded ∧
    s.effective s.stampNow = some 1 ∧ s.chainTop 5 = some 0 ∧ (s.record 0).parityOk = true ∧
    (s.record 0).state = .copying :=
  ⟨guardArrival_of rfl (by decide) rfl rfl (by decide +kernel) rfl rfl rfl rfl rfl rfl, settled_of rfl rfl rfl rfl rfl,
    fun h => absurd h (by decide), by decide, by decide +kernel, by decide +kernel, rfl, rfl⟩

/-- The first write under a mark: with every channel BLOCKED and no record; and with an IDLE channel, where the page's older
record is at mark 1, or the mark's journal holds another page's record. -/
theorem test_first_write_clauses :
    (let s := blocked marked
     GuardArrival s 3#8 0#2 0x5000#40 0 5 ∧ noSource s 5 ∧ s.idleChannel = none ∧
       payloadOk 0#2 [1#64] (List.replicate 64 7#8) = true ∧ s.ctl.state = .guarding ∧ s.effective s.stampNow = some 1 ∧
       (s.page 5).chainHead = none ∧ s.pool.free = 0 :: [1, 2, 3] ∧ s.wp.queue.length < 128 ∧
       (s.record 0).state = .free ∧ (s.slot 1).tail = none) ∧
    (let s := saved 0
     GuardArrival s 3#8 0#2 0x5000#40 0 5 ∧ noSource s 5 ∧ s.effective s.stampNow = some 1 ∧
       (s.page 5).chainHead = some 0 ∧ s.chainTop 5 = some 0 ∧ (s.record 0).parityOk = true ∧
       (s.record 0).state ≠ .copying ∧ s.recSeq 0 < (s.slot 1).seq ∧ s.pool.free = 1 :: [2, 3] ∧
       (s.record 1).state = .free ∧ (s.slot 1).tail = none ∧ s.idleChannel = some 0 ∧ s.mem.up = true ∧ s.wp.queue = [] ∧
       s.wp.backlog = [] ∧ s.sweep.demand = [] ∧ s.sweep.offer = none) ∧
    (let s := savedAt 6 1
     GuardArrival s 3#8 0#2 0x5000#40 0 5 ∧ (s.page 5).chainHead = none ∧ (s.slot 1).tail = some 0 ∧ 0 ≠ 1 ∧
       (s.record 0).state ≠ .free ∧ (s.record 0).parityOk = true) :=
  ⟨⟨guardArrival_of rfl (by decide) rfl rfl (by decide +kernel) rfl rfl rfl rfl rfl rfl, fun h => absurd h (by decide),
      by decide +kernel, by decide +kernel, rfl, by decide +kernel, rfl, rfl, by decide, rfl, rfl⟩,
    ⟨guardArrival_of rfl (by decide) rfl rfl (by decide +kernel) rfl rfl rfl rfl rfl rfl, fun h => absurd h (by decide),
      by decide +kernel, rfl, by decide +kernel, rfl, by decide, by decide, rfl, rfl, rfl, by decide +kernel, rfl, rfl, rfl,
      rfl, rfl⟩,
    ⟨guardArrival_of rfl (by decide) rfl rfl (by decide +kernel) rfl rfl rfl rfl rfl rfl, rfl, rfl, by decide, by decide,
      rfl⟩⟩

/-- `marked` with no free frame, under policy `p`. -/
def exhausted (p : Policy) : State :=
  { marked with pool := { marked.pool with free := [] }, wp := { marked.wp with policy := p } }

/-- No free frame: on a page with no record, and on one whose newest record is at an older mark. -/
theorem test_exhaustion_clauses (p : Policy) :
    GuardArrival (exhausted p) 3#8 0#2 0x5000#40 0 5 ∧ noSource (exhausted p) 5 ∧ (exhausted p).Settled ∧
    (exhausted p).ctl.state = .guarding ∧ (exhausted p).effective (exhausted p).stampNow = some 1 ∧
    (exhausted p).chainTop 5 = none ∧ (exhausted p).pool.free = [] ∧ (intaking .closed (exhausted p)).Settled ∧
    (exhausted p).wp.policy = p ∧ (exhausted p).mem.up = true ∧
    ({ exhausted p with sched := { base.sched with roll := true } } : State).Settled ∧
    (let s : State := { saved 0 with pool := { (saved 0).pool with free := [] } }
     (s.page 5).chainHead = some 0 ∧ (s.record 0).parityOk = true ∧ s.chainTop 5 = some 0 ∧ (s.record 0).state = .valid ∧
       s.effective s.stampNow = some 1 ∧ s.resolved (s.record 0) ≠ some 1) :=
  ⟨guardArrival_of rfl (show 0 < base.port.credits by decide) rfl rfl (by cases p <;> decide +kernel) rfl rfl rfl rfl rfl
      rfl, fun h => absurd h (by cases p <;> decide), settled_of rfl rfl rfl rfl rfl, rfl,
    by cases p <;> decide +kernel, rfl, rfl, ⟨rfl, Or.inr ⟨rfl, rfl, rfl⟩, fun h => by cases h⟩, rfl, rfl,
    settled_of rfl rfl rfl rfl rfl, by decide +kernel⟩

/-- Entry 3 PARKED; or entry 4 WAITING behind entry 3, which is HELD at the head of page 5's list; or entry 3 alone there. -/
theorem test_hold_timeout_clauses :
    (let s : State := { base with entries := ⟨[(3, waiter .parked none)]⟩ }
     s.Settled ∧ s.port.up = true ∧ (s.entry 3).deadline = some 0 ∧ 0 ≤ s.now ∧ (s.entry 3).state = .parked) ∧
    (let s : State := { base with
        entries := ⟨[(3, waiter .held (some 4)), (4, waiter .waiting none)]⟩
        pst := ⟨[(5, ⟨none, some 3, some 4, true, 0#32⟩)]⟩ }
     s.Settled ∧ (s.entry 4).deadline = some 0 ∧ (s.entry 4).state = .waiting ∧ (s.entry 4).pst = some 5 ∧
       (s.page 5).parityOk = true ∧ s.waitList 5 = [3, 4] ∧ (s.waitList 5).Nodup ∧ (s.waitList 5).length ≤ 128 ∧
       4 ∈ s.waitList 5 ∧ (s.page 5).waitHead ≠ some 4) ∧
    (let s : State := { base with
        entries := ⟨[(3, waiter .frameWait none)]⟩, pst := ⟨[(5, ⟨none, some 3, some 3, true, 0#32⟩)]⟩
        pool := { base.pool with free := [], wait := [3] } }
     s.Settled ∧ (s.entry 3).deadline = some 0 ∧ (s.entry 3).state = .frameWait ∧ (s.entry 3).pst = some 5 ∧
       (s.page 5).parityOk = true ∧ (s.page 5).waitHead = some 3 ∧ (s.page 5).waitTail = some 3 ∧
       (s.entry 3).next = none) :=
  ⟨⟨settled_of rfl rfl rfl rfl rfl, by decide +kernel⟩, ⟨settled_of rfl rfl rfl rfl rfl, by decide +kernel⟩,
    ⟨settled_of rfl rfl rfl rfl rfl, by decide +kernel⟩⟩

/-- Entry 3 at the head of page 5's list, HELD or in FRAME_WAIT, with entry 4 behind it, a read or a write, in operating state
`o`. -/
theorem test_hold_timeout_head_clauses (o : OpState) (k : ReqKind) (st : EntryState) :
    let s : State := { inState o base with
      entries := ⟨[(3, waiter st (some 4)), (4, { waiter .waiting none with kind := k, stamp := 0#32 })]⟩
      pst := ⟨[(5, ⟨none, some 3, some 4, true, 0#32⟩)]⟩ }
    s.Settled ∧ (s.entry 3).deadline = some 0 ∧ (s.entry 3).state = st ∧ (s.entry 3).pst = some 5 ∧
    (s.page 5).parityOk = true ∧ (s.page 5).waitHead = some 3 ∧ (s.entry 3).next = some 4 ∧ 4 ≠ 3 ∧
    (s.entry 4).state = .waiting ∧ (s.entry 4).next = none ∧ (s.page 5).waitTail = some 4 ∧ s.restoring = false ∧
    s.mem.up = true ∧ (s.entry 4).kind = k ∧ s.ctl.state = o ∧ s.effective (s.entry 4).stamp = none :=
  ⟨settled_of rfl rfl rfl rfl rfl, rfl, rfl, rfl, rfl, rfl, rfl, by decide, rfl, rfl, rfl, rfl, rfl, rfl, rfl,
    rfl⟩

/-- With an entry in use a CLOSING or CLOSED intake meets the hypotheses too, for hold timeouts, answers and late
responses. -/
theorem test_intake_clauses :
    (∀ i, (intaking i { base with entries := ⟨[(3, waiter .parked none)]⟩ }).Settled) ∧
    (∀ i, (intaking i (inFlight .outstanding base)).Settled) ∧
    (intaking .closing (inFlight .outstanding base)).port.intake = .closing ∧
    (intaking .closed (inFlight .outstanding base)).port.intake = .closed :=
  ⟨fun i => settled_busy rfl rfl rfl rfl (by cases i <;> decide +kernel),
    fun i => settled_busy rfl rfl rfl rfl (by cases i <;> decide +kernel), rfl, rfl⟩

theorem test_link_clauses :
    base.port.up = true ∧ base.mem.up = true ∧ State.reset.port.up = false ∧ State.reset.mem.up = false ∧
    State.reset.port.intake = .opened ∧ 0 < State.reset.freeEntries ∧ base.Settled ∧ base.tablesCanonical = true ∧
    ({ State.reset with port := { State.reset.port with intake := .closed } } : State).port.intake ≠ .opened :=
  ⟨rfl, rfl, rfl, rfl, rfl, by decide +kernel, settled_of rfl rfl rfl rfl rfl, by decide, by decide⟩

/-! ## The memory port and the copy engine -/

theorem test_send_clauses :
    (let s := inFlight .queued base; s.mem.up = true ∧ 0 < s.mem.credits ∧ s.mem.sendQueue = 3 :: []) ∧
    base.mem.sendQueue = [] ∧
    (let s := inFlight .outstanding base
     (3#8).toNat < 144 ∧ (s.tag 3).state = .outstanding ∧ (s.tag 3).retries < s.mem.retryLimit.toNat) := by decide +kernel

theorem test_answer_clauses :
    let s := inFlight .outstanding base
    s.Settled ∧ s.port.up = true ∧ s.port.intake = .opened ∧ s.mem.up = true ∧ (s.tag 3).state = .outstanding ∧
    (s.entry 3).state = .issued ∧ (s.tag 3).dataGood (List.replicate 64 1#8) = true ∧ (s.tag 3).dataGood [] = false ∧
    ({ s with mem := { s.mem with retryLimit := 0#8 } } : State).mem.retryLimit.toNat ≤ (s.tag 3).retries :=
  ⟨settled_of rfl rfl rfl rfl rfl, rfl, rfl, rfl, rfl, rfl, by decide +kernel, by decide +kernel, by decide⟩

/-- The answer to an ORPHANED entry's request, the link up and down. -/
theorem test_orphaned_answer_clauses (up : Bool) :
    let s : State := { inFlight .outstanding base with
      entries := ⟨[(3, { waiter .orphaned none with deadline := none })]⟩, port := { base.port with up := up } }
    s.Settled ∧ s.mem.up = true ∧ (s.tag 3).state = .outstanding ∧ (s.entry 3).state = .orphaned ∧ s.port.up = up ∧
    (s.tag 3).dataGood (List.replicate 64 1#8) = true ∧ errorAnswer s 3#8 1#4 [] ∧ errorAnswer s 3#8 0#4 [] :=
  ⟨settled_of rfl rfl rfl rfl rfl, rfl, rfl, rfl, rfl, by cases up <;> decide +kernel, Or.inl (by decide),
    Or.inr (Or.inl (by cases up <;> decide +kernel))⟩

theorem test_late_clauses :
    base.mem.up = true ∧ 144 ≤ (144#8).toNat ∧ (base.tag 143).state = .idle ∧
    ((inFlight .queued base).tag 3).state = .queued ∧
    (let s : State := { base with
        entries := ⟨[(3, { waiter .quarantined none with deadline := none })]⟩
        tags := ⟨[(3, ⟨.quarantined, .read, 0x5000#40, 1, [], [], 0, none⟩)]⟩ }
     s.Settled ∧ (s.tag 3).state = .quarantined ∧ (s.entry 3).state = .quarantined ∧
       ({ s with port := { s.port with up := false } } : State).Settled) ∧
    ({ waiter .orphaned none with deadline := none } : Entry).state = .orphaned :=
  ⟨rfl, by decide, rfl, rfl, ⟨settled_of rfl rfl rfl rfl rfl, rfl, rfl, settled_of rfl rfl rfl rfl rfl⟩, rfl⟩

/-- Channel 0 in state `st` with its tag 128 QUARANTINED, its job at chunk `next`. -/
def quarantining (st : ChanState) (job : Option Job) (next : Nat) : State :=
  { base with
    channels := ⟨[(0, ⟨st, job, next, 0⟩)]⟩, copyTags := ⟨[(128, ⟨.quarantined, []⟩)]⟩
    tags := ⟨[(128, ⟨.quarantined, .read, 0x5000#40, 4, [], [], 0, none⟩)]⟩ }

/-- A late response on a channel tag: the channel BLOCKED, and RUNNING with the last chunk taken and with one left. -/
theorem test_late_channel_clauses :
    (let s := quarantining .blocked none 0
     s.Settled ∧ s.wp.queue = [] ∧ s.sweep.demand = [] ∧ s.sweep.offer = none ∧ 128 ≤ (128#8).toNat ∧
       0 = ((128#8).toNat - 128) / 4 ∧ (s.tag 128).state = .quarantined ∧ (s.copyTag 128).use = .quarantined ∧
       (s.chan 0).state = .blocked) ∧
    (let s := quarantining .running (some ⟨.preservation, 0, 5, 100, false⟩) 16
     s.Settled ∧ (s.chan 0).state = .running ∧ 16 ≤ (s.chan 0).nextChunk) ∧
    (let s := quarantining .running (some ⟨.preservation, 0, 5, 100, false⟩) 15
     s.Settled ∧ (s.chan 0).state = .running ∧ (s.chan 0).nextChunk < 16 ∧ (s.chan 0).job.isSome = true) :=
  ⟨⟨settled_of rfl rfl rfl rfl rfl, rfl, rfl, rfl, by decide, by decide, rfl, rfl, rfl⟩,
    ⟨settled_of rfl rfl rfl rfl rfl, rfl, by decide⟩, settled_of rfl rfl rfl rfl rfl, rfl, by decide, rfl⟩

theorem test_response_timeout_clauses (ts : TagState) :
    let s := inFlight ts base
    s.Settled ∧ s.port.up = true ∧ s.port.intake = .opened ∧ (s.entry 3).state = .issued ∧ 0 ≤ s.now ∧
    (ts = .queued ∨ ts = .outstanding → (s.tag 3).deadline = some 0 ∧ (s.tag 3).state = ts) ∧
    ({ s.entry 3 with state := .orphaned } : Entry).state = .orphaned ∧
    ({ s with port := { s.port with up := false } } : State).Settled :=
  ⟨settled_of rfl rfl rfl rfl rfl, rfl, rfl, rfl, Nat.le_refl _, by cases ts <;> decide +kernel, rfl,
    settled_of rfl rfl rfl rfl rfl⟩

/-- Channel 0 RUNNING with its tags 128 and 129 in use, tag 128 in state `ts` with its deadline reached. -/
def expiring (ts : TagState) : State :=
  { copying (.read 0) 2 0 with
    copyTags := ⟨[(128, ⟨.read 0, []⟩), (129, ⟨.read 1, []⟩)]⟩
    tags := ⟨[(128, ⟨ts, .read, 0x5000#40, 4, [], [], 0, some 0⟩)]⟩ }

theorem test_response_timeout_channel_clauses (ts : TagState) :
    let s := expiring ts
    s.Settled ∧ (s.tag 128).deadline = some 0 ∧ 0 ≤ s.now ∧ (s.copyTag 128).use.busy = true ∧
    (s.chan 0).job = some ⟨.preservation, 0, 5, 100, false⟩ ∧ 129 ∈ chanTags 0 ∧ (s.copyTag 129).use.busy = true ∧
    (s.tag 128).state = ts :=
  ⟨settled_of rfl rfl rfl rfl rfl, rfl, Nat.zero_le _, rfl, rfl, by decide, rfl, rfl⟩

theorem test_memory_link_down_clauses :
    base.mem.up = true ∧ base.ctl.state = .guarding ∧ (inState .degraded base).ctl.state = .degraded ∧
    (inState .recovering base).ctl.state = .recovering ∧ (inState .recovering base).copyIdle = true ∧
    ({ base with ctl := State.reset.ctl } : State).ctl.state = .config ∧ base.pool.wait = [] := by decide +kernel

theorem test_chunk_clauses :
    (let s := copying (.read 0) 1 0
     s.Settled ∧ s.mem.up = true ∧ 0 = ((128#8).toNat - 128) / 4 ∧ (s.tag 128).state = .outstanding ∧
       (s.tag 128).dataGood [] = true ∧ (s.chan 0).state = .running ∧
       (s.chan 0).job = some ⟨.preservation, 0, 5, 100, false⟩ ∧ (s.copyTag 128).use = .read 0) ∧
    (let s := copying (.write 3) 8 4; s.Settled ∧ (s.copyTag 128).use = .write 3 ∧ (s.chan 0).nextChunk < 16) ∧
    (let s := copying (.write 15) 16 15
     s.Settled ∧ (s.copyTag 128).use = .write 15 ∧ (s.chan 0).nextChunk = 16 ∧ (s.chan 0).done = 15 ∧
       (∀ x, x ∈ chanTags 0 → x ≠ 128 → (s.copyTag x).use = .free) ∧ (s.record 0).parityOk = true ∧
       (s.record 0).state ≠ .free ∧ (s.record 0).pageIndex = some 5 ∧ (s.page 5).parityOk = true ∧
       s.heldBehind 5 0 = none ∧ s.wp.queue = [] ∧ s.sweep.demand = [] ∧ s.sweep.offer = none ∧
       s.port.intake = .opened) :=
  ⟨⟨settled_of rfl rfl rfl rfl rfl, by decide +kernel⟩, ⟨settled_of rfl rfl rfl rfl rfl, by decide +kernel⟩,
    ⟨settled_of rfl rfl rfl rfl rfl, by decide +kernel⟩⟩

/-- Channel 0 in state `st` with tag 128 in use `u` and tag 129 reading, at chunk `next`, its job preserving or restoring. -/
def halfway (st : ChanState) (u : TagUse) (next : Nat) : State :=
  { copying u next 4 with
    channels := ⟨[(0, ⟨st, some ⟨.preservation, 0, 5, 100, false⟩, next, 4⟩)]⟩
    copyTags := ⟨[(128, ⟨u, []⟩), (129, ⟨.read 7, []⟩)]⟩ }

/-- An answer while another tag is in use: an error, RUNNING or STOPPING; OK while STOPPING, to a read and to a write; OK to a
write with every chunk read, RUNNING. -/
theorem test_stopping_clauses (st : ChanState) (u : TagUse) :
    let s := halfway st u 16
    s.Settled ∧ s.mem.up = true ∧ (s.tag 128).state = .outstanding ∧ (s.tag 128).dataGood [] = true ∧
    (s.chan 0).state = st ∧ (s.chan 0).job = some ⟨.preservation, 0, 5, 100, false⟩ ∧ errorAnswer s 128#8 1#4 [] ∧
    (s.copyTag 128).use = u ∧ (129 ∈ chanTags 0 ∧ 129 ≠ (128#8).toNat ∧ (s.copyTag 129).use.busy = true) ∧
    (s.chan 0).nextChunk = 16 ∧ (s.chan 0).done < 15 :=
  ⟨settled_of rfl rfl rfl rfl rfl, rfl, rfl, rfl, rfl, rfl, Or.inl (by decide), rfl, ⟨by decide, by decide, rfl⟩, rfl,
    by show 4 < 15; decide⟩

/-- The last chunk with a write HELD behind the record, stamped `n`, in operating state `o`. -/
def heldCopy (o : OpState) (n : Seq) : State := holding (.record 0) n (inState o (copying (.write 15) 16 15))

/-- A HELD write that a success releases: in DEGRADED, without an effective mark, and saved at its effective mark. -/
theorem test_release_clauses :
    (heldCopy .degraded 2#32).ctl.state = .degraded ∧
    (heldCopy .guarding 0#32).effective ((heldCopy .guarding 0#32).entry 3).stamp = none ∧
    (let s := heldCopy .guarding 2#32
     s.Settled ∧ s.heldBehind 5 0 = some 3 ∧ (s.entry 3).next = none ∧ (s.page 5).waitTail = some 3 ∧
       (s.entry 3).kind = .write ∧ s.restoring = false ∧ s.chainTop 5 = some 0 ∧
       s.effective (s.entry 3).stamp = s.resolved (s.record 0)) :=
  ⟨rfl, by decide +kernel, settled_of rfl rfl rfl rfl rfl, by decide +kernel, rfl, rfl, rfl, rfl, by decide +kernel,
    by decide +kernel⟩

/-- Record 0 in its chain and its journal. -/
theorem threaded_of {s : State} (h : s.record 0 = { s.record 0 with pageIndex := some 5, slot := some 1 })
    (h1 : ((s.slot 1).state == .free) = false) (h2 : (s.chain 5).contains 0 = true) (h3 : (s.journal 1).contains 0 = true)
    (h4 : s.pool.free = [1, 2, 3]) (h5 : (s.records.cells.all fun c => c.2.parityOk) = true)
    (h6 : (s.page 5).parityOk = true) : Threaded s 0 5 1 :=
  ⟨by rw [h], by rw [h], ⟨by decide, fun e => by rw [e] at h1; cases h1⟩, List.contains_iff_mem.1 h2,
    List.contains_iff_mem.1 h3, by rw [h4]; decide, records_sound h5, h6⟩

/-- `s` with tag 128 in state `ts`, its deadline reached, and channel 0's other tags in use `u`. -/
def lastTag (ts : TagState) (u : TagUse) (s : State) : State :=
  { s with
    copyTags := ⟨[(128, ⟨.read 3, []⟩), (129, ⟨u, []⟩), (130, ⟨u, []⟩), (131, ⟨u, []⟩)]⟩
    tags := ⟨[(128, ⟨ts, .read, 0x5000#40, 4, [], [], 0, some 0⟩)]⟩ }

/-- The last tag of a preservation times out, its channel's other tags FREE or all QUARANTINED. -/
theorem test_last_tag_clauses (ts : TagState) (u : TagUse) (hu : u.busy = false) :
    let s := lastTag ts u (copying (.read 3) 8 0)
    s.Settled ∧ (s.tag 128).deadline = some 0 ∧ 0 ≤ s.now ∧ 0 = (128 - 128) / 4 ∧ (s.copyTag 128).use.busy = true ∧
    (s.chan 0).job = some ⟨.preservation, 0, 5, 100, false⟩ ∧
    (∀ y, y ∈ chanTags 0 → y ≠ 128 → (s.copyTag y).use = u ∧ (s.copyTag y).use.busy = false) ∧
    (s.chan 0).state = .running ∧ (s.tag 128).state = ts ∧ (s.record 0).pageNumber = some 5 ∧ Threaded s 0 5 1 ∧
    (∀ d, d < 4 → d ≠ 0 → (s.chan d).job = none) ∧ s.wp.queue = [] ∧ s.wp.backlog = [] ∧ s.sweep.demand = [] ∧
    s.sweep.offer = none ∧ s.pool.wait = [] ∧ heldOnJob s ⟨.preservation, 0, 5, 100, false⟩ 5 = none := by
  refine ⟨settled_of rfl rfl rfl rfl rfl, rfl, Nat.zero_le _, rfl, rfl, rfl, ?_, rfl, rfl, rfl,
    threaded_of rfl rfl rfl rfl rfl rfl rfl, ?_, rfl, rfl, rfl, rfl, rfl, rfl⟩
  · intro y hy hne
    have h : y = 128 ∨ y = 129 ∨ y = 130 ∨ y = 131 := by simpa [chanTags] using hy
    rcases h with rfl | rfl | rfl | rfl
    · exact absurd rfl hne
    all_goals exact ⟨rfl, hu⟩
  · intro d hd hne
    have h : d = 1 ∨ d = 2 ∨ d = 3 := by omega
    rcases h with rfl | rfl | rfl <;> rfl

/-- A preservation that fails on its last tag: nothing HELD; and a write HELD, GUARDING under each policy, or DEGRADED. -/
theorem test_preservation_failure_clauses (p : Policy) :
    (let s := copying (.read 3) 8 0
     s.Settled ∧ s.mem.up = true ∧ s.port.up = true ∧ s.port.intake = .opened ∧ (s.tag 128).state = .outstanding ∧
       (s.copyTag 128).use.busy = true ∧ (∀ y, y ∈ chanTags 0 → y ≠ 128 → (s.copyTag y).use.busy = false) ∧
       (s.chan 0).state = .running ∧ (s.chan 0).job = some ⟨.preservation, 0, 5, 100, false⟩ ∧ (1#4) ≠ 0#4 ∧ (1#4) ≠ 3#4 ∧
       (s.record 0).state = .copying ∧ (s.record 0).pageNumber = some 5 ∧ Threaded s 0 5 1 ∧
       (∀ d, d < 4 → d ≠ 0 → (s.chan d).job = none) ∧ s.wp.queue = [] ∧ s.wp.backlog = [] ∧ s.sweep.demand = [] ∧
       s.sweep.offer = none ∧ s.pool.wait = [] ∧ s.heldBehind 5 0 = none) ∧
    (let s : State := { heldCopy .guarding 2#32 with wp := { base.wp with policy := p } }
     s.Settled ∧ Threaded s 0 5 1 ∧ s.heldBehind 5 0 = some 3 ∧ (s.entry 3).next = none ∧ (s.page 5).waitTail = some 3 ∧
       (s.entry 3).kind = .write ∧ s.restoring = false ∧ s.ctl.state ≠ .degraded ∧
       s.effective (s.entry 3).stamp = some 1 ∧ s.wp.policy = p) ∧
    (heldCopy .degraded 2#32).ctl.state = .degraded ∧ (heldCopy .degraded 2#32).heldBehind 5 0 = some 3 :=
  ⟨⟨settled_of rfl rfl rfl rfl rfl, rfl, rfl, rfl, rfl, rfl, by decide +kernel, rfl, rfl, by decide, by decide, rfl, rfl,
      threaded_of rfl rfl (by decide +kernel) (by decide +kernel) rfl rfl rfl, by decide +kernel, rfl, rfl, rfl, rfl,
      rfl, by decide +kernel⟩,
    ⟨settled_of rfl rfl rfl rfl rfl,
      threaded_of rfl rfl (by cases p <;> decide +kernel) (by cases p <;> decide +kernel) rfl rfl rfl,
      by cases p <;> decide +kernel, rfl, rfl, rfl, rfl, fun h => OpState.noConfusion h, by cases p <;> decide +kernel, rfl⟩,
    rfl, by decide +kernel⟩

/-- A restore of record 0, a source of page 5 at the UNWINDING slot 1, RUNNING in channel 0 on its last tag. -/
def restoring (o : OpState) : State :=
  { inState o (copying (.write 15) 16 15) with
    records := ⟨[(0, ⟨.restoring, some 5, some 5, some 1, none, none, none, false, true⟩)]⟩
    slots := ⟨[(0, ⟨.live, 1#32, .command, false, 0, none, none⟩),
      (1, ⟨.unwinding, 2#32, .command, false, 1, some 0, some 0⟩)]⟩
    channels := ⟨[(0, ⟨.running, some ⟨.restore, 0, 100, 5, false⟩, 16, 15⟩)]⟩
    sweep := { base.sweep with kind := .rollback, cause := some .rollback, phase := .restore, target := some 0 } }

/-- A restore that ends, by success and by failure: nothing HELD; and a write HELD for the demand, DEGRADED or GUARDING with an
effective mark. -/
theorem test_restore_job_clauses :
    (let s := restoring .guarding
     s.Settled ∧ s.mem.up = true ∧ s.port.intake = .opened ∧ (s.tag 128).state = .outstanding ∧
       (s.copyTag 128).use = .write 15 ∧ (∀ y, y ∈ chanTags 0 → y ≠ 128 → (s.copyTag y).use.busy = false) ∧
       (s.chan 0).job = some ⟨.restore, 0, 100, 5, false⟩ ∧ (s.record 0).state = .restoring ∧
       (s.record 0).pageNumber = some 5 ∧ Threaded s 0 5 1 ∧ (∀ d, d < 4 → d ≠ 0 → (s.chan d).job = none) ∧
       s.wp.queue = [] ∧ s.wp.backlog = [] ∧ s.sweep.demand = [] ∧ s.sweep.offer = none ∧ s.pool.wait = [] ∧
       (s.chan 0).state = .running ∧ (s.chan 0).done = 15 ∧ (s.chan 0).nextChunk = 16 ∧ (s.tag 128).dataGood [] = true ∧
       (2#4) ≠ 0#4 ∧ (2#4) ≠ 3#4 ∧ s.heldForDemand 5 = false) ∧
    (∀ o, let s := holding .demand 1#32 (restoring o)
     s.Settled ∧ Threaded s 0 5 1 ∧ s.heldForDemand 5 = true ∧ (s.page 5).waitHead = some 3 ∧ (s.entry 3).next = none ∧
       (s.page 5).waitTail = some 3 ∧ (s.entry 3).kind = .write ∧ s.chain 5 = [0] ∧ s.ctl.state = o ∧
       s.effective (s.entry 3).stamp = some 0) :=
  ⟨⟨settled_of rfl rfl rfl rfl rfl, rfl, rfl, rfl, rfl, by decide +kernel, rfl, rfl, rfl,
      threaded_of rfl rfl (by decide +kernel) (by decide +kernel) rfl rfl rfl, by decide +kernel, rfl, rfl, rfl, rfl,
      rfl, rfl, rfl, rfl, by decide +kernel, by decide, by decide, by decide +kernel⟩,
    fun o => ⟨settled_of rfl rfl rfl rfl rfl,
      threaded_of rfl rfl (by cases o <;> decide +kernel) (by cases o <;> decide +kernel) rfl rfl rfl,
      by cases o <;> decide +kernel, rfl, rfl, rfl, rfl, by cases o <;> decide +kernel, rfl,
      by cases o <;> decide +kernel⟩⟩

/-- The last tag of a restore times out. -/
theorem test_last_tag_restore_clauses (ts : TagState) (u : TagUse) :
    let s := lastTag ts u (restoring .guarding)
    s.Settled ∧ (s.tag 128).state = ts ∧ (s.chan 0).job = some ⟨.restore, 0, 100, 5, false⟩ ∧
    (s.record 0).pageNumber = some 5 ∧ Threaded s 0 5 1 ∧ heldOnJob s ⟨.restore, 0, 100, 5, false⟩ 5 = none :=
  ⟨settled_of rfl rfl rfl rfl rfl, rfl, rfl, rfl, threaded_of rfl rfl rfl rfl rfl rfl rfl, rfl⟩

/-- A job's end finds the intake in any of its states. -/
theorem test_job_end_intake_clauses (i : Intake) :
    (intaking i (copying (.write 15) 16 15)).Settled ∧ (intaking i (heldCopy .guarding 2#32)).Settled ∧
    (intaking i (restoring .guarding)).Settled ∧ (intaking i (holding .demand 1#32 (restoring .guarding))).Settled :=
  ⟨settled_busy rfl rfl rfl rfl (by cases i <;> decide +kernel), settled_busy rfl rfl rfl rfl (by cases i <;> decide +kernel),
    settled_busy rfl rfl rfl rfl (by cases i <;> decide +kernel), settled_busy rfl rfl rfl rfl (by cases i <;> decide +kernel)⟩

/-- The last chunk of a job of kind `k` whose record 0 is FREE again. -/
def orphaned (k : JobKind) : State :=
  { copying (.write 15) 16 15 with
    records := ⟨[]⟩
    channels := ⟨[(0, ⟨.running, some (match k with
      | .preservation => ⟨k, 0, 5, 100, true⟩
      | .restore => ⟨k, 0, 100, 5, true⟩), 16, 15⟩)]⟩ }

/-- It ends by success, and by failure. -/
theorem test_orphaned_job_clauses (k : JobKind) :
    let s := orphaned k
    s.Settled ∧ (s.tag 128).state = .outstanding ∧ (s.tag 128).dataGood [] = true ∧ (s.chan 0).state = .running ∧
    (∀ j, (s.chan 0).job = some j → j.orphaned = true ∧ pageOfJob j = 5) ∧ (s.chan 0).job.isSome = true ∧
    (s.copyTag 128).use = .write 15 ∧ (s.chan 0).nextChunk = 16 ∧ (s.chan 0).done = 15 ∧
    (∀ x, x ∈ chanTags 0 → x ≠ 128 → (s.copyTag x).use = .free ∧ (s.copyTag x).use.busy = false) ∧
    s.guardIndex 5 = some 5 ∧ (s.page 5).parityOk = true ∧ s.heldBehind 5 0 = none ∧ s.heldForDemand 5 = false ∧
    s.wp.queue = [] ∧ s.sweep.demand = [] ∧ s.sweep.offer = none ∧ s.port.intake = .opened ∧
    errorAnswer s 128#8 1#4 [] :=
  ⟨settled_of rfl rfl rfl rfl rfl, rfl, rfl, rfl, by cases k <;> (intro j h; cases h; exact ⟨rfl, rfl⟩),
    by cases k <;> rfl, rfl, rfl, rfl, by cases k <;> decide +kernel, by cases k <;> decide +kernel, rfl, rfl, rfl, rfl, rfl, rfl, rfl,
    Or.inl (by decide)⟩

/-- Its failure leaves the FREE record and the free-frame queue alone, and sets PRESERVE_FAIL. -/
theorem test_orphaned_job_end :
    (match exec (.completion 128#8 1#4 0#4 []) (orphaned .preservation) with
      | .next t => (t.records, t.pool.free, (t.chan 0).state, t.flag .preserveFail, t.mgmt.firstError)
      | _ => (⟨[]⟩, [], .stopping, false, ⟨.none, none, none, none, false⟩)) =
    (⟨[]⟩, [1, 2, 3], .idle, true, ⟨.copy, none, some 0x5000#40, some 0, false⟩) := by decide +kernel

/-! ## The memory-port link down at the copy engine -/

/-- From GUARDING a LIVE mark, without roll retention; no copy job and a request at the memory. -/
theorem test_memory_link_down_idle_clauses :
    (marked.mem.up = true ∧ marked.ctl.state = .guarding ∧ marked.sched.roll = false ∧ (marked.slot 0).state = .live) ∧
    (let s := inFlight .outstanding base
     s.mem.up = true ∧ s.copyIdle = true ∧ s.pool.wait = [] ∧ s.Settled ∧ freedByLink s 3 = true) :=
  ⟨⟨rfl, rfl, rfl, rfl⟩, rfl, by decide +kernel, rfl, settled_of rfl rfl rfl rfl rfl, by decide +kernel⟩

/-- `s` with policy `p`, and jobs `l` in the preservation queue. -/
def queueing (p : Policy) (l : List Job) (s : State) : State := { s with wp := { s.wp with policy := p, queue := l } }

/-- With only channel 0 at work, its job is the state's one. -/
theorem isJob_only {s : State} {i j : Job} (h : s.channels = ⟨[(0, s.chan 0)]⟩) (h0 : (s.chan 0).job = some j)
    (h1 : s.wp.queue = []) (h2 : s.wp.backlog = []) (hi : isJob s i) : i = j := by
  rcases hi with ⟨c, hc, hi⟩ | hi | hi
  · by_cases h3 : c = 0
    · rw [h3, h0] at hi
      exact (Option.some.inj hi).symm
    · have : s.chan c = .reset := by
        unfold State.chan
        rw [h]
        interval_cases c <;> first | exact absurd rfl h3 | rfl
      rw [this] at hi
      cases hi
  · rw [h1] at hi; cases hi
  · rw [h2] at hi; cases hi

/-- Jobs that fail: a preservation in channel 0 under BREAK, one in the queue beside it, and a restore. -/
theorem test_failing_job_clauses :
    (let s := queueing .break [] (copying (.read 3) 8 0)
     s.mem.up = true ∧ s.pool.wait = [] ∧ (∀ n, (s.entry n).state ≠ .held) ∧ s.wp.backlog = [] ∧
       (∀ c, c < 4 → (s.chan c).job = none → (s.chan c).state = .idle ∧
         ∀ x, x ∈ chanTags c → (s.copyTag x).use.busy = false) ∧
       isJob s ⟨.preservation, 0, 5, 100, false⟩ ∧ s.slotOf (s.record 0) = some 1 ∧ s.wp.policy ≠ .refuse ∧
       s.sweep.demand = [] ∧ s.sweep.offer = none ∧
       (∀ i, isJob s i → i ≠ ⟨.preservation, 0, 5, 100, false⟩ → i.record ≠ 0)) ∧
    (let s := queueing .refuse [⟨.preservation, 1, 6, 101, false⟩] (copying (.read 3) 8 0)
     s.mem.up = true ∧ s.pool.wait = [] ∧ (s.wp.queue = [] → s.wp.backlog = []) ∧
       isJob s ⟨.preservation, 1, 6, 101, false⟩) ∧
    isJob (restoring .guarding) ⟨.restore, 0, 100, 5, false⟩ :=
  ⟨⟨rfl, rfl, fun _ h => (by cases h), rfl, by decide +kernel, Or.inl ⟨0, by decide, rfl⟩, by decide +kernel, by decide, rfl,
      rfl, fun _ h hne => absurd (isJob_only rfl rfl rfl rfl h) hne⟩,
    ⟨rfl, rfl, fun h => (by cases h), Or.inr (Or.inl (List.mem_singleton.2 rfl))⟩, Or.inl ⟨0, by decide, rfl⟩⟩

/-- The one job, a preservation, fails: nothing HELD; a write HELD under each policy, in GUARDING and in DEGRADED; one without an
effective mark. -/
theorem test_one_preservation_clauses (p : Policy) :
    (let s := copying (.read 3) 8 0
     s.Settled ∧ (s.chan 0).job = some ⟨.preservation, 0, 5, 100, false⟩ ∧ (∀ d, d < 4 → d ≠ 0 → (s.chan d).job = none) ∧
       (s.record 0).pageNumber = some 5 ∧ Threaded s 0 5 1 ∧ s.wp.queue = [] ∧ s.wp.backlog = [] ∧ s.sweep.demand = [] ∧
       s.sweep.offer = none ∧ s.pool.wait = [] ∧ heldOnJob s ⟨.preservation, 0, 5, 100, false⟩ 5 = none) ∧
    (let s := queueing p [] (heldCopy .guarding 2#32)
     s.Settled ∧ Threaded s 0 5 1 ∧ heldOnJob s ⟨.preservation, 0, 5, 100, false⟩ 5 = some 3 ∧ (s.entry 3).next = none ∧
       (s.page 5).waitTail = some 3 ∧ (s.entry 3).kind = .write ∧ s.restoring = false ∧ s.ctl.state = .guarding ∧
       s.effective (s.entry 3).stamp = some 1 ∧ s.wp.policy = p) ∧
    (heldCopy .degraded 2#32).ctl.state = .degraded ∧
    (heldCopy .guarding 0#32).effective ((heldCopy .guarding 0#32).entry 3).stamp = none :=
  ⟨⟨settled_of rfl rfl rfl rfl rfl, rfl, by decide +kernel, rfl,
      threaded_of rfl rfl (by decide +kernel) (by decide +kernel) rfl rfl rfl, rfl, rfl, rfl, rfl, rfl, by decide +kernel⟩,
    ⟨settled_of rfl rfl rfl rfl rfl,
      threaded_of rfl rfl (by cases p <;> decide +kernel) (by cases p <;> decide +kernel) rfl rfl rfl,
      by cases p <;> decide +kernel, rfl, rfl, rfl, rfl, rfl, by cases p <;> decide +kernel, rfl⟩, rfl, by decide +kernel⟩

/-- The one job, a restore, fails: nothing HELD, and a write HELD for the demand. -/
theorem test_one_restore_clauses (o : OpState) :
    (let s := restoring o
     s.Settled ∧ (s.chan 0).job = some ⟨.restore, 0, 100, 5, false⟩ ∧ (∀ d, d < 4 → d ≠ 0 → (s.chan d).job = none) ∧
       Threaded s 0 5 1 ∧ heldOnJob s ⟨.restore, 0, 100, 5, false⟩ 5 = none) ∧
    (let s := holding .demand 1#32 (restoring o)
     s.Settled ∧ Threaded s 0 5 1 ∧ heldOnJob s ⟨.restore, 0, 100, 5, false⟩ 5 = some 3 ∧ (s.entry 3).next = none ∧
       (s.page 5).waitTail = some 3 ∧ (s.entry 3).kind = .write ∧ s.restoring = true ∧ s.chain 5 = [0] ∧
       s.ctl.state = o) :=
  ⟨⟨settled_of rfl rfl rfl rfl rfl, rfl, by cases o <;> decide +kernel,
      threaded_of rfl rfl (by cases o <;> decide +kernel) (by cases o <;> decide +kernel) rfl rfl rfl,
      by cases o <;> decide +kernel⟩,
    settled_of rfl rfl rfl rfl rfl,
    threaded_of rfl rfl (by cases o <;> decide +kernel) (by cases o <;> decide +kernel) rfl rfl rfl,
    by cases o <;> decide +kernel, rfl, rfl, rfl, rfl, by cases o <;> decide +kernel, rfl⟩

/-- Copy jobs that fail behind the entry to DEGRADED, writes in FRAME_WAIT being issued first: none HELD, and a write HELD
behind the one job, a preservation or a restore; and a recovery with a job in a channel. -/
theorem test_failing_job_waiters_clauses :
    (let s := lined (copying (.read 3) 8 0)
     s.Settled ∧ s.ctl.state = .guarding ∧ WaitersStand s ∧ (∀ n, (s.entry n).state ≠ .held) ∧
       Threaded s 0 5 1 ∧ heldOnJob s ⟨.preservation, 0, 5, 100, false⟩ 5 = none) ∧
    (let s := lined (heldCopy .guarding 2#32)
     s.Settled ∧ WaitersStand s ∧ Threaded s 0 5 1 ∧ heldOnJob s ⟨.preservation, 0, 5, 100, false⟩ 5 = some 3) ∧
    (let s := lined (holding .demand 1#32 (restoring .guarding))
     s.Settled ∧ WaitersStand s ∧ Threaded s 0 5 1 ∧ heldOnJob s ⟨.restore, 0, 100, 5, false⟩ 5 = some 3) ∧
    (let s := inState .recovering (copying (.read 3) 8 0)
     s.mem.up = true ∧ s.ctl.state = .recovering ∧ s.copyIdle = false) :=
  ⟨⟨settled_of rfl rfl rfl rfl rfl, rfl,
      waitersStand_of (by decide +kernel) (by decide +kernel) (by decide +kernel) rfl,
      fun n => of_decide_eq_true (Table.get_all (p := fun e : Entry => decide (e.state ≠ .held)) rfl (by decide +kernel) n),
      threaded_of rfl rfl (by decide +kernel) (by decide +kernel) rfl rfl rfl, by decide +kernel⟩,
    ⟨settled_of rfl rfl rfl rfl rfl,
      waitersStand_of (by decide +kernel) (by decide +kernel) (by decide +kernel) rfl,
      threaded_of rfl rfl (by decide +kernel) (by decide +kernel) rfl rfl rfl, by decide +kernel⟩,
    ⟨settled_of rfl rfl rfl rfl rfl,
      waitersStand_of (by decide +kernel) (by decide +kernel) (by decide +kernel) rfl,
      threaded_of rfl rfl (by decide +kernel) (by decide +kernel) rfl rfl rfl, by decide +kernel⟩,
    rfl, rfl, by decide +kernel⟩

/-! ## Sweeps -/

/-- A chain out of order, at sequences 5, 2 and 4: the look-up since sequence 3 finds those down to the last that is not
below it and reads the whole chain; since sequence 6 it finds none and reads the head alone. -/
def unordered (target : Nat) : State :=
  { base with
    slots := ⟨[(0, ⟨.live, 3#32, .command, false, 0, none, none⟩), (1, ⟨.unwinding, 5#32, .command, false, 1, some 0, some 0⟩),
      (2, ⟨.retiring, 2#32, .command, false, 1, some 1, some 1⟩),
      (3, ⟨.unwinding, 4#32, .command, false, 1, some 2, some 2⟩), (4, ⟨.live, 6#32, .auto, false, 0, none, none⟩)]⟩
    records := ⟨[(0, ⟨.valid, some 5, some 5, some 1, some 1, none, none, false, true⟩),
      (1, ⟨.valid, some 5, some 5, some 2, some 2, none, none, false, true⟩),
      (2, ⟨.valid, some 5, some 5, some 3, none, none, none, false, true⟩)]⟩
    pst := ⟨[(5, ⟨some 0, none, none, true, 0#32⟩)]⟩
    sweep := { base.sweep with kind := .rollback, phase := .restore, target := some target } }

theorem test_last_source :
    (unordered 0).sinceTarget 5 = [0, 1, 2] ∧ (unordered 0).oldestSource 5 = some 2 ∧
    (unordered 0).sourceReads 5 = [0, 1, 2] ∧ (unordered 4).sinceTarget 5 = [] ∧ (unordered 4).sourceReads 5 = [0] := by
  decide +kernel

/-- Record 0 under the cursor of the walk, first met. -/
theorem onWalk_of {s : State} (h : s.sweep = { s.sweep with waitingOn := none, cursor := some 0, walked := [] })
    (h1 : (s.records.cells.all fun c => c.2.parityOk) = true) : OnWalk s 0 :=
  ⟨by rw [h], by rw [h], by rw [h]; exact List.not_mem_nil, records_sound h1⟩

/-- The older link of a record that is unlinked, where it names a FREE record, counts as none, and that record is read. -/
theorem test_unlink_borne_out :
    let s : State := { saved 1 with
      records := ⟨[(0, ⟨.valid, some 5, some 5, some 1, some 2, none, none, false, true⟩)]⟩ }
    s.chainOlder 5 0 = none ∧ s.unlinkReads 5 0 = [0, 2] ∧ ((s.chainUnlink 5 0).page 5).chainHead = none ∧
      olderBorneOut s 0 5 = none ∧ headAfter s 0 5 = none := by decide +kernel

/-- Records 0, 1 and 2 in slot 1's journal, in this order, record `r` removed with these links in place of its own. -/
def removing (r : Nat) (older newer : Option Nat) : State :=
  let v (o n : Option Nat) : Record := ⟨.valid, some 5, some 5, some 1, none, o, n, false, true⟩
  let s : State := { marked with
    slots := marked.slots.set .freed 1 { marked.slot 1 with count := 3, head := some 0, tail := some 2 }
    records := ⟨[(0, v none (some 1)), (1, v (some 0) (some 2)), (2, v (some 1) none)]⟩ }
  (s.setRec r (v older newer)).journalRemove r

/-- A removal by R54 and R43: sound links; a head whose older link names a record; a record in the middle whose older link
names a FREE record; a tail whose newer link names itself, and one whose newer link names a record met before. -/
theorem test_removal_links :
    ((removing 1 (some 0) (some 2)).slot 1 = { marked.slot 1 with count := 2, head := some 0, tail := some 2 } ∧
      ((removing 1 (some 0) (some 2)).record 0).jNewer = some 2 ∧
      ((removing 1 (some 0) (some 2)).record 2).jOlder = some 0) ∧
    ((removing 0 (some 2) (some 1)).slot 1).head = some 1 ∧
    (((removing 1 (some 3) (some 2)).slot 1).head = some 0 ∧ ((removing 1 (some 3) (some 2)).record 2).jOlder = none) ∧
    (((removing 2 (some 1) (some 2)).slot 1).tail = some 1 ∧ ((removing 2 (some 1) (some 2)).record 1).jNewer = none) ∧
    (((removing 2 (some 1) (some 0)).slot 1).tail = some 1 ∧ ((removing 2 (some 1) (some 0)).record 1).jNewer = none ∧
      ((removing 2 (some 1) (some 0)).record 0).jOlder = none) := by decide +kernel

/-- A commit's walk: a record in each state under the cursor, and a record that it waits for. -/
theorem test_commit_walk_clauses :
    (∀ st, let s := walking .commit .walk st 1 none
     s.Settled ∧ s.sweep.kind = .commit ∧ OnWalk s 0 ∧ (s.record 0).state = st) ∧
    (let s := after .commitWalkStep (walking .commit .walk .copying 1 none)
     s.sweep.kind = .commit ∧ s.sweep.waitingOn = some 0) :=
  ⟨fun st => ⟨settled_of rfl rfl rfl rfl rfl, rfl, onWalk_of rfl rfl, rfl⟩, by decide +kernel⟩

theorem test_walk_clauses :
    (let s := walking .discard .walk .copying 1 (some 0)
     s.Settled ∧ s.sweep.kind = .discard ∧ s.sweep.retiring = some 1 ∧ s.sweep.predecessor ≠ some 1 ∧ OnWalk s 0 ∧
       (s.record 0).state = .copying) ∧
    (∀ st, let s := walking .rollback .merge st 1 (some 0)
     s.Settled ∧ s.sweep.kind = .rollback ∧ s.sweep.phase = .merge ∧ OnWalk s 0 ∧ (s.record 0).state = st) ∧
    (let s : State := { walking .discard .walk .copying 1 none with
        sweep := { (walking .discard .walk .copying 1 none).sweep with cursor := none } }
     s.sweep.waitingOn = none ∧ s.sweep.cursor = none) ∧
    ({ base with sweep := { base.sweep with waitingOn := some 0 } } : State).sweep.waitingOn = some 0 :=
  ⟨⟨settled_of rfl rfl rfl rfl rfl, rfl, rfl, by decide, onWalk_of rfl rfl, rfl⟩,
    fun st => ⟨settled_of rfl rfl rfl rfl rfl, rfl, rfl, onWalk_of rfl rfl, rfl⟩, by decide +kernel, rfl⟩

/-- Record 0 under the cursor, for each of the three walks, with and without a predecessor, which holds no record of the
page. -/
theorem test_free_or_relabel_clauses (k : SweepKind) (p : Phase) (pred : Option Nat) :
    let s := walking k p .valid 1 pred
    s.Settled ∧ OnWalk s 0 ∧ (s.record 0).state = .valid ∧ Threaded s 0 5 1 ∧ s.namesJob 0 = false ∧
    s.pool.wait = [] ∧ s.sweep.kind = k ∧ s.sweep.phase = p ∧ s.sweep.predecessor = pred ∧
    s.journalLink (s.slot 0).tail = none ∧ (∀ y, y ∈ s.chain 5 → (s.record y).slot ≠ some 0) :=
  ⟨settled_of rfl rfl rfl rfl rfl, onWalk_of rfl rfl, rfl, threaded_of rfl rfl rfl rfl rfl rfl rfl, rfl, rfl, rfl,
    rfl, rfl, rfl, by show ∀ y, y ∈ [0] → _; intro y hy h; obtain rfl := List.mem_singleton.1 hy; cases h⟩

/-- The walks that free every VALID record. -/
theorem test_freeing_walks (st : RecState) :
    freeingWalk (walking .commit .walk st 1 none) .commitWalkStep ∧
    freeingWalk (walking .discard .walk st 1 none) .discardWalkStep ∧
    freeingWalk (walking .rollback .merge st 1 none) .mergeWalkStep :=
  ⟨Or.inl ⟨rfl, rfl, rfl⟩, Or.inr (Or.inl ⟨rfl, rfl, rfl, rfl⟩), Or.inr (Or.inr ⟨rfl, rfl, rfl, rfl⟩)⟩

/-- A discard's walk on record 0 of page 5, every channel BLOCKED, with write 3 of page 6, stamped `stamp`, in FRAME_WAIT. -/
def served (o : OpState) (stamp : Seq) : State :=
  let s := blocked (inState o (walking .discard .walk .valid 1 none))
  { s with
    entries := ⟨[(3, { waiter .frameWait none with address := 0x6000#40, pst := some 6, stamp := stamp })]⟩
    pst := ⟨[(5, ⟨some 0, none, none, true, 0#32⟩), (6, ⟨none, some 3, some 3, true, 0#32⟩)]⟩
    pool := { s.pool with wait := [3] } }

/-- The frame of the freed record passes on, in DEGRADED and without an effective mark, and is taken at the mark of slot 0. -/
theorem test_served_clauses :
    (∀ o n, let s := served o n
     s.Settled ∧ OnWalk s 0 ∧ (s.record 0).state = .valid ∧ Threaded s 0 5 1 ∧ s.namesJob 0 = false ∧
       freeingWalk s .discardWalkStep ∧ WaitsForFrame s 3 6 ∧ s.mem.up = true ∧ s.ctl.state = o ∧
       (s.page 6).chainHead = none ∧ s.journalLink (s.slot 0).tail = none ∧ s.wp.queue.length < 128) ∧
    (served .guarding 0#32).effective ((served .guarding 0#32).entry 3).stamp = none ∧
    (let s := served .guarding 2#32
     s.effective (s.entry 3).stamp = some 0 ∧ 0 ≠ 1 ∧ s.idleChannel = none) :=
  ⟨fun _ _ => ⟨settled_of rfl rfl rfl rfl rfl, onWalk_of rfl rfl, rfl, threaded_of rfl rfl rfl rfl rfl rfl rfl, rfl,
      Or.inr (Or.inl ⟨rfl, rfl, rfl, rfl⟩), ⟨rfl, by decide, rfl, rfl, rfl, rfl, rfl, rfl, rfl⟩, rfl, rfl, rfl, rfl,
      by show 0 < 128; decide⟩,
    by decide +kernel, by decide +kernel⟩

/-- Page 5 with record 0 at slot 1, under the cursor, and record 1 at slot 0, the predecessor. -/
def doubled (k : SweepKind) (p : Phase) : State :=
  { walking k p .valid 1 (some 0) with
    records := ⟨[(0, ⟨.valid, some 5, some 5, some 1, some 1, none, none, false, true⟩),
      (1, ⟨.valid, some 5, some 5, some 0, none, none, none, false, true⟩)]⟩
    slots := ⟨[(0, ⟨.live, 1#32, .command, false, 1, some 1, some 1⟩),
      (1, ⟨.retiring, 2#32, .command, false, 1, some 0, some 0⟩)]⟩ }

theorem test_free_into_predecessor_clauses (k : SweepKind) (p : Phase) :
    let s := doubled k p
    s.Settled ∧ OnWalk s 0 ∧ (s.record 0).state = .valid ∧ Threaded s 0 5 1 ∧ s.namesJob 0 = false ∧ s.pool.wait = [] ∧
    s.sweep.kind = k ∧ s.sweep.phase = p ∧ s.sweep.predecessor = some 0 ∧ 1 ∈ s.chain 5 ∧ (s.record 1).slot = some 0 :=
  ⟨settled_of rfl rfl rfl rfl rfl, onWalk_of rfl rfl, rfl, threaded_of rfl rfl rfl rfl rfl rfl rfl, rfl, rfl, rfl,
    rfl, rfl, List.contains_iff_mem.1 rfl, rfl⟩

/-- A commit sweep at its completion step, for a COMMIT, a recovery and a spoiled recovery. -/
def completing (c : Cause) (spoiled : Bool) : State :=
  { base with
    ctl := { base.ctl with state := if c = .recover then .recovering else .guarding, spoiled := spoiled, linkLost := spoiled }
    sweep := { base.sweep with kind := .commit, cause := some c, phase := .walk } }

theorem test_commit_completion_clauses (b : Bool) :
    (completing .recover b).Settled ∧ (completing .recover b).tablesCanonical = true ∧
    (completing .recover b).sweep.kind = .commit ∧ (completing .recover b).sweep.cursor = none ∧
    (completing .recover b).leftRecords = [] ∧ (∀ p, ((completing .recover b).page p).parityOk = true) ∧
    (completing .recover b).pool.wait = [] ∧
    ({ completing .recover b with sched := { base.sched with roll := true } } : State).Settled ∧
    (completing .recover b).sweep.cause = some .recover ∧ (completing .recover b).ctl.spoiled = b ∧
    (completing .commit false).sweep.cause ≠ some .recover :=
  ⟨settled_of rfl rfl rfl rfl rfl, by cases b <;> decide +kernel, rfl, rfl, by cases b <;> decide +kernel,
    pages_sound rfl, rfl, settled_of rfl rfl rfl rfl rfl, rfl, rfl, by decide⟩

/-- The completion of a commit returns each frame once: record 0 still VALID and in no journal, record 1 queued but read as
VALID, record 2 read as FREE but not queued. -/
theorem test_commit_completion_returns_frames :
    let v : Record := ⟨.valid, some 5, some 5, none, none, none, none, true, true⟩
    (match exec .commitWalkStep { completing .commit false with
        records := ⟨[(0, v), (1, v), (2, { v with state := .free })]⟩, pool := { base.pool with free := [3, 1] } } with
      | .next t => (t.records, t.pool.free)
      | _ => (⟨[]⟩, [])) = (⟨[]⟩, [3, 1, 0, 2]) := by decide +kernel

/-- The drain of a rollback to slot 0: over with no request parked, over with entry 3 parked, and not over, by the drain set
and by a preservation in a channel. -/
theorem test_restore_start_clauses :
    (let s := unwinding .drain [] false
     s.Settled ∧ s.sweep.kind = .rollback ∧ s.sweep.phase = .drain ∧ s.sweep.target = some 0 ∧
       (s.slot 0).state = .live ∧ (∀ j, j < 5 → (s.slot j).state ≠ .unwinding) ∧
       (∀ j, j < 5 → j ≠ 0 → (s.slot j).state = .live → (s.slot j).seq ≠ (s.slot 0).seq) ∧
       (∀ y, (s.record y).parityOk = true) ∧ drainEnded s ∧ s.sweep.park = []) ∧
    (let s : State := { unwinding .drain [] false with
        sweep := { (unwinding .drain [] false).sweep with park := [3] } }
     s.Settled ∧ drainEnded s ∧ s.sweep.park ≠ []) ∧
    ¬drainEnded (unwinding .drain [3] false) ∧
    (let s : State := { copying (.read 0) 1 0 with sweep := (unwinding .drain [] false).sweep }
     s.Settled ∧ ¬drainEnded s) :=
  ⟨⟨settled_of rfl rfl rfl rfl rfl, rfl, rfl, rfl, rfl, by decide +kernel, by decide +kernel, records_sound rfl,
    drained_iff.1 (by decide +kernel), rfl⟩,
    ⟨settled_of rfl rfl rfl rfl rfl, drained_iff.1 (by decide +kernel), by decide⟩,
    fun h => absurd (drained_iff.2 h) (by decide +kernel), settled_of rfl rfl rfl rfl rfl,
    fun h => absurd (drained_iff.2 h) (by decide +kernel)⟩

/-- A parked entry of page 5 is unparked behind entry 4, and on an empty list. -/
theorem test_unpark_clauses :
    (let s : State := { behind marked with entries := ⟨[(3, waiter .parked none), (4, waiter .held none)]⟩ }
     (s.entry 3).pst = some 5 ∧ (s.page 5).parityOk = true ∧ (s.page 5).waitHead = some 4 ∧
       (s.page 5).waitTail = some 4 ∧ 4 ≠ 3) ∧
    (let s : State := { marked with entries := ⟨[(3, waiter .parked none)]⟩ }
     (s.entry 3).pst = some 5 ∧ (s.page 5).waitHead = none ∧ (s.page 5).waitTail = none) := by decide +kernel

theorem test_restore_walk_clauses :
    (∀ st, let s := restoringWalk st none
     s.Settled ∧ s.idleChannel = none ∧ s.port.intake = .opened ∧ s.sweep.kind = .rollback ∧
       s.sweep.phase = .restore ∧ s.sweep.offer = none ∧ OnWalk s 0 ∧ (s.record 0).state = st) ∧
    (let s := restoringWalk .valid none
     (s.record 0).suspect = false ∧ (s.record 0).pageIndex = some 5 ∧ (s.page 5).parityOk = true ∧
       s.oldestSource 5 = some 0) ∧
    ((restoringWalk .valid (some 0)).Settled ∧ (restoringWalk .valid (some 0)).sweep.offer ≠ none) ∧
    (intaking .closed (restoringWalk .valid none)).Settled ∧
    (let s := suspecting .guarding .live
     s.Settled ∧ s.sweep.offer = none ∧ OnWalk s 0 ∧ (s.record 0).suspect = true ∧ s.oldestSource 5 = some 0 ∧
       s.heldForDemand 5 = false) ∧
    (let s := twoSources
     s.Settled ∧ s.sweep.offer = none ∧ OnWalk s 1 ∧ (s.record 1).state = .valid ∧ Threaded s 1 5 1 ∧
       1 ∈ s.sources 5 ∧ s.oldestSource 5 = some 0 ∧ 0 ≠ 1 ∧ s.namesJob 1 = false ∧ s.pool.wait = []) ∧
    (let s : State := { restoringWalk .valid none with channels := ⟨[]⟩ }
     s.Settled ∧ OnWalk s 0 ∧ s.oldestSource 5 = some 0 ∧ s.idleChannel = some 0 ∧ s.mem.up = true ∧
       (s.record 0).pageNumber = some 5) :=
  ⟨fun st => ⟨settled_of rfl rfl rfl rfl rfl, by cases st <;> decide +kernel, rfl, rfl, rfl, rfl, onWalk_of rfl rfl, rfl⟩,
    by decide +kernel, ⟨⟨rfl, Or.inl (by decide +kernel), fun h => by cases h⟩, by decide⟩,
    ⟨rfl, Or.inl (by decide +kernel), fun h => by cases h⟩,
    ⟨settled_of rfl rfl rfl rfl rfl, rfl, onWalk_of rfl rfl, rfl, by decide +kernel, by decide +kernel⟩,
    ⟨settled_of rfl rfl rfl rfl rfl, rfl, ⟨rfl, rfl, List.not_mem_nil, records_sound rfl⟩, rfl,
      ⟨rfl, rfl, by decide +kernel, by decide +kernel, by decide +kernel, by decide, records_sound rfl, rfl⟩,
      by decide +kernel, by decide +kernel, by decide, by decide +kernel, rfl⟩,
    settled_of rfl rfl rfl rfl rfl, onWalk_of rfl rfl, by decide +kernel, by decide +kernel, rfl, rfl⟩

/-- The restore walk waits for a COPYING record, and a demand leaves one: record 1 stays, and the write waits for the walk. -/
theorem test_restore_leaves_copying_records :
    (after .restoreWalkStep (restoringWalk .copying none)).sweep.waitingOn = some 0 ∧
    after .restoreWalkStep (after .restoreWalkStep (restoringWalk .copying none)) =
      after .restoreWalkStep (restoringWalk .copying none) ∧
    (let t := after (.write 3#8 0#2 0x5000#40 [1#64] (List.replicate 64 7#8)) (unready .copying)
     t.records = (unready .copying).records ∧ (t.entry 3).heldOn = some .demand ∧ t.sweep.demand = []) := by decide +kernel

theorem test_restore_end_clauses (drop : Bool) :
    (let s := unwinding .restore [] drop
     s.Settled ∧ s.sweep.kind = .rollback ∧ s.sweep.phase = .restore ∧ s.sweep.target = some 0 ∧
       (s.slot 0).state = .live ∧ restoreEnded s ∧ s.sweep.drop = drop ∧ (s.slot 0).head = some 0) ∧
    (let s : State := { marked with sweep := (unwinding .restore [] drop).sweep }
     s.Settled ∧ restoreEnded s ∧ s.sweep.drop = drop ∧ (s.slot 0).head = none) ∧
    ¬restoreEnded (restoringWalk .valid none) ∧ ¬restoreEnded (restoring .guarding) :=
  ⟨⟨settled_of rfl rfl rfl rfl rfl, rfl, rfl, rfl, rfl, restoreOver_iff.1 (by cases drop <;> decide +kernel), rfl, rfl⟩,
    ⟨settled_of rfl rfl rfl rfl rfl, restoreOver_iff.1 (by cases drop <;> decide +kernel), rfl, rfl⟩, fun h => absurd (restoreOver_iff.2 h) (by decide +kernel),
    fun h => absurd (restoreOver_iff.2 h) (by decide +kernel)⟩

/-! ## A few single steps -/

/-- The request-port link goes down under a CLOSING intake whose one entry was PARKED: CLOSED, with QUIESCED. -/
theorem test_link_down_step :
    (let s := intaking .closing { base with entries := ⟨[(3, waiter .parked none)]⟩ }
     s.Settled ∧ s.port.up = true ∧ s.tablesCanonical = true ∧
       (after .requestPortLinkDown s).port.intake = .closed ∧ (after .requestPortLinkDown s).flag .quiesced = true) :=
  ⟨settled_busy rfl rfl rfl rfl (by decide +kernel), rfl, by decide, by decide +kernel, by decide +kernel⟩

/-- A MARK in GUARDING: slot 0 LIVE with sequence 1, and COMMAND_ARG reads 1. -/
theorem test_mark_step : (after .mark base).slot 0 = ⟨.live, 1#32, .command, false, 0, none, none⟩ ∧
    (after .mark base).readWord 0x32#8 = 1#32 := by decide +kernel

/-- The first guarded write under a mark takes frame 0 and starts its copy in channel 0 on the channel's four tags. -/
theorem test_first_write_step :
    let t := after (.write 3#8 0#2 0x5000#40 [1#64] (List.replicate 64 7#8)) marked
    (t.entry 3).state = .held ∧ (t.record 0).state = .copying ∧ (t.chan 0).state = .running ∧
      t.mem.takeList = [128, 129, 130, 131] := by decide +kernel

/-- The entry to DEGRADED issues the writes in FRAME_WAIT and what stands behind them: taken by the memory port, or ended with
its link. -/
theorem test_waiters_step :
    (after .degrade (lined marked)).mem.takeList = [4, 13, 20] ∧
    (after (.memoryPortLinkDown 0) (lined marked)).port.sent = [.completion 4 .dataErr .linkDown [],
      .completion 13 .dataErr .linkDown [], .completion 20 .dataErr .linkDown [], .credit 3] := by decide +kernel

/-- A read in GUARDING is issued under its own tag. -/
theorem test_read_step : ((after (.read 3#8 0#2 0x5000#40 []) base).tag 3).state = .queued := by decide +kernel

/-- A write of FENCE is refused with reason FENCE. -/
theorem test_fence_step :
    (after (.write 3#8 0#2 0x20000#40 [1#64] (List.replicate 64 7#8)) base).port.sent =
      [.completion 3 .refused .fence [], .credit 1] := by decide +kernel

/-- A received WRITE of one line is its mask and its data; what the part sends of it is laid out the same way. -/
theorem test_write_payload :
    let payload := [1#8, 0#8, 0#8, 0#8, 0#8, 0#8, 0#8, 128#8] ++ List.replicate 64 7#8
    requestPortMessage 0x2030000000005000#64 payload =
      .write 3#8 0#2 0x5000#40 [0x8000000000000001#64] (List.replicate 64 7#8) ∧
    (⟨3, .write, 0x5000#40, 1, [0x8000000000000001#64], List.replicate 64 7#8⟩ : DownRequest).payload = payload := by
  decide +kernel

/-- A READ with a payload reaches the part as it came, and is malformed. -/
theorem test_read_payload : requestPortMessage 0x1030000000005000#64 [1#8] = .read 3#8 0#2 0x5000#40 [1#8] := by
  decide +kernel

/-- No word spells a command. -/
theorem test_no_word : decodeTableWord 32 0 = none := rfl

end Sys2Proof.Tests
end

section
/-! CLEAR_COUNTS (R161). What the interval end does to the activity counters, said once: the latch alone changes them
(R160); the auto-mark step and the pressure check leave them (R163 to R166). -/

namespace Sys2Proof.Machine.State

variable {s : State}

/-! ## The mark table and the scheduler leave the activity counters alone (R163 to R166) -/

@[simp] theorem startDiscard_activity (q p c) : (s.startDiscard q p c).activity = s.activity := rfl

@[simp] theorem pushAt_activity (i o) : (s.pushAt i o).activity = s.activity := rfl

@[simp] theorem autoEnd_activity (o) : (s.autoEnd o).activity = s.activity := rfl

/-- A mark claim that is not DONE changes nothing; one that is DONE pushes its mark, behind a discard of a LIVE mark or
without one (R31, R34). -/
theorem markClaim_cases (s : State) (o : Origin) (roll : Bool) (c : Cause) :
    ((s.markClaim o roll c).1 ≠ .done ∧ (s.markClaim o roll c).2 = s) ∨
    (∃ i, s.markClaim o roll c = (.done, s.pushAt i o)) ∨
    ∃ q i, s.markClaim o roll c = (.done, (s.startDiscard q none c).pushAt i o) := by
  unfold State.markClaim
  split_ifs with hstate hkind hseq hlive hroll hsweep
  · exact .inl ⟨nofun, rfl⟩
  · exact .inl ⟨nofun, rfl⟩
  · exact .inl ⟨nofun, rfl⟩
  · cases s.freeSlot with
    | none => exact .inl ⟨nofun, rfl⟩
    | some i => exact .inr (.inl ⟨i, rfl⟩)
  · exact .inl ⟨nofun, rfl⟩
  · exact .inl ⟨nofun, rfl⟩
  · split
    next q i _ _ => exact .inr (.inr ⟨q, i, rfl⟩)
    next => exact .inl ⟨nofun, rfl⟩

@[simp] theorem markClaim_activity (o roll c) : (s.markClaim o roll c).2.activity = s.activity := by
  obtain ⟨-, h⟩ | ⟨i, h⟩ | ⟨q, i, h⟩ := s.markClaim_cases o roll c
  · rw [h]
  · rw [h, pushAt_activity]
  · rw [h, pushAt_activity, startDiscard_activity]

@[simp] theorem autoMark_activity : s.autoMark.activity = s.activity := by
  have hclaim := s.markClaim_activity .auto s.sched.roll .autoRoll
  unfold State.autoMark
  split
  next t h => rw [h] at hclaim; exact hclaim
  next r t _ h => rw [h] at hclaim; exact hclaim

@[simp] theorem autoStep_activity : s.autoStep.activity = s.activity := by
  unfold State.autoStep
  split
  · rfl
  · extract_lets _ t
    have ht : t.activity = s.activity := rfl
    split
    · exact ht
    · split
      · exact ht
      · rw [autoMark_activity, ht]

@[simp] theorem pressureCheck_activity : s.pressureCheck.activity = s.activity := by
  unfold State.pressureCheck
  split
  · split
    · rfl
    · rw [raise_activity, startDiscard_activity]
  · rfl

/-! ## The tick and the interval end (R159, R160) -/

/-- Of an interval end's stages the latch alone changes the activity counters. -/
@[simp] theorem intervalEnd_activity :
    s.intervalEnd.activity = s.activity.mapCells .zero fun _ a => ⟨.zero, a.running⟩ := by
  unfold State.intervalEnd
  rw [pressureCheck_activity, autoStep_activity]
  rfl

/-- Counters that are all 0 stay 0 over a tick, whether or not it ends the interval. -/
theorem takeTick_activity_empty (h : s.activity = .empty) : s.takeTick.activity = .empty := by
  unfold State.takeTick
  split
  · exact h
  · split
    · rw [intervalEnd_activity, h]
      rfl
    · exact h

/-- SAMPLING_TICK and INTERVAL_END have one effect: the tick that has come is taken (R159, log 4). -/
theorem exec_tick {c : Instr} (hc : c ∈ [Instr.samplingTick, .intervalEnd]) (s : State) :
    exec c s = .next s.takeTick := by
  simp only [List.mem_cons, List.not_mem_nil, or_false] at hc
  obtain rfl | rfl := hc
  · rfl
  · rfl

theorem act_of_activity_empty (h : s.activity = .empty) (w : Nat) : s.act w = .zero := by
  unfold State.act
  rw [h, Table.get_empty]

/-! ## The command (R161, R172) -/

/-- The command unit's part of a command without detail changes the management block alone, as `answered` says. -/
theorem answer_plain (code : Byte) (r : Result) : s.answer code (.plain r) = s.setMgmt (answered s.mgmt code r) := rfl

/-- CLEAR_COUNTS empties the activity table and is answered DONE. -/
theorem exec_clearCounts (s : State) :
    exec .clearCounts s = .next ({ s with activity := .empty }.setMgmt (answered s.mgmt 11#8 .done)) := by
  show Host.Outcome.next (State.answer 11#8 (.plain .done) { s with activity := .empty }) = _
  rw [answer_plain]

end Sys2Proof.Machine.State

namespace Sys2Proof.Proofs

open Sys2Proof.Machine

/-- Settles O21: CLEAR_COUNTS leaves the activity table empty, and a tick or an interval end keeps an empty table empty. -/
theorem clearCountsClearsEveryCounter : Obligations.ClearCountsClearsEveryCounter := by
  intro s
  refine ⟨_, State.exec_clearCounts s, State.act_of_activity_empty rfl, rfl, fun c hc => ?_⟩
  exact ⟨_, State.exec_tick hc _, State.act_of_activity_empty (State.takeTick_activity_empty rfl)⟩

end Sys2Proof.Proofs
end

section
/-! The management block's alert and its fault data (10): what ALERT_N, its mask, FAULT_POP and FAULT_DATA are, and what
CONFIG_ENTER, the resets and the port and engine commands leave of them (R175, R178). -/

namespace Sys2Proof.Machine

/-! ## Packed fields (11): which bits each field gives -/

/-- A packed field gives the bits below its width; the bits above it are those of the fields that follow. -/
theorem testBit_packNat_cons (w v : Nat) (l : List (Nat × Nat)) (i : Nat) :
    (packNat ((w, v) :: l)).testBit i = if i < w then v.testBit i else (packNat l).testBit (i - w) := by
  have hlt : v % 2 ^ w < 2 ^ w := Nat.mod_lt _ (Nat.two_pow_pos w)
  rw [packNat, Nat.add_comm, Nat.testBit_two_pow_mul_add _ hlt]
  split
  next hi => rw [Nat.testBit_mod_two_pow, decide_eq_true hi, Bool.true_and]
  next => rfl

theorem testBit_bitNat_zero (b : Bool) : (bitNat b).testBit 0 = b := by
  cases b <;> rfl

/-! ## The event flags fill their word (R174) -/

/-- The event flags in the order of the table of R174. -/
def eventFlags : List EventFlag :=
  [.cmdDone, .sweepDone, .rollbackDone, .quiesced, .autoMark, .autoMarkMissed, .pressureRetire, .framesLow,
    .framesEmpty, .preserveFail, .restoreFault, .holdTimeout, .memTimeout, .lateResponse, .protocolErr, .poolAccess,
    .fenceRefused, .degraded, .sampleEnd, .linkChange, .mgmtReject]

theorem eventFlags_map_bit : eventFlags.map EventFlag.bit = List.range 21 := rfl

/-- Every bit of the event flag word belongs to a flag. -/
theorem EventFlag.exists_bit_eq {i : Nat} (hi : i < 21) : ∃ f : EventFlag, f.bit = i := by
  have hmem : i ∈ eventFlags.map EventFlag.bit := by rw [eventFlags_map_bit]; exact List.mem_range.mpr hi
  obtain ⟨f, -, hf⟩ := List.mem_map.mp hmem
  exact ⟨f, hf⟩

namespace State

variable {s : State}

/-! ## ALERT_N (R175) -/

/-- ALERT_N is driven low exactly while some flag is both set and enabled. -/
theorem alert_iff (s : State) :
    s.alert = true ↔ ∃ f : EventFlag, s.flag f = true ∧ s.mgmt.mask.getLsbD f.bit = true := by
  unfold State.alert State.flag
  rw [bne_iff_ne]
  constructor
  · intro hne
    by_contra hnone
    refine hne (BitVec.eq_of_getLsbD_eq fun i hi => ?_)
    obtain ⟨f, rfl⟩ := EventFlag.exists_bit_eq hi
    rw [BitVec.getLsbD_and, BitVec.getLsbD_zero, ← Bool.not_eq_true, Bool.and_eq_true]
    exact fun hboth => hnone ⟨f, hboth⟩
  · rintro ⟨f, hflag, hmask⟩ hzero
    have hbit := congrArg (BitVec.getLsbD · f.bit) hzero
    simp only [BitVec.getLsbD_and, hflag, hmask, BitVec.getLsbD_zero] at hbit
    exact absurd hbit (by decide)

/-- With no flag enabled ALERT_N is released. -/
theorem alert_of_mask_zero (h : s.mgmt.mask = 0#21) : s.alert = false := by
  rw [State.alert, h, BitVec.and_zero, bne_self_eq_false]

/-- Bit 3 of the summary byte is the alert (11.2). -/
theorem summaryByte_alert (s : State) : s.summaryByte.getLsbD 3 = s.alert := by
  rw [State.summaryByte, BitVec.getLsbD_ofNat]
  simp only [testBit_packNat_cons, Nat.reduceLT, Nat.reduceSub, if_true, if_false, decide_true, Bool.true_and,
    testBit_bitNat_zero]

/-! ## The resets (R143) -/

/-- Both resets give the reset state and keep the queue of commands (log 1). -/
theorem exec_reset {c : Instr} (hc : c = .powerOnReset ∨ c = .rstN) (s : State) :
    exec c s = .next { State.reset with pending := s.pending } := by
  obtain rfl | rfl := hc
  · rfl
  · rfl

/-! ## The command unit's part of a command, and CONFIG_ENTER (R147, R172) -/

@[simp] theorem answer_mask (code a) : (s.answer code a).mgmt.mask = s.mgmt.mask := rfl
@[simp] theorem answer_faultData (code a) : (s.answer code a).mgmt.faultData = s.mgmt.faultData := rfl
@[simp] theorem answer_result (code a) : (s.answer code a).mgmt.result.result = a.result := rfl
@[simp] theorem answer_sweep (code a) : (s.answer code a).sweep = s.sweep := rfl

@[simp] theorem enterConfig_mask : s.enterConfig.mgmt.mask = s.mgmt.mask := rfl
@[simp] theorem enterConfig_faultData : s.enterConfig.mgmt.faultData = s.mgmt.faultData := rfl
@[simp] theorem enterConfig_faultList : s.enterConfig.sweep.faultList = [] := rfl

/-- CONFIG_ENTER is refused and changes nothing, or is DONE and enters CONFIG (R147). -/
theorem configEnter_cases (s : State) :
    (∃ r, r ≠ .done ∧ s.configEnter = s.refuses r) ∨ s.configEnter = (.plain .done, s.enterConfig) := by
  unfold State.configEnter
  split_ifs with hstate hbusy hmarks
  · exact .inl ⟨.badState, nofun, rfl⟩
  · exact .inl ⟨.busy, nofun, rfl⟩
  · exact .inl ⟨.badState, nofun, rfl⟩
  · exact .inr rfl

/-- CONFIG_ENTER leaves the state as it was but for the command unit's part, or is DONE and enters CONFIG. -/
theorem exec_configEnter (s : State) :
    (∃ r, r ≠ .done ∧ exec .configEnter s = .next (s.answer 1#8 (.plain r))) ∨
    exec .configEnter s = .next (s.enterConfig.answer 1#8 (.plain .done)) := by
  have hexec : exec .configEnter s = .next (s.configEnter.2.answer 1#8 s.configEnter.1) := rfl
  rw [hexec]
  obtain ⟨r, hr, h⟩ | h := s.configEnter_cases
  · rw [h]
    exact .inl ⟨r, hr, rfl⟩
  · rw [h]
    exact .inr rfl

/-- CONFIG_ENTER leaves the alert mask unchanged (R175). -/
theorem configEnter_keeps_mask (s : State) : ∃ t, exec .configEnter s = .next t ∧ t.mgmt.mask = s.mgmt.mask := by
  obtain ⟨r, -, h⟩ | h := s.exec_configEnter
  · exact ⟨_, h, answer_mask _ _⟩
  · exact ⟨_, h, (answer_mask _ _).trans enterConfig_mask⟩

/-- CONFIG_ENTER leaves FAULT_DATA as it was, and empties the fault list if it is DONE (R100, R178). -/
theorem configEnter_faults (s : State) : ∃ t, exec .configEnter s = .next t ∧ t.mgmt.faultData = s.mgmt.faultData ∧
    (t.mgmt.result.result = .done → t.sweep.faultList = []) := by
  obtain ⟨r, hr, h⟩ | h := s.exec_configEnter
  · exact ⟨_, h, answer_faultData _ _, fun hdone => absurd ((answer_result _ _).symm.trans hdone) hr⟩
  · refine ⟨_, h, (answer_faultData _ _).trans enterConfig_faultData, fun _ => ?_⟩
    rw [answer_sweep, enterConfig_faultList]

/-! ## FAULT_POP and FAULT_DATA (R178) -/

theorem exec_faultPop (s : State) :
    exec .faultPop s = .next (s.faultPopCommand.2.answer 12#8 s.faultPopCommand.1) := rfl

/-- On a list with a page FAULT_POP takes the oldest, its head, into FAULT_DATA. -/
theorem exec_faultPop_cons {n : Nat} {rest : List Nat} (h : s.sweep.faultList = n :: rest) :
    exec .faultPop s = .next
      ((s.setMgmt { answered s.mgmt 12#8 .done with
          faultData := ⟨true, n, rest.length, s.sweep.faultOverflow⟩ }).setSweep
        { s.sweep with faultList := rest }) := by
  rw [exec_faultPop, State.faultPopCommand, h]
  rfl

/-- On an empty list FAULT_POP shows the overflow flag in FAULT_DATA and clears it. -/
theorem exec_faultPop_nil (h : s.sweep.faultList = []) :
    exec .faultPop s = .next
      ((s.setMgmt { answered s.mgmt 12#8 .done with
          faultData := ⟨false, 0, 0, s.sweep.faultOverflow⟩ }).setSweep
        { s.sweep with faultOverflow := false }) := by
  rw [exec_faultPop, State.faultPopCommand, h]
  rfl

/-- A failure joins the tail of a fault list that is not full (R100). -/
theorem appendFault_faultList (n : Nat) (h : s.sweep.faultList.length < Config.faultPages) :
    (s.appendFault (some n)).sweep.faultList = s.sweep.faultList ++ [n] := by
  unfold State.appendFault
  dsimp only
  rw [if_pos (by rwa [setSweep_sweep]), setSweep_sweep, setSweep_sweep]

/-- The first FAULT_DATA word shows the page number (11.3). -/
theorem readWord_faultPage (s : State) :
    s.readWord 0x36#8 = BitVec.ofNat 32 (s.mgmt.faultData.page % 2 ^ 28) := by
  have hread : s.readWord 0x36#8 = pack [(28, s.mgmt.faultData.page)] := rfl
  rw [hread, pack, packNat, packNat, Nat.mul_zero, Nat.add_zero]

/-- The second FAULT_DATA word shows the valid bit, what remains, and the overflow flag (11.3). -/
theorem readWord_faultStatus (s : State) :
    s.readWord 0x37#8 = BitVec.ofNat 32 ((if s.mgmt.faultData.valid = true then 1 else 0) +
      2 * (s.mgmt.faultData.remaining % 16) + (if s.mgmt.faultData.overflow = true then 32 else 0)) := by
  have hread : s.readWord 0x37#8 = pack
    [(1, bitNat s.mgmt.faultData.valid), (4, s.mgmt.faultData.remaining), (1, bitNat s.mgmt.faultData.overflow)] := rfl
  rw [hread, pack]
  congr 1
  simp only [packNat, bitNat]
  split_ifs <;> omega

/-- A write of either FAULT_DATA word is ignored and sets MGMT_REJECT (R171). -/
theorem exec_registerWrite_faultData {i : Byte} (hi : i = 0x36#8 ∨ i = 0x37#8) (d : Word) (s : State) :
    exec (.registerWrite i d) s = .next s.reject := by
  obtain rfl | rfl := hi
  · rfl
  · rfl

end State

end Sys2Proof.Machine

namespace Sys2Proof.Laws

open Sys2Proof.Machine

/-- No primitive update of a port or engine command changes the alert mask. -/
theorem engineClosed_mask (m : BitVec 21) : EngineClosed fun s => s.mgmt.mask = m where
  raise _ _ h := h
  capture s k t a w h := by rw [State.capture_eq]; exact h
  act _ _ _ h := h
  page _ _ _ h := h
  slot _ _ _ _ h := h
  record _ _ _ h := h
  entry _ _ _ h := h
  chan _ _ _ _ h := h
  copyTag _ _ _ h := h
  pool _ _ _ _ _ h := h
  wp _ _ _ _ h := h
  sweep _ _ _ _ h := h
  fault s x h := by
    unfold State.appendFault
    cases x with
    | none => exact h
    | some n =>
      dsimp only
      split
      · exact h
      · exact h
  port _ _ _ _ h := h
  take _ _ _ _ _ _ _ _ h := h
  ctl _ _ _ _ h := h
  anyCtl _ _ _ h := h
  link _ _ _ h := h
  tag _ _ _ h := h
  mem _ _ _ _ _ h := h
  clearTags _ h := h
  seq _ _ h := h
  mapPages _ _ h := h
  mapEntries _ _ h := h

end Sys2Proof.Laws

namespace Sys2Proof.Proofs

open Sys2Proof.Machine Sys2Proof.Laws

/-- CONFIG_ENTER and the four link events leave the alert mask unchanged (R175). -/
theorem configEnter_and_links_keep_mask {c : Instr} {k : Nat}
    (hc : c ∈ [Instr.configEnter, .requestPortLinkDown, .requestPortLinkUp, .memoryPortLinkDown k,
      .memoryPortLinkUp]) (s : State) : ∃ t, exec c s = .next t ∧ t.mgmt.mask = s.mgmt.mask := by
  obtain rfl | hlink := List.mem_cons.mp hc
  · exact s.configEnter_keeps_mask
  · have hengine : engineCommand c = true := by
      simp only [List.mem_cons, List.not_mem_nil, or_false] at hlink
      obtain rfl | rfl | rfl | rfl := hlink
      · rfl
      · rfl
      · rfl
      · rfl
    exact (engineClosed_mask s.mgmt.mask).exec hengine rfl

/-- Settles O10: each bit of the flag word is some flag's, and neither CONFIG_ENTER nor an update of a port or engine
command changes the mask. -/
theorem alertFollowsFlagsAndMask : Obligations.AlertFollowsFlagsAndMask := by
  refine ⟨State.alert_iff, State.summaryByte_alert, fun d s => rfl, fun s => rfl, fun c s hc => ?_, fun c s k hc => ?_⟩
  · exact ⟨_, State.exec_reset hc s, rfl, State.alert_of_mask_zero rfl⟩
  · exact configEnter_and_links_keep_mask hc s

/-- Settles O22: FAULT_POP by the two forms of the fault list, and what shows, fills and empties list and data. -/
theorem faultPopTakesTheOldest : Obligations.FaultPopTakesTheOldest := by
  intro s
  refine ⟨fun n rest h => State.exec_faultPop_cons h, State.exec_faultPop_nil,
    fun n h => State.appendFault_faultList n h, s.readWord_faultPage, s.readWord_faultStatus,
    fun i d hi => State.exec_registerWrite_faultData hi d s, fun c hc => ?_, s.configEnter_faults⟩
  exact ⟨_, State.exec_reset hc s, rfl⟩

end Sys2Proof.Proofs
end

section
/-! What the commands of the command unit, the timer, the scheduler and the register window can do, said once: a property
that their primitive updates keep is kept by each of them (09, 10). With `EngineClosed` this covers every command. -/

namespace Sys2Proof.Machine

/-- The scheduler's stored values lie in the ranges a write leaves them in (R162, R181). -/
def Scheduler.lawful (c : Scheduler) : Bool := decide (c.maxDeferrals.toNat ≤ 15) && c.period != 0#8

end Sys2Proof.Machine

namespace Sys2Proof.Laws

open Sys2Proof.Machine

/-- Of a list of slots the earliest is one of them. -/
theorem mem_of_earliest {s : State} {l : List Nat} {q : Nat} (h : s.earliest l = some q) : q ∈ l := by
  induction l generalizing q with
  | nil => cases h
  | cons i t ih =>
    unfold State.earliest at h
    split at h
    · cases h
      exact List.mem_cons_self
    next j hj =>
      split at h
      · cases h
        exact List.mem_cons_self
      · cases h
        exact List.mem_cons_of_mem _ (ih hj)

/-- `P` is kept by each primitive update that a command makes outside CONFIG's own stores: those of `EngineClosed`, the
management block but for its flags, the timer, the scheduler, the activity table, a mark's push, the fault list as it
shrinks, and the entry to CONFIG. -/
structure CommandClosed (P : State → Prop) : Prop extends EngineClosed P where
  mgmt : ∀ s v, v.flags = s.mgmt.flags → P s → P (s.setMgmt v)
  timer : ∀ s v, (s.sampler.lawful = true → v.lawful = true) → P s → P (s.setSampler v)
  sched : ∀ s v, (s.sched.lawful = true → v.lawful = true) → P s → P (s.setSched v)
  mapActivity : ∀ s f, P s → P { s with activity := s.activity.mapCells .zero f }
  clearActivity : ∀ s, P s → P { s with activity := .empty }
  push : ∀ s i o, s.liveCount < Config.liveMarks → P s → P (s.pushAt i o)
  roll : ∀ s q i o c, q ∈ s.liveSlots → P s → P ((s.startDiscard q none c).pushAt i o)
  popFault : ∀ s v, v.faultList.length ≤ s.sweep.faultList.length → v.demand = s.sweep.demand → P s → P (s.setSweep v)
  enterConfig : ∀ s, P s → P s.enterConfig

namespace CommandClosed

variable {P : State → Prop} {s : State}

/-! ## The command unit (R172) -/

theorem answer (h : CommandClosed P) (code a) (hs : P s) : P (s.answer code a) := h.raise _ _ (h.mgmt _ _ (by rfl) hs)

theorem command (h : CommandClosed P) (code) {f : State → Answer × State} (hf : P (f s).2) : P (s.command code f) :=
  h.answer _ _ hf

/-! ## Marks (R31, R34) -/

theorem markClaim (h : CommandClosed P) (o roll c) (hs : P s) : P (s.markClaim o roll c).2 := by
  unfold State.markClaim
  split_ifs with hstate hkind hseq hlive hroll hsweep
  · exact hs
  · exact hs
  · exact hs
  · split
    · exact hs
    · exact h.push _ _ _ hlive hs
  · exact hs
  · exact hs
  · split
    next q i hq hi => exact h.roll _ _ _ _ _ (mem_of_earliest hq) hs
    · exact hs

theorem markCommand (h : CommandClosed P) (hs : P s) : P s.markCommand.2 := by
  have hm := h.markClaim .command s.mgmt.argRoll .markRoll hs
  unfold State.markCommand
  split
  next heq =>
    rw [heq] at hm
    exact h.mgmt _ _ rfl hm
  next heq =>
    rw [heq] at hm
    exact hm

/-! ## The other commands (R35 to R37, R120, R145 to R152, R161, R178) -/

theorem configEnter (h : CommandClosed P) (hs : P s) : P s.configEnter.2 := by
  unfold State.configEnter
  split_ifs
  · exact hs
  · exact hs
  · exact hs
  · exact h.enterConfig _ hs

theorem configExit (h : CommandClosed P) (hleave : s.ctl.state = .config → P s.leaveConfig) (hs : P s) :
    P s.configExit.2 := by
  unfold State.configExit
  split
  · exact hs
  next hstate =>
    split
    · exact h.anyCtl _ _ id hs
    · exact hleave (not_not.1 hstate)

theorem discardCommand (h : CommandClosed P) (hs : P s) : P s.discardCommand.2 := by
  unfold State.discardCommand
  split_ifs
  · exact hs
  · exact hs
  · split
    · exact hs
    · exact h.startDiscard _ _ _ hs

theorem commitCommand (h : CommandClosed P) (hs : P s) : P s.commitCommand.2 := by
  unfold State.commitCommand
  split_ifs
  · exact hs
  · exact hs
  · exact h.commitIfEmpty (h.startCommit _ hs)

theorem rollbackCommand (h : CommandClosed P) (hs : P s) : P s.rollbackCommand.2 := by
  unfold State.rollbackCommand
  split_ifs
  · exact hs
  · exact hs
  · exact hs
  · split
    · exact hs
    · split
      · exact hs
      · exact h.startRollback _ _ _ hs

theorem quiesceCommand (h : CommandClosed P) (hs : P s) : P s.quiesceCommand.2 := by
  unfold State.quiesceCommand
  exact Closed.ite (h.port _ _ rfl rfl hs) hs

theorem resumeCommand (h : CommandClosed P) (hs : P s) : P s.resumeCommand.2 :=
  h.port _ _ rfl rfl (Closed.ite hs (h.sendUp _ hs))

theorem degradeCommand (h : CommandClosed P) (hs : P s) : P s.degradeCommand.2 := by
  unfold State.degradeCommand
  split
  next hg => exact h.enterDegraded .command hg hs
  · exact h.addCause .command hs
  · exact hs
  · exact hs

theorem recoverCommand (h : CommandClosed P) (hs : P s) : P s.recoverCommand.2 := by
  unfold State.recoverCommand
  split_ifs
  · exact hs
  · exact hs
  · exact h.commitIfEmpty (h.startCommit _ (h.anyCtl _ _ (fun _ => rfl) hs))

theorem faultPopCommand (h : CommandClosed P) (hs : P s) : P s.faultPopCommand.2 := by
  unfold State.faultPopCommand
  split
  · exact h.popFault _ _ le_rfl rfl (h.mgmt _ _ rfl hs)
  next hl =>
    refine h.popFault _ _ ?_ rfl (h.mgmt _ _ rfl hs)
    simp only [State.setMgmt_sweep, hl, List.length_cons]
    omega

/-- A command of code 1 to 12, or a code that names none, as a write of COMMAND gives it. -/
theorem writeCommandWord (h : CommandClosed P) (d) (hleave : s.ctl.state = .config → P s.leaveConfig) (hs : P s) :
    P (s.writeCommandWord d) := by
  unfold State.writeCommandWord
  split
  · exact h.command _ (h.configEnter hs)
  · exact h.command _ (h.configExit hleave hs)
  · exact h.command _ (h.markCommand hs)
  · exact h.command _ (h.discardCommand hs)
  · exact h.finish (h.command _ (h.commitCommand hs))
  · exact h.command _ (h.rollbackCommand hs)
  · exact h.checkIntake (h.command _ (h.quiesceCommand hs))
  · exact h.command _ (h.resumeCommand hs)
  · exact h.finish (h.command _ (h.degradeCommand hs))
  · exact h.finish (h.command _ (h.recoverCommand hs))
  · exact h.command _ (h.clearActivity _ hs)
  · exact h.command _ (h.faultPopCommand hs)
  · exact h.command _ hs
  · exact hs

/-! ## Timer and scheduler (R155 to R166) -/

theorem autoMark (h : CommandClosed P) (hs : P s) : P s.autoMark := by
  have hm := h.markClaim .auto s.sched.roll .autoRoll hs
  unfold State.autoMark
  split
  next heq =>
    rw [heq] at hm
    exact h.raise _ _ (h.sched _ _ id (h.sched _ _ id hm))
  next heq =>
    rw [heq] at hm
    exact h.raise _ _ (h.sched _ _ id hm)

theorem autoStep (h : CommandClosed P) (hs : P s) : P s.autoStep := by
  unfold State.autoStep
  split
  · exact hs
  · extract_lets _ t
    have ht : P t := h.sched _ _ id hs
    split
    · exact ht
    · split
      · exact h.sched _ _ id ht
      · exact h.autoMark ht

theorem intervalEnd (h : CommandClosed P) (hs : P s) : P s.intervalEnd := by
  refine h.pressureCheck (h.autoStep (h.raise _ _ (h.mapActivity _ _ (h.timer _ _ ?_ hs))))
  simp only [Sampler.lawful, Bool.and_eq_true, Bool.or_eq_true]
  rintro ⟨⟨⟨hr, -⟩, hp⟩, hrun⟩
  exact ⟨⟨⟨hr, hr⟩, hp⟩, hrun.imp id fun hstop => ⟨hstop.1, rfl⟩⟩

theorem takeTick (h : CommandClosed P) (hs : P s) : P s.takeTick := by
  unfold State.takeTick
  split
  · exact hs
  · split
    · exact h.intervalEnd hs
    next hone =>
      refine h.timer _ _ ?_ hs
      simp only [Sampler.lawful, Bool.and_eq_true, Bool.or_eq_true, bne_iff_ne, ne_eq]
      rintro ⟨⟨⟨hr, hc⟩, hp⟩, hrun⟩
      refine ⟨⟨⟨hr, fun hz => hone ?_⟩, hp⟩, hrun.imp id fun hstop => ⟨hstop.1, rfl⟩⟩
      bv_omega

theorem tickLength_pos (sel : BitVec 2) : 0 < tickLength sel := by
  unfold tickLength
  split_ifs <;> decide

/-- A stored sampler word leaves reload above 0 and the prescaler below the tick length (R155, R156). -/
theorem storeSampler (h : CommandClosed P) (sel reload) (hs : P s) : P (s.storeSampler sel reload) := by
  refine h.timer _ _ ?_ hs
  simp only [Sampler.lawful, Bool.and_eq_true, Bool.or_eq_true, bne_iff_ne, ne_eq, decide_eq_true_eq, beq_iff_eq,
    Bool.not_eq_true']
  rintro ⟨⟨⟨hr, hc⟩, hp⟩, hrun⟩
  refine ⟨⟨⟨?_, hc⟩, ?_⟩, ?_⟩
  · split
    · decide
    · assumption
  · split
    next hsel => rw [hsel]; exact hp
    · exact tickLength_pos _
  · refine hrun.imp id fun hstop => ⟨?_, by rw [hstop.2]; rfl⟩
    rw [hstop.1, ite_self]

theorem restartSampler (h : CommandClosed P) (hs : P s) : P s.restartSampler := by
  refine h.timer _ _ ?_ hs
  simp only [Sampler.lawful, Bool.and_eq_true, Bool.or_eq_true, decide_eq_true_eq, beq_iff_eq]
  rintro ⟨⟨⟨hr, -⟩, -⟩, hrun⟩
  exact ⟨⟨⟨hr, hr⟩, tickLength_pos _⟩, hrun.imp id fun hstop => ⟨trivial, hstop.2⟩⟩

theorem setRun (h : CommandClosed P) (run) (hs : P s) : P (s.setRun run) := by
  unfold State.setRun
  split
  · exact hs
  · refine h.timer _ _ ?_ hs
    simp only [Sampler.lawful, Bool.and_eq_true, Bool.or_eq_true, decide_eq_true_eq, beq_iff_eq]
    rintro ⟨⟨⟨hr, hc⟩, -⟩, -⟩
    exact ⟨⟨⟨hr, hc⟩, tickLength_pos _⟩, .inr ⟨trivial, rfl⟩⟩

theorem writeSampler (h : CommandClosed P) (d) (hs : P s) : P (s.writeSampler d) := by
  have hstore := h.storeSampler (BitVec.ofNat 2 (field d 2 2)) (BitVec.ofNat 16 (field d 16 16)) hs
  exact h.setRun _ (Closed.ite (h.restartSampler hstore) hstore)

/-- What a write stores as the scheduler's settings is in range (R162, R181). -/
theorem store_lawful (c : Scheduler) (d : Word) : (c.store d).lawful = true := by
  have hmax : min 15 (field d 2 6) < 2 ^ 6 := by omega
  simp only [Scheduler.lawful, Scheduler.store, Bool.and_eq_true, decide_eq_true_eq, bne_iff_ne, ne_eq,
    BitVec.toNat_ofNat, Nat.mod_eq_of_lt hmax]
  refine ⟨by omega, ?_⟩
  split
  · decide
  · assumption

theorem writeScheduler (h : CommandClosed P) (d) (hs : P s) : P (s.writeScheduler d) := by
  unfold State.writeScheduler
  extract_lets was now now' t
  have hnow : now'.lawful = true := by
    show (if was.enable = false ∧ now.enable = true then _ else now : Scheduler).lawful = true
    split <;> exact store_lawful was d
  have ht : P t := h.sched _ _ (fun _ => hnow) hs
  exact Closed.ite (h.pressureCheck ht) ht

/-! ## Leaving CONFIG (R8, R146) -/

/-- DEGRADED is entered with its cause from any operating state (R146, R148). -/
theorem enterDegraded_any (h : CommandClosed P) (c) (hs : P s) : P (s.enterDegraded c) := by
  have hcaused := Closed.addCause_caused c s
  refine h.raise _ _ (h.flushWaiters _ (h.damageLive (h.anyCtl _ _ ?_ (h.addCause c hs))))
  simp only [Control.lawful, Control.caused, Bool.and_eq_true, Bool.or_eq_true] at hcaused ⊢
  tauto

/-- The step that leaves CONFIG keeps `P` where the tables as it fills them do. -/
theorem leaveConfig (h : CommandClosed P) (hconfig : s.ctl.state = .config)
    (hfill : P { s.assignPst.zeroStamps with
      pool := { s.assignPst.zeroStamps.pool with free := List.range s.assignPst.zeroStamps.pool.frames.toNat }
      nextSeq := 1#32 }) (hctl : s.assignPst.ctl = s.ctl) : P s.leaveConfig := by
  have hclear := h.anyCtl _ { s.assignPst.zeroStamps.ctl.cleared with
    tableFault := false, invalid := false, detail := .none, subject := 0#12 } (fun _ => by
      show Control.lawful { s.assignPst.ctl.cleared with
        tableFault := false, invalid := false, detail := .none, subject := 0#12 } = true
      simp [Control.lawful, Control.cleared, hctl, hconfig]) hfill
  exact Closed.ite (h.anyCtl _ _ (fun _ => rfl) hclear) (h.enterDegraded_any .link hclear)

/-! ## The register window (R171) -/

theorem reject (h : CommandClosed P) (hs : P s) : P s.reject := h.raise _ _ hs

theorem writeArg (h : CommandClosed P) (i d) (hs : P s) : P (s.writeArg i d) :=
  Closed.ite (h.mgmt _ _ rfl hs) (h.mgmt _ _ rfl hs)

theorem writeWord (h : CommandClosed P) (i d) (hstore : ∀ k, s.ctl.state = .config → P (s.storeProtected k d))
    (hs : P s) : P (s.writeWord i d) := by
  unfold State.writeWord
  dsimp only
  split_ifs with hprot hconfig
  · exact hstore _ hconfig
  · exact h.reject hs
  · exact h.writeArg _ _ hs
  · exact h.writeSampler _ hs
  · exact h.writeScheduler _ hs
  · exact h.reject hs

/-- A register write keeps `P`, where a write of the event flag word keeps it if it is one, and CONFIG's own stores do. -/
theorem registerWrite (h : CommandClosed P) (i d) (hflags : i = 0x2C#8 → P (s.clearFlags d))
    (hstore : ∀ k, s.ctl.state = .config → P (s.storeProtected k d)) (hleave : s.ctl.state = .config → P s.leaveConfig)
    (hs : P s) : ∃ t, Machine.exec (.registerWrite i d) s = .next t ∧ P t := by
  simp only [Machine.exec, execRegisterWrite]
  split_ifs with hflag
  · exact ⟨_, rfl, hflags hflag⟩
  · exact ⟨_, rfl, h.mgmt _ _ rfl hs⟩
  · exact ⟨_, rfl, h.mgmt _ _ rfl hs⟩
  · exact ⟨_, rfl, h.writeCommandWord _ hleave hs⟩
  · exact ⟨_, rfl, h.writeWord _ _ hstore hs⟩

/-! ## Every command -/

/-- A command that is no reset answers a next state that keeps `P`, where a write of the event flag word keeps it if it is
one, and CONFIG's own stores and the step that leaves CONFIG do. -/
theorem exec (h : CommandClosed P) {c : Instr} (hreset : isReset c = false)
    (hflags : clearsFlags c = true → ∀ d, P (s.clearFlags d))
    (hstore : ∀ k d, s.ctl.state = .config → P (s.storeProtected k d)) (hleave : s.ctl.state = .config → P s.leaveConfig)
    (hs : P s) : ∃ t, Machine.exec c s = .next t ∧ P t := by
  cases c with
  | powerOnReset => cases hreset
  | rstN => cases hreset
  | samplingTick => exact ⟨_, rfl, h.takeTick hs⟩
  | intervalEnd => exact ⟨_, rfl, h.takeTick hs⟩
  | configEnter => exact ⟨_, rfl, h.command _ (h.configEnter hs)⟩
  | configExit => exact ⟨_, rfl, h.command _ (h.configExit hleave hs)⟩
  | mark => exact ⟨_, rfl, h.command _ (h.markCommand hs)⟩
  | discard => exact ⟨_, rfl, h.command _ (h.discardCommand hs)⟩
  | commit => exact ⟨_, rfl, h.finish (h.command _ (h.commitCommand hs))⟩
  | rollback => exact ⟨_, rfl, h.command _ (h.rollbackCommand hs)⟩
  | quiesce => exact ⟨_, rfl, h.checkIntake (h.command _ (h.quiesceCommand hs))⟩
  | resume => exact ⟨_, rfl, h.command _ (h.resumeCommand hs)⟩
  | degrade => exact ⟨_, rfl, h.finish (h.command _ (h.degradeCommand hs))⟩
  | recover => exact ⟨_, rfl, h.finish (h.command _ (h.recoverCommand hs))⟩
  | clearCounts => exact ⟨_, rfl, h.command _ (h.clearActivity _ hs)⟩
  | faultPop => exact ⟨_, rfl, h.command _ (h.faultPopCommand hs)⟩
  | badOpcode code => exact ⟨_, rfl, h.command _ hs⟩
  | eventFlagWrite d => exact ⟨_, rfl, hflags rfl d⟩
  | firstErrorClear d => exact ⟨_, rfl, h.mgmt _ _ rfl hs⟩
  | alertMaskWrite d => exact ⟨_, rfl, h.mgmt _ _ rfl hs⟩
  | run d => exact ⟨_, rfl, h.writeSampler d hs⟩
  | stop d => exact ⟨_, rfl, h.writeSampler d hs⟩
  | restart d => exact ⟨_, rfl, h.writeSampler d hs⟩
  | tickSelectWrite d => exact ⟨_, rfl, h.writeSampler d hs⟩
  | autoEnableWrite d => exact ⟨_, rfl, h.writeScheduler d hs⟩
  | rollRetentionWrite d => exact ⟨_, rfl, h.writeScheduler d hs⟩
  | registerWrite i d =>
    exact h.registerWrite i d (fun hi => hflags (by rw [hi]; rfl) d) (fun k => hstore k d) hleave hs
  | _ => exact h.toEngineClosed.exec rfl hs

end CommandClosed

end Sys2Proof.Laws
end

section
/-! The invariants and frames over every step: the queue of commands (O6), the settings (O7), the protected words (O8), the
event flags and the first error (O9), and the laws of the tables (O5). -/

namespace Sys2Proof.Machine

theorem isReset_iff {c : Instr} : isReset c = true ↔ c = .powerOnReset ∨ c = .rstN := by
  constructor
  · intro h
    cases c with
    | powerOnReset => exact .inl rfl
    | rstN => exact .inr rfl
    | _ => cases h
  · rintro (rfl | rfl) <;> rfl

end Sys2Proof.Machine

namespace Sys2Proof.Machine.State

/-! ## What the updates of a whole block leave alone -/

/-- An append to the fault list changes the sweep engine alone (R100). -/
theorem appendFault_eq (s : State) (x : Option Nat) : s.appendFault x = s.setSweep (s.appendFault x).sweep := by
  unfold State.appendFault
  cases x with
  | none => rfl
  | some n =>
    dsimp only
    split <;> rfl

@[simp] theorem appendFault_demand (s : State) (x : Option Nat) : (s.appendFault x).sweep.demand = s.sweep.demand := by
  unfold State.appendFault
  cases x with
  | none => rfl
  | some n =>
    dsimp only
    split <;> rfl

/-- The fault list never grows past its 16 places (R100). -/
theorem appendFault_length (s : State) (x : Option Nat) (h : s.sweep.faultList.length ≤ Config.faultPages) :
    (s.appendFault x).sweep.faultList.length ≤ Config.faultPages := by
  cases x with
  | none => exact h
  | some n =>
    unfold State.appendFault
    dsimp only
    split
    next hlt =>
      simp only [setSweep_sweep, List.length_append, List.length_singleton] at hlt ⊢
      exact hlt
    · exact h

/-- The assignment of PST indices changes the window table and the PST alone (R8). -/
theorem assignPst_eq (s : State) :
    s.assignPst = { s with
      windows := s.assignPst.windows, pst := .empty, pstAssigned := s.pstPages windowIds } := by
  have hfold : ∀ (l : List Nat) (t : State), (∃ w, t = { s with windows := w }) →
      ∃ w, l.foldl (fun t w => t.setWindow w { s.window w with firstIndex := BitVec.ofNat 16 (s.firstIndexOf w) }) t =
        { s with windows := w } := by
    intro l
    induction l with
    | nil => exact fun t ht => ht
    | cons a l ih =>
      rintro t ⟨w, rfl⟩
      exact ih _ ⟨_, rfl⟩
  obtain ⟨w, hw⟩ := hfold windowIds s ⟨s.windows, rfl⟩
  unfold State.assignPst
  rw [hw]

/-- A store of a protected word changes windows, pool, policy, hold timeout and memory port settings alone (R144). -/
theorem storeProtected_eq (s : State) (i : Nat) (d : Word) :
    s.storeProtected i d = { s with
      windows := (s.storeProtected i d).windows, pool := (s.storeProtected i d).pool
      wp := (s.storeProtected i d).wp, port := (s.storeProtected i d).port, mem := (s.storeProtected i d).mem } := by
  unfold State.storeProtected State.writeWindow
  dsimp only
  split_ifs <;> rfl

@[simp] theorem assignPst_ctl (s : State) : s.assignPst.ctl = s.ctl := by rw [assignPst_eq]
@[simp] theorem assignPst_mgmt (s : State) : s.assignPst.mgmt = s.mgmt := by rw [assignPst_eq]
@[simp] theorem assignPst_pending (s : State) : s.assignPst.pending = s.pending := by rw [assignPst_eq]

@[simp] theorem storeProtected_mgmt (s : State) (i d) : (s.storeProtected i d).mgmt = s.mgmt := by
  rw [storeProtected_eq]
@[simp] theorem storeProtected_pending (s : State) (i d) : (s.storeProtected i d).pending = s.pending := by
  rw [storeProtected_eq]

/-! ## Event flags (R174) -/

theorem raise_flag (s : State) (f g : EventFlag) :
    (s.raise g).flag f = (s.flag f || (BitVec.twoPow 21 g.bit).getLsbD f.bit) := BitVec.getLsbD_or

/-- A flag that is set stays set when another is set. -/
theorem raise_keeps_flag {s : State} {f : EventFlag} (g : EventFlag) (h : s.flag f = true) :
    (s.raise g).flag f = true := by
  rw [raise_flag, h, Bool.true_or]

@[simp] theorem capture_flag (s : State) (k t a w) (f : EventFlag) : (s.capture k t a w).flag f = s.flag f := by
  rw [capture_eq]
  rfl

end Sys2Proof.Machine.State

namespace Sys2Proof.Laws

open Sys2Proof.Machine

/-! ## The queue of commands (log 1) -/

/-- The queue of commands is no command's to change. -/
theorem commandClosed_pending (l : List Instr) : CommandClosed fun s => s.pending = l where
  raise _ _ h := h
  capture _ _ _ _ _ h := by rwa [State.capture_pending]
  act _ _ _ h := h
  page _ _ _ h := h
  slot _ _ _ _ h := h
  record _ _ _ h := h
  entry _ _ _ h := h
  chan _ _ _ _ h := h
  copyTag _ _ _ h := h
  pool _ _ _ _ _ h := h
  wp _ _ _ _ h := h
  sweep _ _ _ _ h := h
  fault _ _ h := by rwa [State.appendFault_eq]
  port _ _ _ _ h := h
  take _ _ _ _ _ _ _ _ h := h
  ctl _ _ _ _ h := h
  anyCtl _ _ _ h := h
  link _ _ _ h := h
  tag _ _ _ h := h
  mem _ _ _ _ _ h := h
  clearTags _ h := h
  seq _ _ h := h
  mapPages _ _ h := h
  mapEntries _ _ h := h
  mgmt _ _ _ h := h
  timer _ _ _ h := h
  sched _ _ _ h := h
  mapActivity _ _ h := h
  clearActivity _ h := h
  push _ _ _ _ h := h
  roll _ _ _ _ _ _ h := h
  popFault _ _ _ _ h := h
  enterConfig _ h := h

/-! ## The settings and the protected words (R144) -/

/-- No primitive update of a port or engine command touches a setting. -/
theorem engineClosed_settings (s₀ : State) : EngineClosed fun s => s₀.SameSettings s where
  raise _ _ h := { h with }
  capture _ _ _ _ _ h := by rw [State.capture_eq]; exact { h with }
  act _ _ _ h := { h with }
  page _ _ _ h := { h with }
  slot _ _ _ _ h := { h with }
  record _ _ _ h := { h with }
  entry _ _ _ h := { h with }
  chan _ _ _ _ h := { h with }
  copyTag _ _ _ h := { h with }
  pool _ _ hb hf hl h :=
    { h with poolBase := hb.trans h.poolBase, poolFrames := hf.trans h.poolFrames, lowWater := hl.trans h.lowWater }
  wp _ _ hp _ h := { h with policy := hp.trans h.policy }
  sweep _ _ _ _ h := { h with }
  fault _ _ h := by rw [State.appendFault_eq]; exact { h with }
  port _ _ _ ht h := { h with holdTimeout := ht.trans h.holdTimeout }
  take _ _ _ _ _ _ _ _ h := { h with }
  ctl _ _ _ _ h := { h with }
  anyCtl _ _ _ h := { h with }
  link _ _ ht h := { h with holdTimeout := ht.trans h.holdTimeout }
  tag _ _ _ h := { h with }
  mem _ _ hl ht _ h := { h with retryLimit := hl.trans h.retryLimit, responseTimeout := ht.trans h.responseTimeout }
  clearTags _ h := { h with }
  seq _ _ h := { h with }
  mapPages _ _ h := { h with }
  mapEntries _ _ h := { h with }

/-- No primitive update of a command touches a protected word, but CONFIG's own stores. -/
theorem commandClosed_protected (s₀ : State) : CommandClosed fun s => s₀.SameProtected s where
  raise _ _ h := { h with }
  capture _ _ _ _ _ h := by rw [State.capture_eq]; exact { h with }
  act _ _ _ h := { h with }
  page _ _ _ h := { h with }
  slot _ _ _ _ h := { h with }
  record _ _ _ h := { h with }
  entry _ _ _ h := { h with }
  chan _ _ _ _ h := { h with }
  copyTag _ _ _ h := { h with }
  pool _ _ hb hf hl h :=
    { h with poolBase := hb.trans h.poolBase, poolFrames := hf.trans h.poolFrames, lowWater := hl.trans h.lowWater }
  wp _ _ hp _ h := { h with policy := hp.trans h.policy }
  sweep _ _ _ _ h := { h with }
  fault _ _ h := by rw [State.appendFault_eq]; exact { h with }
  port _ _ _ ht h := { h with holdTimeout := ht.trans h.holdTimeout }
  take _ _ _ _ _ _ _ _ h := { h with }
  ctl _ _ _ _ h := { h with }
  anyCtl _ _ _ h := { h with }
  link _ _ ht h := { h with holdTimeout := ht.trans h.holdTimeout }
  tag _ _ _ h := { h with }
  mem _ _ hl ht _ h := { h with retryLimit := hl.trans h.retryLimit, responseTimeout := ht.trans h.responseTimeout }
  clearTags _ h := { h with }
  seq _ _ h := { h with }
  mapPages _ _ h := { h with }
  mapEntries _ _ h := { h with }
  mgmt _ _ _ h := { h with }
  timer _ _ _ h := { h with }
  sched _ _ _ h := { h with }
  mapActivity _ _ h := { h with }
  clearActivity _ h := { h with }
  push _ _ _ _ h := { h with }
  roll _ _ _ _ _ _ h := { h with }
  popFault _ _ _ _ h := { h with }
  enterConfig _ h := { h with }

/-! ## Event flags and the first error (R174, R176) -/

/-- No primitive update clears an event flag. -/
theorem commandClosed_flag (f : EventFlag) : CommandClosed fun s => s.flag f = true where
  raise _ g h := State.raise_keeps_flag g h
  capture _ _ _ _ _ h := by rwa [State.capture_flag]
  act _ _ _ h := h
  page _ _ _ h := h
  slot _ _ _ _ h := h
  record _ _ _ h := h
  entry _ _ _ h := h
  chan _ _ _ _ h := h
  copyTag _ _ _ h := h
  pool _ _ _ _ _ h := h
  wp _ _ _ _ h := h
  sweep _ _ _ _ h := h
  fault _ _ h := by rwa [State.appendFault_eq]
  port _ _ _ _ h := h
  take _ _ _ _ _ _ _ _ h := h
  ctl _ _ _ _ h := h
  anyCtl _ _ _ h := h
  link _ _ _ h := h
  tag _ _ _ h := h
  mem _ _ _ _ _ h := h
  clearTags _ h := h
  seq _ _ h := h
  mapPages _ _ h := h
  mapEntries _ _ h := h
  mgmt s v hv h := by
    show v.flags.getLsbD f.bit = true
    rw [hv]
    exact h
  timer _ _ _ h := h
  sched _ _ _ h := h
  mapActivity _ _ h := h
  clearActivity _ h := h
  push _ _ _ _ h := h
  roll _ _ _ _ _ _ h := h
  popFault _ _ _ _ h := h
  enterConfig _ h := h

end Sys2Proof.Laws

namespace Sys2Proof.Machine

/-- The first-error record `e` is the filled record `e₀`, with `more` perhaps set since (R176). -/
structure FirstError.Keeps (e₀ e : FirstError) : Prop where
  filled : e₀.kind ≠ .none
  same : e = { e₀ with more := e.more }
  more : e₀.more = true → e.more = true

/-- A capture into a filled record sets `more` alone. -/
theorem FirstError.Keeps.capture {e₀ : FirstError} {s : State} (h : e₀.Keeps s.mgmt.firstError) (k t a w) :
    e₀.Keeps (s.capture k t a w).mgmt.firstError := by
  have hfilled : s.mgmt.firstError.kind ≠ .none := by rw [h.same]; exact h.filled
  rw [State.capture_eq, State.setMgmt_mgmt]
  dsimp only
  rw [if_neg hfilled]
  exact ⟨h.filled, by rw [h.same], fun _ => rfl⟩

end Sys2Proof.Machine

namespace Sys2Proof.Laws

open Sys2Proof.Machine

/-- Every primitive update of a port or engine command keeps a filled first-error record. -/
theorem engineClosed_firstError (e₀ : FirstError) : EngineClosed fun s => e₀.Keeps s.mgmt.firstError where
  raise _ _ h := h
  capture _ _ _ _ _ h := h.capture _ _ _ _
  act _ _ _ h := h
  page _ _ _ h := h
  slot _ _ _ _ h := h
  record _ _ _ h := h
  entry _ _ _ h := h
  chan _ _ _ _ h := h
  copyTag _ _ _ h := h
  pool _ _ _ _ _ h := h
  wp _ _ _ _ h := h
  sweep _ _ _ _ h := h
  fault _ _ h := by rwa [State.appendFault_eq]
  port _ _ _ _ h := h
  take _ _ _ _ _ _ _ _ h := h
  ctl _ _ _ _ h := h
  anyCtl _ _ _ h := h
  link _ _ _ h := h
  tag _ _ _ h := h
  mem _ _ _ _ _ h := h
  clearTags _ h := h
  seq _ _ h := h
  mapPages _ _ h := h
  mapEntries _ _ h := h

end Sys2Proof.Laws

namespace Sys2Proof.Proofs

open Sys2Proof.Machine Sys2Proof.Laws

/-- Settles O6: no primitive update touches the queue, so that no command but a reset does, and a reset keeps it. -/
theorem everyCommandAnswersNext : Obligations.EveryCommandAnswersNext := by
  intro c s
  cases hreset : isReset c with
  | true =>
    exact ⟨_, State.exec_reset (isReset_iff.1 hreset) s, rfl⟩
  | false =>
    have h := commandClosed_pending s.pending
    exact h.exec hreset (fun _ _ => rfl) (fun k d _ => State.storeProtected_pending s k d)
      (fun hconfig => h.leaveConfig hconfig (State.assignPst_pending s) (State.assignPst_ctl s)) rfl

/-- Settles O7: no primitive update of a port or engine command touches a setting. -/
theorem engineCommandsKeepSettings : Obligations.EngineCommandsKeepSettings := fun _ s hc =>
  (engineClosed_settings s).exec hc
    { windows := fun _ => rfl, poolBase := rfl, poolFrames := rfl, lowWater := rfl, policy := rfl, holdTimeout := rfl
      responseTimeout := rfl, retryLimit := rfl, windowTable := rfl, assigned := rfl, now := rfl, sampler := rfl
      sched := rfl, mask := rfl, argSeq := rfl, argRoll := rfl, argForce := rfl, argDrop := rfl, cmdCount := rfl
      result := rfl, faultData := rfl, spi := rfl, pending := rfl }

theorem sameProtected_refl (s : State) : s.SameProtected s := ⟨fun _ => rfl, rfl, rfl, rfl, rfl, rfl, rfl, rfl⟩

/-- Settles O8: only CONFIG's own stores touch a protected word, and those are made in CONFIG. -/
theorem protectedWordsHoldOutsideConfig : Obligations.ProtectedWordsHoldOutsideConfig := by
  intro c s hstate hreset
  have hsame := sameProtected_refl s
  exact (commandClosed_protected s).exec hreset (fun _ _ => { hsame with }) (fun _ _ hconfig => absurd hconfig hstate)
    (fun hconfig => absurd hconfig hstate) hsame

/-- The commands that clear no event flag keep each that is set (R174). -/
theorem exec_keeps_flags {c : Instr} (hc : clearsFlags c = false) (s : State) :
    ∃ t, exec c s = .next t ∧ ∀ f : EventFlag, s.flag f = true → t.flag f = true := by
  have hreset : isReset c = false := by
    cases c with
    | powerOnReset => cases hc
    | rstN => cases hc
    | _ => rfl
  obtain ⟨t, ht, -⟩ := everyCommandAnswersNext c s
  refine ⟨t, ht, fun f hf => ?_⟩
  have h := commandClosed_flag f
  obtain ⟨u, hu, hflag⟩ := h.exec (c := c) hreset (fun hclears => absurd (hclears.symm.trans hc) (by decide))
    (fun k d _ => by show (s.storeProtected k d).flag f = true; unfold State.flag; rw [State.storeProtected_mgmt]; exact hf)
    (fun hconfig => h.leaveConfig hconfig
      (by show s.assignPst.flag f = true; unfold State.flag; rw [State.assignPst_mgmt]; exact hf) (State.assignPst_ctl s)) hf
  rw [ht] at hu
  cases hu
  exact hflag

/-- Settles O9: only a write of the event flag word and a reset clear a flag, and a capture into a filled record sets `more`
alone. -/
theorem flagsAndFirstErrorAreSticky : Obligations.FlagsAndFirstErrorAreSticky := by
  refine ⟨fun _ s hc => exec_keeps_flags hc s, fun _ s hc hkind => ?_⟩
  obtain ⟨t, ht, hkeeps⟩ := (engineClosed_firstError s.mgmt.firstError).exec hc ⟨hkind, rfl, id⟩
  exact ⟨t, ht, hkeeps.same, hkeeps.more⟩

end Sys2Proof.Proofs
end

section
/-! The laws of the tables hold at reset, and every step keeps them (R19, R63, R96, R100, R126, R140, R148, R155, R181). -/

namespace Sys2Proof.Machine

namespace State

variable {s : State}

/-! ## The LIVE count (R19) -/

theorem mem_liveSlots {q : Nat} : q ∈ s.liveSlots ↔ q ∈ slotIds ∧ (s.slot q).state = .live := by
  simp [State.liveSlots]

theorem nodup_liveSlots (s : State) : s.liveSlots.Nodup := List.Nodup.filter _ (by decide)

/-- Where no slot becomes LIVE the LIVE count does not rise. -/
theorem liveCount_mono {t : State} (h : ∀ i, (t.slot i).state = .live → (s.slot i).state = .live) :
    t.liveCount ≤ s.liveCount := by
  refine (t.nodup_liveSlots.subperm fun i hi => ?_).length_le
  obtain ⟨hmem, hlive⟩ := mem_liveSlots.1 hi
  exact mem_liveSlots.2 ⟨hmem, h i hlive⟩

/-- A push raises the LIVE count by one at most. -/
theorem liveCount_pushAt (s : State) (i o) : (s.pushAt i o).liveCount ≤ s.liveCount + 1 := by
  refine ((s.pushAt i o).nodup_liveSlots.subperm (l₂ := i :: s.liveSlots) fun j hj => ?_).length_le
  obtain ⟨hmem, hlive⟩ := mem_liveSlots.1 hj
  by_cases hji : j = i
  · exact hji ▸ List.mem_cons_self
  · have hslot : (s.pushAt i o).slot j = s.slot j := (setSlot_slot s i _ j).trans (if_neg hji)
    exact List.mem_cons_of_mem _ (mem_liveSlots.2 ⟨hmem, hslot ▸ hlive⟩)

/-- A slot becomes RETIRING as its discard starts, and the others stay as they are (R35). -/
theorem startDiscard_slot (s : State) (q p c j) :
    (s.startDiscard q p c).slot j = if j = q then { s.slot q with state := .retiring } else s.slot j :=
  setSlot_slot s q _ j

/-- A LIVE slot that retires leaves the LIVE count lower. -/
theorem liveCount_startDiscard {q : Nat} (h : q ∈ s.liveSlots) (p c) : (s.startDiscard q p c).liveCount < s.liveCount := by
  have hq : q ∉ (s.startDiscard q p c).liveSlots := by
    rw [mem_liveSlots, startDiscard_slot, if_pos rfl]
    exact fun hlive => nomatch hlive.2
  refine (((s.startDiscard q p c).nodup_liveSlots.cons hq).subperm fun j hj => ?_).length_le
  obtain rfl | hj := List.mem_cons.1 hj
  · exact h
  · obtain ⟨hmem, hlive⟩ := mem_liveSlots.1 hj
    refine mem_liveSlots.2 ⟨hmem, ?_⟩
    rw [startDiscard_slot] at hlive
    split at hlive
    · cases hlive
    · exact hlive

end State

/-! ## The forms and ranges, field by field (log 25; R48, R135, R162, R181) -/

/-- Each table is in its canonical form. -/
structure State.Canonical (s : State) : Prop where
  windows : s.windows.canonical .reset = true
  activity : s.activity.canonical .zero = true
  pst : s.pst.canonical .clear = true
  slots : s.slots.canonical .freed = true
  records : s.records.canonical .freed = true
  entries : s.entries.canonical .freed = true
  channels : s.channels.canonical .reset = true
  copyTags : s.copyTags.canonical .reset = true
  tags : s.tags.canonical .idle = true

/-- The stored values are in range, block by block. -/
structure State.InRange (s : State) : Prop where
  lowWater : s.pool.lowWater.toNat ≤ Config.records
  retryLimit : s.mem.retryLimit.toNat ≤ 15
  sched : s.sched.lawful = true

namespace State

variable {s : State}

theorem tablesCanonical_iff : s.tablesCanonical = true ↔ s.Canonical := by
  simp only [State.tablesCanonical, Bool.and_eq_true, and_assoc]
  exact ⟨fun ⟨h1, h2, h3, h4, h5, h6, h7, h8, h9⟩ => ⟨h1, h2, h3, h4, h5, h6, h7, h8, h9⟩,
    fun ⟨h1, h2, h3, h4, h5, h6, h7, h8, h9⟩ => ⟨h1, h2, h3, h4, h5, h6, h7, h8, h9⟩⟩

theorem rangesLawful_iff : s.rangesLawful = true ↔ s.InRange := by
  simp only [State.rangesLawful, Bool.and_eq_true, decide_eq_true_eq, and_assoc]
  exact ⟨fun ⟨h1, h2, h3, h4⟩ => ⟨h1, h2, by simp [Scheduler.lawful, h3, bne_iff_ne.1 h4]⟩,
    fun ⟨h1, h2, h3⟩ => ⟨h1, h2, by simpa [Scheduler.lawful] using h3⟩⟩

theorem Lawful.canonical (h : s.Lawful) : s.Canonical := tablesCanonical_iff.1 h.tables

theorem Lawful.inRange (h : s.Lawful) : s.InRange := rangesLawful_iff.1 h.ranges

end State

end Sys2Proof.Machine

namespace Sys2Proof.Laws

open Sys2Proof.Machine Sys2Proof.Machine.State

/-- Every primitive update of a command keeps the laws. -/
theorem commandClosed_lawful : CommandClosed State.Lawful where
  raise _ _ h := { h with }
  capture _ _ _ _ _ h := by rw [State.capture_eq]; exact { h with }
  act _ _ _ h := { h with
    tables := tablesCanonical_iff.2 { h.canonical with activity := Table.canonical_set _ _ h.canonical.activity } }
  page _ _ _ h := { h with
    tables := tablesCanonical_iff.2 { h.canonical with pst := Table.canonical_set _ _ h.canonical.pst } }
  slot s i v hv h := { h with
    live := (liveCount_mono fun j hj => by
      rw [setSlot_slot] at hj
      split at hj
      next hji => exact hji ▸ hv hj
      · exact hj).trans h.live
    tables := tablesCanonical_iff.2 { h.canonical with slots := Table.canonical_set _ _ h.canonical.slots } }
  record _ _ _ h := { h with
    tables := tablesCanonical_iff.2 { h.canonical with records := Table.canonical_set _ _ h.canonical.records } }
  entry _ _ _ h := { h with
    tables := tablesCanonical_iff.2 { h.canonical with entries := Table.canonical_set _ _ h.canonical.entries } }
  chan s c v hv h := { h with
    channels := fun i => by
      rw [setChan_chan]
      split
      · exact hv (h.channels c)
      · exact h.channels i
    tables := tablesCanonical_iff.2 { h.canonical with channels := Table.canonical_set _ _ h.canonical.channels } }
  copyTag _ _ _ h := { h with
    tables := tablesCanonical_iff.2 { h.canonical with copyTags := Table.canonical_set _ _ h.canonical.copyTags } }
  pool _ _ _ _ hl h := { h with
    ranges := rangesLawful_iff.2 { h.inRange with lowWater := hl ▸ h.inRange.lowWater } }
  wp _ _ _ hv h := { h with writePath := hv h.writePath }
  sweep _ _ hf hd h := { h with faultList := hf ▸ h.faultList, demand := hd h.demand }
  fault s x h := by
    have hlen := appendFault_length s x h.faultList
    have hdemand := appendFault_demand s x
    rw [appendFault_eq]
    exact { h with faultList := hlen, demand := hdemand ▸ h.demand }
  port _ _ _ _ h := { h with }
  take _ _ _ _ _ _ _ _ h := { h with
    tables := tablesCanonical_iff.2 { h.canonical with tags := Table.canonical_set _ _ h.canonical.tags } }
  ctl _ _ _ hv h := { h with control := hv h.control }
  anyCtl _ _ hv h := { h with control := hv h.control }
  link _ _ _ h := { h with }
  tag _ _ _ h := { h with
    tables := tablesCanonical_iff.2 { h.canonical with tags := Table.canonical_set _ _ h.canonical.tags } }
  mem _ _ hl _ hc h := { h with
    memoryCredits := hc h.memoryCredits
    ranges := rangesLawful_iff.2 { h.inRange with retryLimit := hl ▸ h.inRange.retryLimit } }
  clearTags _ h := { h with
    tables := tablesCanonical_iff.2 { h.canonical with tags := Table.canonical_empty _ } }
  seq _ _ h := { h with }
  mapPages _ _ h := { h with
    tables := tablesCanonical_iff.2 { h.canonical with pst := Table.canonical_mapCells _ h.canonical.pst } }
  mapEntries _ _ h := { h with
    tables := tablesCanonical_iff.2 { h.canonical with entries := Table.canonical_mapCells _ h.canonical.entries } }
  mgmt _ _ _ h := { h with }
  timer _ _ hv h := { h with sampler := hv h.sampler }
  sched _ _ hv h := { h with ranges := rangesLawful_iff.2 { h.inRange with sched := hv h.inRange.sched } }
  mapActivity _ _ h := { h with
    tables := tablesCanonical_iff.2 { h.canonical with activity := Table.canonical_mapCells _ h.canonical.activity } }
  clearActivity _ h := { h with
    tables := tablesCanonical_iff.2 { h.canonical with activity := Table.canonical_empty _ } }
  push s i o hlt h := { h with
    live := (liveCount_pushAt s i o).trans hlt
    tables := tablesCanonical_iff.2 { h.canonical with slots := Table.canonical_set _ _ h.canonical.slots } }
  roll s q i o c hq h := { h with
    live := (liveCount_pushAt _ i o).trans ((liveCount_startDiscard hq none c).trans_le h.live)
    tables := tablesCanonical_iff.2 { h.canonical with
      slots := Table.canonical_set _ _ (Table.canonical_set _ _ h.canonical.slots) } }
  popFault _ _ hf hd h := { h with faultList := hf.trans h.faultList, demand := hd ▸ h.demand }
  enterConfig _ h := { h with
    faultList := Nat.zero_le _
    control := rfl
    tables := tablesCanonical_iff.2 { h.canonical with
      activity := Table.canonical_empty _, pst := Table.canonical_empty _ } }

/-! ## CONFIG's own stores, the step that leaves CONFIG, and the time (R8, R144, R154, R181) -/

/-- A store of a protected word keeps the laws: its values are stored in range. -/
theorem lawful_storeProtected {s : State} (i : Nat) (d : Word) (h : s.Lawful) : (s.storeProtected i d).Lawful := by
  have hwindow : ∀ w v, (s.setWindow w v).Lawful := fun w v => { h with
    tables := tablesCanonical_iff.2 { h.canonical with windows := Table.canonical_set _ _ h.canonical.windows } }
  unfold State.storeProtected State.writeWindow
  dsimp only
  split_ifs
  · exact hwindow _ _
  · exact hwindow _ _
  · exact { h with }
  · exact { h with }
  · have hlow : (BitVec.ofNat 15 (min 16384 (field d 0 15))).toNat ≤ Config.records := by
      rw [BitVec.toNat_ofNat]
      exact (Nat.mod_le _ _).trans (Nat.min_le_left _ _)
    exact { h with ranges := rangesLawful_iff.2 { h.inRange with lowWater := hlow } }
  · exact { h with }
  · exact { h with }
  · have hlimit : (BitVec.ofNat 8 (min 15 (field d 16 8))).toNat ≤ 15 := by
      rw [BitVec.toNat_ofNat]
      exact (Nat.mod_le _ _).trans (Nat.min_le_left _ _)
    exact { h with ranges := rangesLawful_iff.2 { h.inRange with retryLimit := hlimit } }

/-- The window table stays canonical as the PST indices are assigned (R8). -/
theorem canonical_assignPst_windows {s : State} (h : s.windows.canonical .reset = true) :
    s.assignPst.windows.canonical .reset = true := by
  have hfold := Closed.foldl (P := fun t => t.windows.canonical .reset = true)
    (f := fun t w => t.setWindow w { s.window w with firstIndex := BitVec.ofNat 16 (s.firstIndexOf w) })
    (fun t w ht => Table.canonical_set _ _ ht) windowIds s h
  exact hfold

/-- The step that leaves CONFIG keeps the laws. -/
theorem lawful_leaveConfig {s : State} (hconfig : s.ctl.state = .config) (h : s.Lawful) : s.leaveConfig.Lawful := by
  refine commandClosed_lawful.leaveConfig hconfig ?_ (assignPst_ctl s)
  have hwindows := canonical_assignPst_windows h.canonical.windows
  rw [assignPst_eq]
  exact { h with
    tables := tablesCanonical_iff.2 { h.canonical with
      windows := hwindows, pst := Table.canonical_empty _
      entries := Table.canonical_mapCells _ h.canonical.entries } }

/-- A microsecond leaves the timer lawful: the prescaler starts again at the tick length (R155). -/
theorem advance_lawful {m : Sampler} (h : m.lawful = true) : m.advance.lawful = true := by
  have hpos := CommandClosed.tickLength_pos m.tickSelect
  simp only [Sampler.lawful, Bool.and_eq_true, Bool.or_eq_true, decide_eq_true_eq] at h
  obtain ⟨⟨hcounts, hpre⟩, -⟩ := h
  unfold Sampler.advance
  split_ifs with hrun htick <;>
    simp only [Sampler.lawful, Bool.and_eq_true, Bool.or_eq_true, decide_eq_true_eq]
  · exact ⟨⟨hcounts, hpos⟩, .inr ⟨rfl, rfl⟩⟩
  · exact ⟨⟨hcounts, hpos⟩, .inl (by simpa using hrun)⟩
  · exact ⟨⟨hcounts, by omega⟩, .inl (by simpa using hrun)⟩

/-- The laws hold at reset, in the tables' canonical form and with every value in range. -/
theorem lawful_reset : State.reset.Lawful where
  live := by decide
  tables := rfl
  channels _ := rfl
  writePath := rfl
  control := rfl
  sampler := rfl
  ranges := rfl
  faultList := Nat.zero_le _
  demand := Nat.zero_le _
  memoryCredits := Nat.zero_le _

/-- The laws do not speak of the queue of commands. -/
theorem lawful_pending {s : State} (l : List Instr) (h : s.Lawful) : State.Lawful { s with pending := l } := { h with }

/-- Every command keeps the laws. -/
theorem lawful_exec {c : Instr} {s t : State} (h : s.Lawful) (ht : exec c s = .next t) : t.Lawful := by
  cases hreset : isReset c with
  | true =>
    rw [State.exec_reset (isReset_iff.1 hreset) s] at ht
    cases ht
    exact lawful_pending _ lawful_reset
  | false =>
    obtain ⟨u, hu, hlawful⟩ := commandClosed_lawful.exec hreset (fun _ _ => { h with })
      (fun k d _ => lawful_storeProtected k d h) (fun hconfig => lawful_leaveConfig hconfig h) h
    rw [ht] at hu
    cases hu
    exact hlawful

end Sys2Proof.Laws

namespace Sys2Proof.Proofs

open Sys2Proof.Machine Sys2Proof.Laws

/-- Settles O4: the reset state meets each law. -/
theorem lawsHoldAtReset : Obligations.LawsHoldAtReset := lawful_reset

/-- Settles O5: the commands by their primitive updates, and the microsecond of an empty queue by the timer's. -/
theorem everyStepKeepsTheLaws : Obligations.EveryStepKeepsTheLaws := by
  intro s t h ht
  unfold step at ht
  split at ht
  · cases ht
    exact { h with sampler := advance_lawful h.sampler }
  · exact lawful_exec (lawful_pending _ h) ht

end Sys2Proof.Proofs
end

section
/-! One step of the machine (O1), the microsecond of an empty queue (O2), and what the resets leave (O3). -/

namespace Sys2Proof.Machine

namespace State

variable {s : State}

/-! ## The microsecond of an empty queue (R154, R155, log 2) -/

/-- A deadline that time `now` has reached, said as a Bool over the deadline. -/
theorem expired_eq (s : State) (d : Option Nat) : s.expired d = d.any fun t => decide (t ≤ s.now) := by
  cases d <;> rfl

/-- The hold timeouts due after a microsecond are those whose deadline the advanced time has reached (R117). -/
theorem advance_holdDue (s : State) : s.advance.holdDue = holdReached s (s.now + 1) := by
  funext n
  have hentry : s.advance.entry n = s.entry n := rfl
  have hnow : s.advance.now = s.now + 1 := rfl
  unfold State.holdDue holdReached State.isListed
  rw [expired_eq, hentry, hnow]
  cases (s.entry n).state <;> rfl

/-- The response timeouts due after a microsecond are those whose deadline the advanced time has reached (R136). -/
theorem advance_responseDue (s : State) : s.advance.responseDue = responseReached s (s.now + 1) := by
  funext k
  have htag : s.advance.tag k = s.tag k := rfl
  have hnow : s.advance.now = s.now + 1 := rfl
  unfold State.responseDue responseReached
  rw [expired_eq, htag, hnow]

/-- The events that a microsecond brings, in the order in which they join the queue. -/
theorem advance_dueEvents (s : State) :
    s.advance.dueEvents =
      (if s.advance.sampler.running = true ∧ s.advance.sampler.tick = true then
        [if s.advance.sampler.count = 1#16 then Instr.intervalEnd else .samplingTick] else []) ++
      ((List.range 128).filter (holdReached s (s.now + 1))).map .holdTimeout ++
      ((List.range 144).filter (responseReached s (s.now + 1))).map .responseTimeout := by
  unfold State.dueEvents State.tickDue
  rw [advance_holdDue, advance_responseDue, List.append_assoc]
  simp only [Bool.and_eq_true]
  rfl

end State

/-! ## The resets (R143) -/

/-- Reading a register does not depend on the queue of commands. -/
theorem State.readWord_pending (s : State) (l : List Instr) (i : Byte) :
    State.readWord { s with pending := l } i = s.readWord i := rfl

/-- Every register reads its reset value in the reset state (11.3): the 256 indices one by one. -/
theorem readWord_reset (i : Byte) : State.reset.readWord i = resetReading i.toNat := by
  revert i
  decide +kernel

end Sys2Proof.Machine

namespace Sys2Proof.Proofs

open Sys2Proof.Machine

/-- Settles O1: with a command at the front of the queue a step is that command on the rest. -/
theorem stepRunsTheFrontCommand : Obligations.StepRunsTheFrontCommand := fun _ _ _ => rfl

/-- Settles O2: the microsecond's three cases of the prescaler, and the events that its advanced time makes due. -/
theorem idleStepPassesOneMicrosecond : Obligations.IdleStepPassesOneMicrosecond := by
  intro s hs
  have hstep : step s = .next s.idle := by
    unfold step
    rw [hs]
  have hsampler : s.idle.sampler = s.sampler.advance := rfl
  refine ⟨_, hstep, ?_, fun hstop => ?_, fun hrun hlt => ?_, fun hrun hle => ?_⟩
  · have hevents := s.advance_dueEvents
    have hidle : s.idle = { s.advance with pending := s.pending ++ s.advance.dueEvents } := rfl
    rw [hidle, hs, List.nil_append, hevents]
    rfl
  · rw [hsampler, Sampler.advance, if_pos hstop]
  · rw [hsampler, Sampler.advance, if_neg (by simp [hrun]), if_neg (Nat.not_le.2 hlt)]
  · rw [hsampler, Sampler.advance, if_neg (by simp [hrun]), if_pos hle]

/-- Settles O3: both resets give the reset state, whose registers read their reset values one by one. -/
theorem resetsLeaveTheResetValues : Obligations.ResetsLeaveTheResetValues := by
  intro c s hc
  refine ⟨_, State.exec_reset hc s, rfl, fun i => ?_, State.alert_of_mask_zero rfl, ?_, rfl, rfl, rfl, rfl, fun _ => rfl,
    fun _ => rfl, fun _ => rfl, fun _ => rfl, fun _ => rfl, fun _ => rfl, rfl, rfl, rfl, rfl, rfl, rfl, rfl⟩
  · rw [State.readWord_pending, readWord_reset]
  · show State.reset.summaryByte = 0#8
    decide +kernel

end Sys2Proof.Proofs
end

section
/-! The register window (10, 10.2; 11.3): packed fields read back, and what each index reads, said once per word. -/

namespace Sys2Proof.Machine

/-! ## Packed fields (11) -/

/-- The fields of a word packed from bit `lo` on: each its lowest bit, its width and its value. -/
def placed : Nat → List (Nat × Nat) → List (Nat × Nat × Nat)
  | _, [] => []
  | lo, (w, v) :: t => (lo, w, v) :: placed (lo + w) t

/-- The bits that packed fields take together. -/
def fieldsWidth : List (Nat × Nat) → Nat
  | [] => 0
  | (w, _) :: t => w + fieldsWidth t

theorem packNat_lt (l : List (Nat × Nat)) : packNat l < 2 ^ fieldsWidth l := by
  induction l with
  | nil => exact Nat.one_pos
  | cons e t ih =>
    obtain ⟨w, v⟩ := e
    have hv : v % 2 ^ w < 2 ^ w := Nat.mod_lt _ (Nat.two_pow_pos w)
    calc packNat ((w, v) :: t) = v % 2 ^ w + 2 ^ w * packNat t := rfl
      _ < 2 ^ w + 2 ^ w * packNat t := Nat.add_lt_add_right hv _
      _ = 2 ^ w * (packNat t + 1) := by rw [Nat.mul_add, Nat.mul_one, Nat.add_comm]
      _ ≤ 2 ^ w * 2 ^ fieldsWidth t := Nat.mul_le_mul_left _ ih
      _ = 2 ^ fieldsWidth ((w, v) :: t) := (Nat.pow_add ..).symm

/-- Each packed field reads its value, cut to its width. -/
theorem packNat_field {lo : Nat} {l : List (Nat × Nat)} {e : Nat × Nat × Nat} (he : e ∈ placed lo l) :
    lo ≤ e.1 ∧ packNat l / 2 ^ (e.1 - lo) % 2 ^ e.2.1 = e.2.2 % 2 ^ e.2.1 := by
  induction l generalizing lo with
  | nil => cases he
  | cons f t ih =>
    obtain ⟨w, v⟩ := f
    have hv : v % 2 ^ w < 2 ^ w := Nat.mod_lt _ (Nat.two_pow_pos w)
    obtain rfl | he := List.mem_cons.1 he
    · refine ⟨le_rfl, ?_⟩
      dsimp only
      rw [Nat.sub_self, Nat.pow_zero, Nat.div_one, packNat, Nat.add_mul_mod_self_left, Nat.mod_mod]
    · obtain ⟨hle, hfield⟩ := ih he
      have hsub : e.1 - lo = w + (e.1 - (lo + w)) := by omega
      refine ⟨by omega, ?_⟩
      rw [hsub, Nat.pow_add, ← Nat.div_div_eq_div_mul, packNat, Nat.add_mul_div_left _ _ (Nat.two_pow_pos w),
        Nat.div_eq_of_lt hv, Nat.zero_add, hfield]

theorem pack_toNat {l : List (Nat × Nat)} (h : fieldsWidth l ≤ 32) : (pack l).toNat = packNat l := by
  rw [pack, BitVec.toNat_ofNat, Nat.mod_eq_of_lt ((packNat_lt l).trans_le (Nat.pow_le_pow_right (by decide) h))]

/-- A word that reads packed fields reads each of them, and 0 above the last. -/
theorem reads_of_pack {s : State} {i : Byte} {top : Nat} {l : List (Nat × Nat × Nat)} {fields : List (Nat × Nat)}
    (hread : s.readWord i = pack fields) (hwidth : fieldsWidth fields = top) (htop : top ≤ 32)
    (hl : l ⊆ placed 0 fields) : reads s i top l := by
  subst hwidth
  have hword : (s.readWord i).toNat = packNat fields := by rw [hread, pack_toNat htop]
  refine ⟨hword ▸ packNat_lt fields, fun e he => ?_⟩
  have hfield := (packNat_field (hl he)).2
  rwa [Nat.sub_zero, ← hword] at hfield

theorem bitNat_eq (b : Bool) : bitNat b = b.toNat := by cases b <;> rfl

namespace State

variable (s : State)

/-! ## Counts shown by the status words -/

theorem transactionsPending_eq : bitNat s.transactionsPending =
    if howMany 128 (fun n => (s.entry n).state != .free) = 0 then 0 else 1 := by
  have hnone : howMany 128 (fun n => (s.entry n).state != .free) = 0 ↔ s.transactionsPending = false := by
    rw [howMany, List.length_eq_zero_iff, List.filter_eq_nil_iff, State.transactionsPending, List.any_eq_false]
    rfl
  cases h : s.transactionsPending
  · rw [if_pos (hnone.2 h)]
    rfl
  · rw [if_neg fun hzero => Bool.false_ne_true ((hnone.1 hzero).symm.trans h)]
    rfl

theorem chanTags_eq (c : Nat) : chanTags c = (List.range 4).map fun k => 128 + 4 * c + k := by
  have h1 : 129 + 4 * c = 128 + 4 * c + 1 := by omega
  have h2 : 130 + 4 * c = 128 + 4 * c + 2 := by omega
  have h3 : 131 + 4 * c = 128 + 4 * c + 3 := by omega
  rw [chanTags, h1, h2, h3]
  rfl

/-- The quarantined tags of a channel, counted along its four. -/
theorem quarantinedTags_eq (c : Nat) :
    ((chanTags c).filter fun t => (s.copyTag t).use == .quarantined).length =
      howMany 4 fun k => (s.copyTag (128 + 4 * c + k)).use == .quarantined := by
  rw [chanTags_eq, List.filter_map, List.length_map]
  rfl

/-- The quarantined tags of all channels, counted along the sixteen. -/
theorem channelTags_eq : channelTags = (List.range 16).map fun k => 128 + k := rfl

theorem tagsIn_channelTags (st : TagState) :
    s.tagsIn channelTags st = howMany 16 fun k => (s.tag (128 + k)).state == st := by
  unfold State.tagsIn
  rw [channelTags_eq, List.filter_map, List.length_map]
  rfl

/-! ## Whole words -/

/-- Two halves of 16 bits packed are one word. -/
theorem pack_halves (a b : BitVec 16) : pack [(16, a.toNat), (16, b.toNat)] = b ++ a := by
  refine BitVec.eq_of_toNat_eq ?_
  have hwidth : fieldsWidth [(16, a.toNat), (16, b.toNat)] ≤ 32 := Nat.le_refl 32
  rw [pack_toNat hwidth, BitVec.toNat_append, ← Nat.shiftLeft_add_eq_or_of_lt a.isLt, Nat.shiftLeft_eq]
  have ha := a.isLt
  have hb := b.isLt
  simp only [packNat]
  omega

/-- The words 0x40 to 0x7F are the activity counters. -/
theorem readWord_activity {i : Nat} (hlo : 0x40 ≤ i) (hhi : i < 0x80) :
    s.readWord (BitVec.ofNat 8 i) = s.readActivity i := by
  have hi : (BitVec.ofNat 8 i).toNat = i := by rw [BitVec.toNat_ofNat]; omega
  unfold State.readWord
  simp only [hi]
  rw [if_neg (by omega), if_neg (by omega), if_neg (by omega), if_neg (by omega), if_neg (by omega), if_neg (by omega),
    if_pos hhi]

/-- A window's running counters stand at the first four of its eight indices. -/
theorem readWord_running {w k : Nat} (hw : w < 8) (hk : k < 4) :
    s.readWord (BitVec.ofNat 8 (0x40 + 8 * w + k)) = (s.act w).running.pick k := by
  have hwindow : (0x40 + 8 * w + k - 0x40) / 8 = w := by omega
  have hplace : (0x40 + 8 * w + k) % 8 = k := by omega
  rw [readWord_activity s (by omega) (by omega), State.readActivity, hwindow, hplace]
  exact if_pos hk

/-- A window's last-interval counters stand at the last four of its eight indices. -/
theorem readWord_last {w k : Nat} (hw : w < 8) (hk : k < 4) :
    s.readWord (BitVec.ofNat 8 (0x44 + 8 * w + k)) = (s.act w).last.pick k := by
  have hwindow : (0x44 + 8 * w + k - 0x40) / 8 = w := by omega
  have hplace : (0x44 + 8 * w + k) % 8 = k + 4 := by omega
  rw [readWord_activity s (by omega) (by omega), State.readActivity, hwindow, hplace]
  exact if_neg (by omega)

theorem pick_eq_getD (c : Counts) {k : Nat} (hk : k < 4) :
    c.pick k = [c.reads, c.writes, c.preserves, c.refusals].getD k 0#32 := by
  interval_cases k <;> rfl

/-! ## The sweep's sequence (R80) -/

theorem sweepSeq_none (h : s.sweep.kind = .none ∨ s.sweep.kind = .commit) : s.sweepSeq = 0#32 := by
  unfold State.sweepSeq
  obtain h | h := h <;> rw [h]

theorem sweepSeq_discard {q : Nat} (hk : s.sweep.kind = .discard) (hq : s.sweep.retiring = some q) :
    s.sweepSeq = (s.slot q).seq := by
  unfold State.sweepSeq
  rw [hk, hq]

theorem sweepSeq_rollback {q : Nat} (hk : s.sweep.kind = .rollback) (hq : s.sweep.target = some q) :
    s.sweepSeq = (s.slot q).seq := by
  unfold State.sweepSeq
  rw [hk, hq]

end State

end Sys2Proof.Machine
end

section
/-! What a register write does (R171): the ignored writes (O14), and the read-only words (O12). -/

namespace Sys2Proof.Machine

/-- The indices outside the protected words whose write does something (R171). -/
def writableIndices : List Byte := [0x2C#8, 0x2D#8, 0x30#8, 0x31#8, 0x32#8, 0x33#8, 0x98#8, 0x9C#8]

theorem isProtected_iff {i : Nat} : isProtected i = true ↔ 0x80 ≤ i ∧ i ≤ 0x95 := by
  rw [isProtected, Bool.and_eq_true, decide_eq_true_eq, decide_eq_true_eq]

theorem ne_of_not_writable {i k : Byte} (h : i ∉ writableIndices) (hk : k ∈ writableIndices) : i.toNat ≠ k.toNat :=
  fun he => h (BitVec.eq_of_toNat_eq he ▸ hk)

/-- An index that is neither protected nor writable, or a protected one outside CONFIG, makes the write an ignored one. -/
theorem exec_registerWrite_ignored {i : Byte} {s : State} (hi : i ∉ writableIndices)
    (hprot : (0x80 ≤ i.toNat ∧ i.toNat ≤ 0x95) → s.ctl.state ≠ .config) (d : Word) :
    exec (.registerWrite i d) s = .next s.reject := by
  have hne : ∀ k, k ∈ writableIndices → i ≠ k := fun k hk he => hi (he ▸ hk)
  have h32 : ¬(i.toNat = 0x32 ∨ i.toNat = 0x33) := fun h => h.elim
    (ne_of_not_writable hi (by decide : 0x32#8 ∈ _)) (ne_of_not_writable hi (by decide : 0x33#8 ∈ _))
  have h98 : i.toNat ≠ 0x98 := ne_of_not_writable hi (by decide : 0x98#8 ∈ _)
  have h9C : i.toNat ≠ 0x9C := ne_of_not_writable hi (by decide : 0x9C#8 ∈ _)
  have hword : s.writeWord i d = s.reject := by
    unfold State.writeWord
    dsimp only
    split_ifs with hp hconfig
    · exact absurd hconfig (hprot (isProtected_iff.1 hp))
    · rfl
    · rfl
  show execRegisterWrite i d s = _
  unfold execRegisterWrite
  rw [if_neg (hne 0x2C#8 (by decide)), if_neg (hne 0x2D#8 (by decide)), if_neg (hne 0x30#8 (by decide)),
    if_neg (hne 0x31#8 (by decide)), hword]

end Sys2Proof.Machine

namespace Sys2Proof.Proofs

open Sys2Proof.Machine Sys2Proof.Machine.State

/-- Settles O14: an index that is not writable, or protected outside CONFIG, makes the write an ignored one. -/
theorem ignoredWritesSetMgmtReject : Obligations.IgnoredWritesSetMgmtReject := by
  rintro i d s (⟨hlo, hhi, hstate⟩ | ⟨hrange, hi⟩)
  · refine exec_registerWrite_ignored (fun hi => ?_) (fun _ => hstate) d
    simp only [writableIndices, List.mem_cons, List.not_mem_nil, or_false] at hi
    obtain rfl | rfl | rfl | rfl | rfl | rfl | rfl | rfl := hi <;> revert hlo hhi <;> decide
  · exact exec_registerWrite_ignored hi (fun hp => by omega) d

/-- The indices of the read-only words are not writable. -/
theorem readOnly_not_writable {i : Byte}
    (hi : i.toNat < 0x2C ∨ i ∈ [0x2E#8, 0x2F#8, 0x34#8, 0x35#8, 0x99#8, 0x9A#8, 0x9D#8, 0x9E#8] ∨
      (0x40 ≤ i.toNat ∧ i.toNat < 0x80)) : i ∉ writableIndices ∧ ¬(0x80 ≤ i.toNat ∧ i.toNat ≤ 0x95) := by
  revert i
  decide +kernel

/-- Settles O12: each word's packed fields, and the words that hold one value. -/
theorem readOnlyWordsShowTheState : Obligations.ReadOnlyWordsShowTheState := by
  intro s
  refine ⟨⟨rfl, rfl, ?_⟩, ?_, ?_, ?_, ?_, ?_, ?_, ?_, ?_, ?_, ?_, s.sweepSeq_none, fun _ => s.sweepSeq_discard,
    fun _ => s.sweepSeq_rollback, rfl, ?_, rfl, pack_halves _ _, pack_halves _ _, fun q hq => ?_, rfl, ?_,
    ⟨rfl, rfl, rfl, rfl, rfl⟩, ?_, ?_, ?_, rfl, fun w hw k hk => ⟨?_, ?_⟩, pack_halves _ _, ?_, ?_, rfl,
    fun i d hi => ?_⟩
  · exact reads_of_pack (fields := [(4, 8), (4, 4), (4, 4), (4, 14), (5, 16)]) rfl rfl (by decide) (List.Subset.refl _)
  · refine reads_of_pack rfl rfl (by decide) ?_
    simp only [bitNat_eq]
    exact List.Subset.refl _
  · refine reads_of_pack rfl rfl (by decide) ?_
    rw [transactionsPending_eq, bitNat_eq]
    exact List.Subset.refl _
  · exact reads_of_pack rfl rfl (by decide) (List.Subset.refl _)
  · refine reads_of_pack rfl rfl (by decide) ?_
    rw [tagsIn_channelTags, bitNat_eq]
    exact List.Subset.refl _
  · exact reads_of_pack rfl rfl (by decide) (List.Subset.refl _)
  · refine reads_of_pack rfl rfl (by decide) ?_
    simp only [State.chanFields, quarantinedTags_eq]
    exact List.Subset.refl _
  · refine reads_of_pack rfl rfl (by decide) ?_
    simp only [State.chanFields, quarantinedTags_eq, bitNat_eq]
    exact List.Subset.refl _
  · exact reads_of_pack rfl rfl (by decide) (List.Subset.refl _)
  · exact reads_of_pack rfl rfl (by decide) (List.Subset.refl _)
  · refine reads_of_pack rfl rfl (by decide) ?_
    rw [bitNat_eq]
    cases s.sweep.cause with
    | none => exact List.Subset.refl _
    | some c => cases c <;> exact List.Subset.refl _
  · refine reads_of_pack rfl rfl (by decide) ?_
    rw [bitNat_eq]
    exact List.Subset.refl _
  · refine ⟨?_, ?_⟩
    · interval_cases q <;> rfl
    · have hread : s.readWord (BitVec.ofNat 8 (0x19 + 2 * q)) = pack
          [(2, (s.slot q).state.code), (1, (s.slot q).origin.code), (1, bitNat (s.slot q).damaged),
            (15, (s.slot q).count)] := by
        interval_cases q <;> rfl
      refine reads_of_pack hread rfl (by decide) ?_
      rw [bitNat_eq]
      exact List.Subset.refl _
  · exact reads_of_pack rfl rfl (by decide) (List.Subset.refl _)
  · refine reads_of_pack rfl rfl (by decide) ?_
    simp only [bitNat_eq]
    exact List.Subset.refl _
  · exact BitVec.setWidth_eq_extractLsb' (by decide : 32 ≤ 40)
  · exact reads_of_pack rfl rfl (by decide) (List.Subset.refl _)
  · rw [readWord_running s hw hk, pick_eq_getD _ hk]
  · rw [readWord_last s hw hk, pick_eq_getD _ hk]
  · refine reads_of_pack rfl rfl (by decide) ?_
    rw [bitNat_eq]
    exact List.Subset.refl _
  · refine reads_of_pack rfl rfl (by decide) ?_
    simp only [bitNat_eq]
    exact List.Subset.refl _
  · obtain ⟨hwritable, hprot⟩ := readOnly_not_writable hi
    exact exec_registerWrite_ignored hwritable (fun hp => absurd hp hprot) d

end Sys2Proof.Proofs
end

section
/-! What a register write stores: the protected words in CONFIG (O13), the flag and first-error words (O11), the sampler and
scheduler control words (O16, O17), and the words that are read and written (O15). -/

namespace Sys2Proof.Machine

/-! ## Bit fields of a written word (0.5) -/

theorem field_eq_extractLsb' (d : Word) (lo w : Nat) : field d lo w = (d.extractLsb' lo w).toNat := by
  rw [field, BitVec.extractLsb'_toNat, Nat.shiftRight_eq_div_pow]

theorem ofNat_field (d : Word) (lo w : Nat) : BitVec.ofNat w (field d lo w) = d.extractLsb' lo w := by
  rw [field_eq_extractLsb', BitVec.ofNat_toNat, BitVec.setWidth_eq]

/-- A field stored no higher than `m`, which its width holds (R181). -/
theorem ofNat_min_field (d : Word) (lo w m : Nat) :
    BitVec.ofNat w (min m (field d lo w)) = if m < (d.extractLsb' lo w).toNat then BitVec.ofNat w m else d.extractLsb' lo w := by
  rw [field_eq_extractLsb']
  split
  next h => rw [Nat.min_eq_left h.le]
  next h => rw [Nat.min_eq_right (Nat.not_lt.1 h), BitVec.ofNat_toNat, BitVec.setWidth_eq]

/-- The mode a window word's two bits name (R1, R181). -/
theorem ofCode_mode (d : Word) : Mode.ofCode (field d 28 2) =
    if d.extractLsb' 28 2 = 0#2 then .pass else if d.extractLsb' 28 2 = 1#2 then .guard
    else if d.extractLsb' 28 2 = 2#2 then .census else .fence := by
  rw [field_eq_extractLsb', Mode.ofCode]
  simp only [BitVec.toNat_eq, BitVec.reduceToNat]

/-- The policy that two bits name (R68, R181). -/
theorem ofCode_policy (d : Word) : Policy.ofCode (field d 0 2) =
    if d.extractLsb' 0 2 = 1#2 then .break else if d.extractLsb' 0 2 = 2#2 then .wait else .refuse := by
  rw [field_eq_extractLsb', Policy.ofCode]
  simp only [BitVec.toNat_eq, BitVec.reduceToNat]

namespace State

variable {s : State}

/-! ## The protected words in CONFIG (R144) -/

/-- In CONFIG a write of a protected word stores it. -/
theorem exec_registerWrite_protected {i : Byte} (hi : 0x80 ≤ i.toNat ∧ i.toNat ≤ 0x95) (hs : s.ctl.state = .config)
    (d : Word) : exec (.registerWrite i d) s = .next (s.storeProtected i.toNat d) := by
  have hne : ∀ k : Byte, k.toNat < 0x80 → i ≠ k := fun k hk he => by rw [he] at hi; omega
  show execRegisterWrite i d s = _
  unfold execRegisterWrite State.writeWord
  rw [if_neg (hne 0x2C#8 (by decide)), if_neg (hne 0x2D#8 (by decide)), if_neg (hne 0x30#8 (by decide)),
    if_neg (hne 0x31#8 (by decide))]
  dsimp only
  rw [if_pos (isProtected_iff.2 hi), if_pos hs]

/-- The even word of window `w` stores base, mode and enable (R1). -/
theorem storeProtected_windowBase {w : Nat} (hw : w < 8) (d : Word) :
    s.storeProtected (0x80 + 2 * w) d = s.setWindow w { s.window w with
      base := d.extractLsb' 0 28, enable := d.getLsbD 31
      mode := if d.extractLsb' 28 2 = 0#2 then .pass else if d.extractLsb' 28 2 = 1#2 then .guard
        else if d.extractLsb' 28 2 = 2#2 then .census else .fence } := by
  have hindex : (0x80 + 2 * w - 0x80) / 2 = w := by omega
  unfold State.storeProtected State.writeWindow
  rw [if_pos (by omega)]
  dsimp only
  rw [if_pos (by omega), hindex, ofNat_field, ofCode_mode]
  rfl

/-- The odd word of window `w` stores the count (R1). -/
theorem storeProtected_windowCount {w : Nat} (hw : w < 8) (d : Word) :
    s.storeProtected (0x81 + 2 * w) d = s.setWindow w { s.window w with count := d.extractLsb' 0 16 } := by
  have hindex : (0x81 + 2 * w - 0x80) / 2 = w := by omega
  unfold State.storeProtected State.writeWindow
  rw [if_pos (by omega)]
  dsimp only
  rw [if_neg (by omega), hindex, ofNat_field]

/-! ## The sampler control word (R155 to R158) -/

/-- The run state as one store: where it does not change the prescaler and the tick stay (R157). -/
theorem setRun_eq (s : State) (run : Bool) : s.setRun run = s.setSampler { s.sampler with
    running := run, prescaler := if run = s.sampler.running then s.sampler.prescaler else 0
    tick := s.sampler.tick && run == s.sampler.running } := by
  unfold State.setRun
  split
  next h =>
    subst h
    simp only [beq_self_eq_true, Bool.and_true]
    rfl
  next h => simp only [beq_eq_false_iff_ne.2 h, Bool.and_false]

/-- A restart, where the word asks for one, as one store (R158). -/
theorem restartIf_eq (s : State) (restart : Bool) : (if restart = true then s.restartSampler else s) = s.setSampler
    { s.sampler with
      count := if restart = true then s.sampler.reload else s.sampler.count
      prescaler := if restart = true then 0 else s.sampler.prescaler } := by
  cases restart <;> rfl

/-- A prescaler that three tests in turn set to 0 is 0 where one of them does. -/
theorem prescaler_eq {a b c : Prop} [Decidable a] [Decidable b] [Decidable c] (n : Nat) :
    (if c then if a then 0 else if b then n else 0 else 0) = if a ∨ ¬b ∨ ¬c then 0 else n := by
  split_ifs <;> tauto

/-- The whole write, field by field. -/
theorem writeSampler_eq (d : Word) (s : State) : s.writeSampler d = s.setSampler
    { running := d.getLsbD 0
      tickSelect := d.extractLsb' 2 2
      reload := if d.extractLsb' 16 16 = 0#16 then 1#16 else d.extractLsb' 16 16
      count := if d.getLsbD 1 = true then (if d.extractLsb' 16 16 = 0#16 then 1#16 else d.extractLsb' 16 16)
        else s.sampler.count
      prescaler := if d.getLsbD 1 = true ∨ d.extractLsb' 2 2 ≠ s.sampler.tickSelect ∨ d.getLsbD 0 ≠ s.sampler.running
        then 0 else s.sampler.prescaler
      tick := s.sampler.tick && d.extractLsb' 2 2 == s.sampler.tickSelect && d.getLsbD 0 == s.sampler.running } := by
  unfold State.writeSampler bitAt
  dsimp only
  rw [restartIf_eq, setRun_eq, ofNat_field, ofNat_field]
  unfold State.storeSampler
  simp only [setSampler_sampler]
  refine congrArg s.setSampler ?_
  congr 1
  exact prescaler_eq s.sampler.prescaler

/-! ## The scheduler control word (R162, R165) -/

/-- The settings that a write stores, the counters of a scheduler that it enables loaded anew (R162). -/
theorem writeScheduler_eq (d : Word) (s : State) : s.writeScheduler d =
    let u := s.setSched { s.sched with
      enable := d.getLsbD 0
      roll := d.getLsbD 1
      maxDeferrals := if 15 < (d.extractLsb' 2 6).toNat then 15#6 else d.extractLsb' 2 6
      period := if d.extractLsb' 8 8 = 0#8 then 1#8 else d.extractLsb' 8 8
      quiet := d.extractLsb' 16 16
      periodCounter := if s.sched.enable = false ∧ d.getLsbD 0 = true then
          (if d.extractLsb' 8 8 = 0#8 then 1#8 else d.extractLsb' 8 8) else s.sched.periodCounter
      deferrals := if s.sched.enable = false ∧ d.getLsbD 0 = true then 0#4 else s.sched.deferrals }
    if s.sched.roll = false ∧ d.getLsbD 1 = true then u.pressureCheck else u := by
  have hmax : BitVec.ofNat 6 (min 15 (field d 2 6)) = if 15 < (d.extractLsb' 2 6).toNat then 15#6 else d.extractLsb' 2 6 :=
    ofNat_min_field d 2 6 15
  unfold State.writeScheduler Scheduler.store bitAt
  rw [hmax, ofNat_field, ofNat_field]
  by_cases hen : s.sched.enable = false ∧ d.getLsbD 0 = true
  · simp only [hen, if_true, and_self]
  · simp only [hen, if_false]

end State

end Sys2Proof.Machine

namespace Sys2Proof.Proofs

open Sys2Proof.Machine Sys2Proof.Machine.State

/-- Settles O11: the two words' writes, and a capture by what the record held. -/
theorem flagAndFirstErrorWritesClear : Obligations.FlagAndFirstErrorWritesClear := by
  refine ⟨fun d s => ⟨_, rfl, fun f => ?_, rfl⟩, fun _ _ => rfl, fun s k t a w h => ?_, fun s k t a w h => ?_⟩
  · have hbit : f.bit < 21 := by cases f <;> decide
    show (s.mgmt.flags &&& ~~~(d.setWidth 21)).getLsbD f.bit = _
    rw [BitVec.getLsbD_and, BitVec.getLsbD_not, BitVec.getLsbD_setWidth, decide_eq_true hbit, Bool.true_and,
      Bool.true_and]
    rfl
  · exact if_pos h
  · exact if_neg h

/-- Settles O13: each protected word's store in CONFIG, with a field's bits as the word gives them. -/
theorem protectedWritesStoreInConfig : Obligations.ProtectedWritesStoreInConfig := by
  intro i d s hs
  refine ⟨fun w hw hi => ?_, fun w hw hi => ?_, ?_, ?_, ?_, ?_, ?_, ?_⟩
  · rw [exec_registerWrite_protected (by omega) hs, hi, storeProtected_windowBase hw]
    exact ⟨_, rfl, rfl, by rw [setWindow_window, if_pos rfl], fun v hv => by rw [setWindow_window, if_neg hv]⟩
  · rw [exec_registerWrite_protected (by omega) hs, hi, storeProtected_windowCount hw]
    exact ⟨_, rfl, rfl, by rw [setWindow_window, if_pos rfl], fun v hv => by rw [setWindow_window, if_neg hv]⟩
  · rintro rfl
    rw [exec_registerWrite_protected (by decide) hs, ← ofNat_field]
    rfl
  · rintro rfl
    rw [exec_registerWrite_protected (by decide) hs, ← ofNat_field]
    rfl
  · rintro rfl
    have hlow := ofNat_min_field d 0 15 16384
    rw [exec_registerWrite_protected (by decide) hs, ← hlow]
    rfl
  · rintro rfl
    rw [exec_registerWrite_protected (by decide) hs, ← ofCode_policy]
    rfl
  · rintro rfl
    rw [exec_registerWrite_protected (by decide) hs, ← ofNat_field]
    rfl
  · rintro rfl
    have hlimit := ofNat_min_field d 16 8 15
    rw [exec_registerWrite_protected (by decide) hs, ← hlimit, ← ofNat_field]
    rfl

/-- Settles O16: the four rows make one write. -/
theorem samplerControlWriteIsOneStep : Obligations.SamplerControlWriteIsOneStep := by
  intro c d s hc
  have hexec : exec c s = .next (s.writeSampler d) := by
    simp only [List.mem_cons, List.not_mem_nil, or_false] at hc
    obtain rfl | rfl | rfl | rfl := hc <;> rfl
  rw [hexec, writeSampler_eq]
  rfl

/-- Settles O17: the two rows make one write, and a pressure check where it sets roll retention. -/
theorem schedulerControlWriteStores : Obligations.SchedulerControlWriteStores := by
  intro c d s hc
  have hexec : exec c s = .next (s.writeScheduler d) := by
    simp only [List.mem_cons, List.not_mem_nil, or_false] at hc
    obtain rfl | rfl := hc <;> rfl
  rw [hexec, writeScheduler_eq]
  exact ⟨_, rfl, rfl⟩

end Sys2Proof.Proofs
end

section
/-! The words that are read and written, COMMAND's codes, the summary byte, and the SPI frames (O15; R168 to R173, 11.2). -/

namespace Sys2Proof.Machine

/-! ## The commands that COMMAND's codes name (R172) -/

/-- A code of COMMAND, as the low eight bits give it. -/
theorem command_code (d : Word) : field d 0 8 = (d.extractLsb' 0 8).toNat := field_eq_extractLsb' d 0 8

/-- COMMAND's codes 1 to 12, each with its command. -/
def commandTable : List (Nat × Instr) :=
  [(1, .configEnter), (2, .configExit), (3, .mark), (4, .discard), (5, .commit), (6, .rollback), (7, .quiesce),
    (8, .resume), (9, .degrade), (10, .recover), (11, .clearCounts), (12, .faultPop)]

theorem commandOf_of_mem {d : Word} {k : Nat} {c : Instr} (h : (k, c) ∈ commandTable)
    (hd : (d.extractLsb' 0 8).toNat = k) : commandOf d = c := by
  unfold commandOf
  rw [command_code, hd]
  revert h
  simp only [commandTable, List.mem_cons, List.not_mem_nil, or_false, Prod.mk.injEq]
  rintro (⟨rfl, rfl⟩ | ⟨rfl, rfl⟩ | ⟨rfl, rfl⟩ | ⟨rfl, rfl⟩ | ⟨rfl, rfl⟩ | ⟨rfl, rfl⟩ | ⟨rfl, rfl⟩ | ⟨rfl, rfl⟩ |
    ⟨rfl, rfl⟩ | ⟨rfl, rfl⟩ | ⟨rfl, rfl⟩ | ⟨rfl, rfl⟩) <;> rfl

theorem commandOf_badOpcode {d : Word} (h : (d.extractLsb' 0 8).toNat = 0 ∨ 13 ≤ (d.extractLsb' 0 8).toNat) :
    commandOf d = .badOpcode (d.extractLsb' 0 8) := by
  unfold commandOf
  rw [← ofNat_field, command_code]
  dsimp only
  rw [if_neg (by omega), if_neg (by omega), if_neg (by omega), if_neg (by omega), if_neg (by omega), if_neg (by omega),
    if_neg (by omega), if_neg (by omega), if_neg (by omega), if_neg (by omega), if_neg (by omega), if_neg (by omega)]

/-- The code of a word is in the table or names no command. -/
theorem code_cases (d : Word) : (∃ k c, (k, c) ∈ commandTable ∧ (d.extractLsb' 0 8).toNat = k) ∨
    ((d.extractLsb' 0 8).toNat = 0 ∨ 13 ≤ (d.extractLsb' 0 8).toNat) := by
  generalize (d.extractLsb' 0 8).toNat = n
  by_cases h : 1 ≤ n ∧ n ≤ 12
  · obtain ⟨h1, h12⟩ := h
    refine .inl ?_
    interval_cases n <;> exact ⟨_, _, by simp [commandTable]; rfl, rfl⟩
  · exact .inr (by omega)

namespace State

variable (s : State)

/-- A write of COMMAND is the command that its code names, whichever row carries it (log 16). -/
theorem exec_commandOf (d : Word) : exec (commandOf d) s = .next (s.writeCommandWord d) := by
  unfold State.writeCommandWord
  obtain ⟨k, c, hk, hd⟩ | hd := code_cases d
  · rw [commandOf_of_mem hk hd]
    revert hk
    simp only [commandTable, List.mem_cons, List.not_mem_nil, or_false, Prod.mk.injEq]
    rintro (⟨rfl, rfl⟩ | ⟨rfl, rfl⟩ | ⟨rfl, rfl⟩ | ⟨rfl, rfl⟩ | ⟨rfl, rfl⟩ | ⟨rfl, rfl⟩ | ⟨rfl, rfl⟩ | ⟨rfl, rfl⟩ |
      ⟨rfl, rfl⟩ | ⟨rfl, rfl⟩ | ⟨rfl, rfl⟩ | ⟨rfl, rfl⟩) <;> rfl
  · rw [commandOf_badOpcode hd]
    rfl

/-- The command that a write frame delivers is the register write it spells (R171). -/
theorem exec_writeCommand (i : Byte) (d : Word) : exec (writeCommand i d) s = exec (.registerWrite i d) s := by
  unfold writeCommand
  split_ifs with h31 h2C h2D h30
  · subst h31
    exact s.exec_commandOf d
  · subst h2C
    rfl
  · subst h2D
    rfl
  · subst h30
    rfl
  · rfl

/-! ## The summary byte (11.2) -/

/-- The summary byte's fields, packed without gaps. -/
theorem summaryByte_field {e : Nat × Nat × Nat} (he : e ∈ placed 0 [(1, 0), (1, bitNat s.transactionsPending),
    (1, bitNat (s.sweep.kind != .none)), (1, bitNat s.alert), (2, s.port.intake.code), (2, s.ctl.state.code)]) :
    field (s.summaryByte.setWidth 32) e.1 e.2.1 = e.2.2 % 2 ^ e.2.1 := by
  rw [← (packNat_field he).2, field, Nat.sub_zero]
  congr 2
  rw [BitVec.toNat_setWidth, State.summaryByte, BitVec.toNat_ofNat]
  refine (Nat.mod_eq_of_lt ?_).trans (Nat.mod_eq_of_lt (packNat_lt _))
  exact (Nat.mod_lt _ (by decide)).trans (by decide)

/-! ## SPI write frames (R168, R171) -/

/-- The frame in progress has received these bytes (R168). -/
structure Receiving (s : State) (l : List Byte) : Prop where
  selected : s.spi.selected = true
  bytes : s.spi.bytes = l

variable {s}

theorem receiving_select (s : State) : Receiving s.spiSelect [] := ⟨rfl, rfl⟩

/-- A byte of a write frame that is not its last is only received. -/
theorem spiByte_collect {l : List Byte} (h : Receiving s l) {b : Byte} (hwrite : (l ++ [b]).head? = some 0xC2#8)
    (hlen : l.length < 5) : Receiving (s.spiByte b) (l ++ [b]) ∧ (s.spiByte b).pending = s.pending := by
  unfold State.spiByte
  rw [if_neg (by rw [h.selected, h.bytes]; simp; omega)]
  dsimp only
  rw [h.bytes]
  split
  next heq => rw [heq] at hwrite; exact absurd hwrite (by simp)
  next heq =>
    have := congrArg List.length heq
    simp only [List.length_append, List.length_cons, List.length_nil] at this
    omega
  next => exact ⟨⟨h.selected, rfl⟩, rfl⟩

/-- The last data byte of a write frame puts the command that the frame spells behind those that wait. -/
theorem spiByte_write {i a b c : Byte} (h : Receiving s [0xC2#8, i, a, b, c]) (e : Byte) :
    (s.spiByte e).pending = s.pending ++ [writeCommand i (a ++ b ++ c ++ e)] := by
  unfold State.spiByte
  rw [if_neg (by rw [h.selected, h.bytes]; simp)]
  dsimp only
  rw [h.bytes]
  rfl

/-- A complete write frame. -/
theorem spi_writeFrame (s : State) (i a b c e : Byte) :
    ((((((s.spiSelect.spiByte 0xC2#8).spiByte i).spiByte a).spiByte b).spiByte c).spiByte e).pending =
      s.pending ++ [writeCommand i (a ++ b ++ c ++ e)] := by
  obtain ⟨r1, p1⟩ := spiByte_collect (receiving_select s) (b := 0xC2#8) rfl (by simp)
  obtain ⟨r2, p2⟩ := spiByte_collect r1 (b := i) rfl (by simp)
  obtain ⟨r3, p3⟩ := spiByte_collect r2 (b := a) rfl (by simp)
  obtain ⟨r4, p4⟩ := spiByte_collect r3 (b := b) rfl (by simp)
  obtain ⟨r5, p5⟩ := spiByte_collect r4 (b := c) rfl (by simp)
  rw [spiByte_write r5, p5, p4, p3, p2, p1]
  rfl

end State

end Sys2Proof.Machine

namespace Sys2Proof.Proofs

open Sys2Proof.Machine Sys2Proof.Machine.State

/-- The indices that read 0 whatever the state: COMMAND, first-error clear, and those that name no register (R170). -/
theorem readWord_zero {i : Byte}
    (hi : i ∈ [0x0F#8, 0x29#8, 0x2A#8, 0x2B#8, 0x30#8, 0x31#8, 0x96#8, 0x97#8, 0x9B#8] ∨
      (0x13 ≤ i.toNat ∧ i.toNat < 0x18) ∨ (0x38 ≤ i.toNat ∧ i.toNat < 0x40) ∨ 0x9F ≤ i.toNat) (s : State) :
    s.readWord i = 0#32 := by
  obtain hi | hi | hi | hi := hi
  · simp only [List.mem_cons, List.not_mem_nil, or_false] at hi
    obtain rfl | rfl | rfl | rfl | rfl | rfl | rfl | rfl | rfl := hi <;> rfl
  · obtain ⟨hlo, hhi⟩ := hi
    unfold State.readWord State.readMarks
    generalize i.toNat = n at hlo hhi
    interval_cases n <;> rfl
  · obtain ⟨hlo, hhi⟩ := hi
    unfold State.readWord State.readMgmt
    generalize i.toNat = n at hlo hhi
    interval_cases n <;> rfl
  · unfold State.readWord
    dsimp only
    rw [if_neg (by omega), if_neg (by omega), if_neg (by omega), if_neg (by omega), if_neg (by omega), if_neg (by omega),
      if_neg (by omega), if_neg (by omega)]

/-- A window's two words (R1). -/
theorem readWord_window {w : Nat} (hw : w < 8) (s : State) :
    reads s (BitVec.ofNat 8 (0x80 + 2 * w)) 32
      [(0, 28, (s.window w).base.toNat),
        (28, 2, match (s.window w).mode with | .pass => 0 | .guard => 1 | .census => 2 | .fence => 3), (30, 1, 0),
        (31, 1, (s.window w).enable.toNat)] ∧
    reads s (BitVec.ofNat 8 (0x81 + 2 * w)) 32
      [(0, 16, (s.window w).count.toNat), (16, 16, (s.window w).firstIndex.toNat)] := by
  have hbase : s.readWord (BitVec.ofNat 8 (0x80 + 2 * w)) = pack
      [(28, (s.window w).base.toNat), (2, (s.window w).mode.code), (1, 0), (1, bitNat (s.window w).enable)] := by
    interval_cases w <;> rfl
  have hcount : s.readWord (BitVec.ofNat 8 (0x81 + 2 * w)) = pack
      [(16, (s.window w).count.toNat), (16, (s.window w).firstIndex.toNat)] := by
    interval_cases w <;> rfl
  refine ⟨reads_of_pack hbase rfl (by decide) ?_, reads_of_pack hcount rfl (by decide) (List.Subset.refl _)⟩
  rw [bitNat_eq]
  exact List.Subset.refl _

/-- The six fields of the summary byte (11.2). -/
theorem summaryByte_fields (s : State) : ∀ e, e ∈ [(0, 1, 0),
      (1, 1, if howMany 128 (fun n => (s.entry n).state != .free) = 0 then 0 else 1),
      (2, 1, if s.sweep.kind = .none then 0 else 1), (3, 1, s.alert.toNat),
      (4, 2, match s.port.intake with | .opened => 0 | .closing => 1 | .closed => 2),
      (6, 2, match s.ctl.state with | .config => 0 | .guarding => 1 | .degraded => 2 | .recovering => 3)] →
    field (s.summaryByte.setWidth 32) e.1 e.2.1 = e.2.2 := by
  have hkind : bitNat (s.sweep.kind != .none) = if s.sweep.kind = .none then 0 else 1 := by
    cases s.sweep.kind <;> rfl
  have hfield := fun e => s.summaryByte_field (e := e)
  rw [transactionsPending_eq, hkind, bitNat_eq] at hfield
  intro e he
  refine (hfield e he).trans (Nat.mod_eq_of_lt ?_)
  simp only [List.mem_cons, List.not_mem_nil, or_false] at he
  obtain rfl | rfl | rfl | rfl | rfl | rfl := he
  · decide
  · dsimp only
    split <;> decide
  · dsimp only
    split <;> decide
  · exact Bool.toNat_lt _
  · cases s.port.intake <;> decide
  · cases s.ctl.state <;> decide

/-- Settles O15: each word's packed fields, and each write by its row. -/
theorem readWriteWordsAreWritten : Obligations.ReadWriteWordsAreWritten := by
  intro d s
  refine ⟨⟨rfl, rfl, ?_⟩, fun w hw => readWord_window hw s, ⟨?_, ?_, ?_, ?_, ?_, ?_⟩, ?_, ?_, fun i hi => readWord_zero hi s,
    summaryByte_fields s, rfl, rfl, rfl, rfl, rfl, rfl, rfl, (s.exec_commandOf d).symm, fun k c => commandOf_of_mem,
    commandOf_badOpcode, fun k => rfl, s.spi_writeFrame, fun i => ⟨s.exec_writeCommand i d, rfl, rfl⟩⟩
  · refine reads_of_pack rfl rfl (by decide) ?_
    simp only [bitNat_eq]
    exact List.Subset.refl _
  · exact reads_of_pack rfl rfl (by decide) (List.Subset.refl _)
  · exact reads_of_pack rfl rfl (by decide) (List.Subset.refl _)
  · exact reads_of_pack rfl rfl (by decide) (List.Subset.refl _)
  · exact reads_of_pack rfl rfl (by decide) (List.Subset.refl _)
  · exact reads_of_pack rfl rfl (by decide) (List.Subset.refl _)
  · exact reads_of_pack rfl rfl (by decide) (List.Subset.refl _)
  · refine reads_of_pack rfl rfl (by decide) ?_
    rw [bitNat_eq]
    exact List.Subset.refl _
  · refine reads_of_pack rfl rfl (by decide) ?_
    simp only [bitNat_eq]
    exact List.Subset.refl _

end Sys2Proof.Proofs
end

section
/-! The mark table (02): what the greatest and the least sequence of a list of slots are, the mark claim test by test, and
the statements that rest on them: stamps and resolution (O33), the pressure check (O18), the tick (O19), the auto-mark step
(O20), MARK, DISCARD and ROLLBACK (O23 to O25). -/

namespace Sys2Proof.Machine

theorem mem_slotIds {i : Nat} : i ∈ slotIds ↔ i < 5 := by
  simp only [slotIds, List.mem_cons, List.not_mem_nil, or_false]
  omega

namespace State

variable {s : State}

theorem mem_liveSlots_iff {q : Nat} : q ∈ s.liveSlots ↔ q < 5 ∧ (s.slot q).state = .live := by
  rw [mem_liveSlots, mem_slotIds]

/-! ## The latest and the earliest of a list of slots -/

theorem latest_eq_none {l : List Nat} : s.latest l = none ↔ l = [] := by
  cases l with
  | nil => simp [State.latest]
  | cons i t =>
    unfold State.latest
    split
    · simp
    · split <;> simp

/-- The latest is a slot of the list whose sequence none of the list is above. -/
theorem latest_spec {l : List Nat} {q : Nat} (h : s.latest l = some q) :
    q ∈ l ∧ ∀ j, j ∈ l → (s.slot j).seq ≤ (s.slot q).seq := by
  induction l generalizing q with
  | nil => cases h
  | cons i t ih =>
    unfold State.latest at h
    split at h
    next hnone =>
      cases h
      rw [latest_eq_none.1 hnone]
      exact ⟨List.mem_cons_self, fun j hj => by rw [List.mem_singleton.1 hj]; exact BitVec.le_refl _⟩
    next k hk =>
      obtain ⟨hmem, hmax⟩ := ih hk
      split at h
      next hlt =>
        cases h
        refine ⟨List.mem_cons_self, fun j hj => ?_⟩
        obtain rfl | hj := List.mem_cons.1 hj
        · exact BitVec.le_refl _
        · exact BitVec.le_trans (hmax j hj) (BitVec.le_of_lt hlt)
      next hge =>
        cases h
        refine ⟨List.mem_cons_of_mem _ hmem, fun j hj => ?_⟩
        obtain rfl | hj := List.mem_cons.1 hj
        · exact BitVec.not_lt.1 hge
        · exact hmax j hj

theorem earliest_eq_none {l : List Nat} : s.earliest l = none ↔ l = [] := by
  cases l with
  | nil => simp [State.earliest]
  | cons i t =>
    unfold State.earliest
    split
    · simp
    · split <;> simp

/-- The earliest is a slot of the list whose sequence none of the list is below. -/
theorem earliest_spec {l : List Nat} {q : Nat} (h : s.earliest l = some q) :
    q ∈ l ∧ ∀ j, j ∈ l → (s.slot q).seq ≤ (s.slot j).seq := by
  induction l generalizing q with
  | nil => cases h
  | cons i t ih =>
    unfold State.earliest at h
    split at h
    next hnone =>
      cases h
      rw [earliest_eq_none.1 hnone]
      exact ⟨List.mem_cons_self, fun j hj => by rw [List.mem_singleton.1 hj]; exact BitVec.le_refl _⟩
    next k hk =>
      obtain ⟨hmem, hmin⟩ := ih hk
      split at h
      next hlt =>
        cases h
        refine ⟨List.mem_cons_self, fun j hj => ?_⟩
        obtain rfl | hj := List.mem_cons.1 hj
        · exact BitVec.le_refl _
        · exact BitVec.le_trans (BitVec.le_of_lt hlt) (hmin j hj)
      next hge =>
        cases h
        refine ⟨List.mem_cons_of_mem _ hmem, fun j hj => ?_⟩
        obtain rfl | hj := List.mem_cons.1 hj
        · exact BitVec.not_lt.1 hge
        · exact hmin j hj

/-! ## The newest and the oldest LIVE mark (R19) -/

/-- With a LIVE slot there is an oldest LIVE mark. -/
theorem oldestLive_exists (h : 0 < s.liveCount) : ∃ q, s.oldestLive = some q := by
  cases hq : s.oldestLive with
  | some q => exact ⟨q, rfl⟩
  | none =>
    rw [State.liveCount, earliest_eq_none.1 hq] at h
    exact absurd h (lt_irrefl _)

/-- A LIVE slot with a sequence below every other LIVE one's is the oldest LIVE mark. -/
theorem oldestLive_eq {q : Nat} (hq : q < 5) (hlive : (s.slot q).state = .live)
    (hmin : ∀ j, j < 5 → j ≠ q → (s.slot j).state = .live → (s.slot q).seq < (s.slot j).seq) :
    s.oldestLive = some q := by
  have hmem : q ∈ s.liveSlots := mem_liveSlots_iff.2 ⟨hq, hlive⟩
  obtain ⟨k, hk⟩ := oldestLive_exists (List.length_pos_of_mem hmem)
  obtain ⟨hkmem, hkmin⟩ := earliest_spec hk
  obtain ⟨hk5, hklive⟩ := mem_liveSlots_iff.1 hkmem
  by_cases hkq : k = q
  · rw [hk, hkq]
  · exact absurd (hmin k hk5 hkq hklive) (BitVec.not_lt.2 (hkmin q hmem))

/-! ## FREE slots (R19, R32) -/

/-- The lowest-numbered FREE slot. -/
theorem freeSlot_eq {i : Nat} (hi : i < 5) (hfree : (s.slot i).state = .free)
    (hlow : ∀ j, j < i → (s.slot j).state ≠ .free) : s.freeSlot = some i := by
  have hslots : slotIds = List.range 5 := rfl
  rw [State.freeSlot, hslots, List.find?_range_eq_some]
  refine ⟨by rw [hfree]; rfl, List.mem_range.2 hi, fun j hj => ?_⟩
  simpa using hlow j hj

/-- At 4 LIVE marks a FREE slot is the only slot that is not LIVE. -/
theorem live_of_ne_free {i j : Nat} (hcount : s.liveCount = 4) (hi : i < 5) (hfree : (s.slot i).state = .free)
    (hj : j < 5) (hji : j ≠ i) : (s.slot j).state = .live := by
  by_contra hlive
  have hsub : s.liveSlots ⊆ (slotIds.erase i).erase j := by
    intro k hk
    obtain ⟨hk5, hklive⟩ := mem_liveSlots_iff.1 hk
    have hki : k ≠ i := fun h => by rw [h, hfree] at hklive; cases hklive
    have hkj : k ≠ j := fun h => hlive (h ▸ hklive)
    exact (List.mem_erase_of_ne hkj).2 ((List.mem_erase_of_ne hki).2 (mem_slotIds.2 hk5))
  have hlen := (s.nodup_liveSlots.subperm hsub).length_le
  have hlen3 : ((slotIds.erase i).erase j).length = 3 := by
    rw [List.length_erase_of_mem ((List.mem_erase_of_ne hji).2 (mem_slotIds.2 hj)),
      List.length_erase_of_mem (mem_slotIds.2 hi)]
    rfl
  rw [State.liveCount] at hcount
  omega

/-- At 4 LIVE marks the FREE slot is the lowest-numbered one. -/
theorem freeSlot_full {i : Nat} (hcount : s.liveCount = 4) (hi : i < 5) (hfree : (s.slot i).state = .free) :
    s.freeSlot = some i :=
  freeSlot_eq hi hfree fun j hj h => by
    rw [live_of_ne_free hcount hi hfree (by omega) (by omega)] at h
    cases h

/-! ## The mark claim, test by test (R31, R33, R34) -/

theorem not_commit_or_rollback (hk : s.sweep.kind = .none ∨ s.sweep.kind = .discard) :
    ¬(s.sweep.kind = .commit ∨ s.sweep.kind = .rollback) := by
  obtain hk | hk := hk <;> rw [hk] <;> decide

section
variable (o : Origin) (roll : Bool) (c : Cause)

theorem markClaim_badState (h : s.ctl.state ≠ .guarding) : s.markClaim o roll c = (.badState, s) := if_pos h

variable (hg : s.ctl.state = .guarding)
include hg

theorem markClaim_busy (h : s.sweep.kind = .commit ∨ s.sweep.kind = .rollback) : s.markClaim o roll c = (.busy, s) := by
  unfold State.markClaim
  rw [if_neg (not_not.2 hg), if_pos h]

variable (hk : s.sweep.kind = .none ∨ s.sweep.kind = .discard)
include hk

theorem markClaim_seqLimit (h : s.nextSeq = 0#32) : s.markClaim o roll c = (.seqLimit, s) := by
  unfold State.markClaim
  rw [if_neg (not_not.2 hg), if_neg (not_commit_or_rollback hk), if_pos h]

variable (hs : s.nextSeq ≠ 0#32)
include hs

theorem markClaim_push {i : Nat} (hlive : s.liveCount < Config.liveMarks) (hi : s.freeSlot = some i) :
    s.markClaim o roll c = (.done, s.pushAt i o) := by
  unfold State.markClaim
  rw [if_neg (not_not.2 hg), if_neg (not_commit_or_rollback hk), if_neg hs, if_pos hlive, hi]

variable (hlive : Config.liveMarks ≤ s.liveCount)
include hlive

theorem markClaim_stackFull : s.markClaim o false c = (.stackFull, s) := by
  unfold State.markClaim
  rw [if_neg (not_not.2 hg), if_neg (not_commit_or_rollback hk), if_neg hs, if_neg (Nat.not_lt.2 hlive), if_pos rfl]

theorem markClaim_sweeping (hkind : s.sweep.kind = .discard) : s.markClaim o true c = (.busy, s) := by
  unfold State.markClaim
  rw [if_neg (not_not.2 hg), if_neg (not_commit_or_rollback hk), if_neg hs, if_neg (Nat.not_lt.2 hlive),
    if_neg (by decide), if_pos (by rw [hkind]; decide)]

theorem markClaim_roll {q i : Nat} (hkind : s.sweep.kind = .none) (hq : s.oldestLive = some q) (hi : s.freeSlot = some i) :
    s.markClaim o true c = (.done, (s.startDiscard q none c).pushAt i o) := by
  unfold State.markClaim
  rw [if_neg (not_not.2 hg), if_neg (not_commit_or_rollback hk), if_neg hs, if_neg (Nat.not_lt.2 hlive),
    if_neg (by decide), if_neg (not_not.2 hkind), hq, hi]

end

end State

end Sys2Proof.Machine
end

section
/-! The statements about marks: stamps and resolution (O33), the pressure check (O18), the tick (O19), the auto-mark step
(O20), MARK, DISCARD and ROLLBACK (O23 to O25). -/

namespace Sys2Proof.Machine.State

variable {s : State}

/-! ## The pressure check (R165, R166) -/

/-- The four conditions of a pressure retire (R165). -/
def RetireDue (s : State) : Prop :=
  s.sched.roll = true ∧ s.pressed = true ∧ 2 ≤ s.liveCount ∧ s.sweep.kind = .none

theorem pressed_iff : s.pressed = true ↔
    s.pool.free.length < s.pool.lowWater.toNat ∨ (s.pool.wait ≠ [] ∧ s.pool.free = []) := by
  simp [State.pressed]

theorem pressureCheck_of_not_due (h : ¬s.RetireDue) : s.pressureCheck = s := if_neg h

/-- Where a pressure retire is due the oldest LIVE mark is discarded without a predecessor. -/
theorem pressureCheck_of_due (h : s.RetireDue) : ∃ q, s.oldestLive = some q ∧
    s.pressureCheck = (s.startDiscard q none .pressure).raise .pressureRetire := by
  obtain ⟨q, hq⟩ := oldestLive_exists (Nat.lt_of_lt_of_le (by decide) h.2.2.1)
  refine ⟨q, hq, (if_pos h).trans ?_⟩
  rw [hq]

/-- A pressure check does nothing exactly where no pressure retire is due. -/
theorem pressureCheck_eq_self_iff : s.pressureCheck = s ↔ ¬s.RetireDue := by
  refine ⟨fun h hdue => ?_, pressureCheck_of_not_due⟩
  obtain ⟨q, -, hq⟩ := pressureCheck_of_due hdue
  have hkind : s.sweep.kind = .discard := by
    rw [← h, hq]
    rfl
  exact absurd (hkind.symm.trans hdue.2.2.2) (by decide)

/-- A mark rolled in: the oldest slot's discard starts, and slot `i` takes the mark (R34). -/
theorem pushAt_startDiscard {q i : Nat} {p : Option Nat} {c : Cause} {o : Origin} : (s.startDiscard q p c).pushAt i o =
    { s with
      slots := (s.slots.set .freed q { s.slot q with state := .retiring }).set .freed i
        ⟨.live, s.nextSeq, o, false, 0, none, none⟩
      nextSeq := s.nextSeq + 1#32
      sweep := { s.sweep with
        kind := .discard, cause := some c, phase := .walk, retiring := some q, predecessor := p,
        order := [(q, (s.slot q).head)], cursor := (s.slot q).head, walkSlot := some q, walked := [],
        waitingOn := none } } := rfl

theorem liveCount_congr {t : State} (h : t.slots = s.slots) : t.liveCount = s.liveCount := by
  unfold State.liveCount State.liveSlots State.slot
  rw [h]

/-- Whether a pressure retire is due reads the scheduler, the pool, the slots and the sweep alone. -/
theorem retireDue_congr {t : State} (hsched : t.sched = s.sched) (hpool : t.pool = s.pool) (hslots : t.slots = s.slots)
    (hsweep : t.sweep = s.sweep) : t.RetireDue ↔ s.RetireDue := by
  have hpressed : t.pressed = s.pressed := by
    unfold State.pressed
    rw [hpool]
  unfold State.RetireDue
  rw [hsched, hpressed, liveCount_congr hslots, hsweep]

/-- A pressure check changes slots, sweep and flags alone. -/
theorem pressureCheck_frame (s : State) :
    ∃ slots sweep mgmt, s.pressureCheck = { s with slots := slots, sweep := sweep, mgmt := mgmt } := by
  by_cases h : s.RetireDue
  · obtain ⟨q, -, hq⟩ := pressureCheck_of_due h
    exact ⟨_, _, _, hq⟩
  · exact ⟨_, _, _, pressureCheck_of_not_due h⟩

/-! ## The auto-mark step (R163, R164) -/

/-- The scheduler where a mark has fallen due: the period counter at 0 (R163). -/
def fallenDue (s : State) : State := s.setSched { s.sched with periodCounter := 0#8 }

/-- A missed mark leaves its outcome, the counters and the flag. -/
theorem autoMark_missed {r : Result} (h : s.markClaim .auto s.sched.roll .autoRoll = (r, s)) (hr : r ≠ .done) :
    s.autoMark = (s.setSched { s.sched with
      outcome := r.toOutcome, periodCounter := s.sched.period, deferrals := 0#4 }).raise .autoMarkMissed := by
  unfold State.autoMark
  rw [h]
  split
  next heq =>
    cases heq
    exact absurd rfl hr
  next heq =>
    cases heq
    rfl

/-- A taken mark leaves the table as the claim does, its sequence, the counters and the flag. -/
theorem autoMark_taken {t : State} (h : s.markClaim .auto s.sched.roll .autoRoll = (.done, t)) (ht : t.sched = s.sched) :
    s.autoMark = (t.setSched { s.sched with
      lastSeq := s.nextSeq, outcome := .taken, periodCounter := s.sched.period, deferrals := 0#4 }).raise .autoMark := by
  unfold State.autoMark
  rw [h]
  unfold State.autoEnd
  simp only [setSched_sched]
  rw [ht]
  rfl

theorem autoMark_frame (s : State) : ∃ slots nextSeq sweep sched mgmt, s.autoMark =
    { s with slots := slots, nextSeq := nextSeq, sweep := sweep, sched := sched, mgmt := mgmt } := by
  obtain ⟨hr, ht⟩ | ⟨i, h⟩ | ⟨q, i, h⟩ := s.markClaim_cases .auto s.sched.roll .autoRoll
  · exact ⟨_, _, _, _, _, autoMark_missed (Prod.ext rfl ht) hr⟩
  · rw [autoMark_taken h rfl]
    exact ⟨_, _, _, _, _, rfl⟩
  · rw [pushAt_startDiscard] at h
    rw [autoMark_taken h rfl]
    exact ⟨_, _, _, _, _, rfl⟩

/-- The auto-mark step changes slots, next sequence, sweep, scheduler and flags alone. -/
theorem autoStep_frame (s : State) : ∃ slots nextSeq sweep sched mgmt, s.autoStep =
    { s with slots := slots, nextSeq := nextSeq, sweep := sweep, sched := sched, mgmt := mgmt } := by
  unfold State.autoStep
  split
  · exact ⟨_, _, _, _, _, rfl⟩
  · dsimp only
    generalize (if s.sched.periodCounter = 0#8 then 0#8 else s.sched.periodCounter - 1#8) = n
    split
    · exact ⟨_, _, _, _, _, rfl⟩
    · split
      · exact ⟨_, _, _, _, _, rfl⟩
      · obtain ⟨_, _, _, _, _, h⟩ := autoMark_frame (s.setSched { s.sched with periodCounter := n })
        exact ⟨_, _, _, _, _, h⟩

theorem autoStep_disabled (h : s.sched.enable = false) : s.autoStep = s := if_pos h

section
variable (he : s.sched.enable = true)
include he

/-- Before a mark is due the period counter falls by one. -/
theorem autoStep_counting (h : 1 < s.sched.periodCounter.toNat) :
    s.autoStep = s.setSched { s.sched with periodCounter := s.sched.periodCounter - 1#8 } := by
  have hne : s.sched.periodCounter ≠ 0#8 := fun h0 => by rw [h0] at h; exact absurd h (by decide)
  have hne1 : s.sched.periodCounter - 1#8 ≠ 0#8 := by bv_omega
  unfold State.autoStep
  rw [if_neg (by rw [he]; decide)]
  dsimp only
  rw [if_neg hne]
  exact if_pos hne1

variable (h : s.sched.periodCounter.toNat ≤ 1)
include h

/-- At 1 or 0 the counter is 0 after the step, and the mark is due: deferred, or claimed. -/
theorem autoStep_due : s.autoStep =
    if s.defers = true then s.fallenDue.setSched { s.fallenDue.sched with deferrals := s.sched.deferrals + 1#4 }
    else s.fallenDue.autoMark := by
  have hzero : (if s.sched.periodCounter = 0#8 then 0#8 else s.sched.periodCounter - 1#8) = 0#8 := by
    split
    · rfl
    · bv_omega
  unfold State.autoStep
  rw [if_neg (by rw [he]; decide)]
  dsimp only
  rw [hzero]
  exact if_neg (not_not.2 rfl)

end

theorem defers_iff : s.defers = true ↔
    s.sched.quiet.toNat < s.guardedTotal ∧ s.sched.deferrals.toNat < s.sched.maxDeferrals.toNat := by
  simp [State.defers]

/-! ## The tick (R155, R159, R160) -/

/-- The state as the interval end latches it (R160). -/
def latched (s : State) : State := (s.setSampler { s.sampler with count := s.sampler.reload, tick := false }).latch

theorem intervalEnd_eq (s : State) : s.intervalEnd = s.latched.autoStep.pressureCheck := rfl

/-- Every last-interval set takes its running set, which becomes 0. -/
theorem latched_act (h : s.activity.canonical .zero = true) (w : Nat) : s.latched.act w = ⟨.zero, (s.act w).running⟩ :=
  Table.get_mapCells (fun _ => rfl) h w

theorem takeTick_due (hr : s.sampler.running = true) (ht : s.sampler.tick = true) : s.takeTick =
    if s.sampler.count = 1#16 then s.intervalEnd
    else s.setSampler { s.sampler with count := s.sampler.count - 1#16, tick := false } := by
  unfold State.takeTick
  rw [if_neg (by rw [State.tickDue, hr, ht]; decide)]

/-! ## MARK (R31, R172) -/

/-- A MARK whose claim is refused leaves the command unit's part alone. -/
theorem exec_mark_refused {r : Result} (h : s.markClaim .command s.mgmt.argRoll .markRoll = (r, s)) (hr : r ≠ .done) :
    exec .mark s = .next (s.setMgmt (answered s.mgmt 3#8 r)) := by
  have hcommand : s.markCommand = (.plain r, s) := by
    unfold State.markCommand
    rw [h]
    split
    next heq =>
      cases heq
      exact absurd rfl hr
    next heq =>
      cases heq
      rfl
  show Host.Outcome.next (s.markCommand.2.answer 3#8 s.markCommand.1) = _
  rw [hcommand, answer_plain]

/-- A MARK whose claim is taken gives its sequence to COMMAND_ARG. -/
theorem exec_mark_done {t : State} (h : s.markClaim .command s.mgmt.argRoll .markRoll = (.done, t)) :
    exec .mark s = .next (t.setMgmt { answered t.mgmt 3#8 .done with argSeq := s.nextSeq }) := by
  have hcommand : s.markCommand = (.plain .done, t.setMgmt { t.mgmt with argSeq := s.nextSeq }) := by
    unfold State.markCommand
    rw [h]
  show Host.Outcome.next (s.markCommand.2.answer 3#8 s.markCommand.1) = _
  rw [hcommand, answer_plain]
  rfl

/-! ## The marks that a command names (R35, R36) -/

theorem liveWith_none {a : Seq} (h : ∀ q, q < 5 → (s.slot q).state = .live → (s.slot q).seq ≠ a) : s.liveWith a = none := by
  rw [State.liveWith, List.find?_eq_none]
  intro q hq
  obtain ⟨hq5, hlive⟩ := mem_liveSlots_iff.1 hq
  simpa using h q hq5 hlive

theorem liveWith_eq {a : Seq} {q : Nat} (hq : q < 5) (hlive : (s.slot q).state = .live) (hseq : (s.slot q).seq = a)
    (hone : ∀ j, j < 5 → (s.slot j).state = .live → (s.slot j).seq = a → j = q) : s.liveWith a = some q := by
  cases h : s.liveWith a with
  | none =>
    rw [State.liveWith, List.find?_eq_none] at h
    exact absurd (beq_iff_eq.2 hseq) (h q (mem_liveSlots_iff.2 ⟨hq, hlive⟩))
  | some j =>
    obtain ⟨hj5, hjlive⟩ := mem_liveSlots_iff.1 (List.mem_of_find?_eq_some h)
    rw [hone j hj5 hjlive (beq_iff_eq.1 (List.find?_some (p := fun i => (s.slot i).seq == a) h))]

theorem mem_olderLive {q j : Nat} : j ∈ s.liveSlots.filter (fun i => decide ((s.slot i).seq < (s.slot q).seq)) ↔
    (j < 5 ∧ (s.slot j).state = .live) ∧ (s.slot j).seq < (s.slot q).seq := by
  rw [List.mem_filter, mem_liveSlots_iff, decide_eq_true_eq]

/-- With no LIVE mark older than slot `q`'s, no LIVE sequence is below it. -/
theorem olderLive_none {q : Nat} (h : s.olderLive q = none) {j : Nat} (hj : j < 5) (hlive : (s.slot j).state = .live) :
    ¬(s.slot j).seq < (s.slot q).seq := by
  intro hlt
  have hmem := mem_olderLive.2 ⟨⟨hj, hlive⟩, hlt⟩
  rw [latest_eq_none.1 h] at hmem
  cases hmem

/-- The newest LIVE mark older than slot `q`'s. -/
theorem olderLive_some {q k : Nat} (h : s.olderLive q = some k) : k < 5 ∧ (s.slot k).state = .live ∧
    (s.slot k).seq < (s.slot q).seq ∧
    ∀ j, j < 5 → (s.slot j).state = .live → (s.slot j).seq < (s.slot q).seq → (s.slot j).seq ≤ (s.slot k).seq := by
  obtain ⟨hmem, hmax⟩ := latest_spec h
  obtain ⟨⟨hk5, hlive⟩, hlt⟩ := mem_olderLive.1 hmem
  exact ⟨hk5, hlive, hlt, fun j hj hjlive hjlt => hmax j (mem_olderLive.2 ⟨⟨hj, hjlive⟩, hjlt⟩)⟩

end Sys2Proof.Machine.State

namespace Sys2Proof.Proofs

open Sys2Proof.Machine Sys2Proof.Machine.State

/-- Settles O18: the four conditions decide, and with two LIVE marks there is an oldest. -/
theorem pressureCheckRetiresTheOldest : Obligations.PressureCheckRetiresTheOldest := by
  refine fun s => ⟨fun h => pressureCheck_of_not_due fun hdue => h ?_, fun hroll hpressed hlive hkind => ?_⟩
  · obtain ⟨hroll, hpressed, hlive, hkind⟩ := hdue
    exact ⟨hroll, pressed_iff.1 hpressed, hlive, hkind⟩
  · obtain ⟨q, hq, h⟩ := pressureCheck_of_due ⟨hroll, pressed_iff.2 hpressed, hlive, hkind⟩
    obtain ⟨hmem, hmin⟩ := earliest_spec hq
    obtain ⟨hq5, hqlive⟩ := mem_liveSlots_iff.1 hmem
    exact ⟨q, hq5, hqlive, fun j hj hjlive => hmin j (mem_liveSlots_iff.2 ⟨hj, hjlive⟩), h⟩

/-- Settles O19: a tick by the count, and the interval end by what its stages leave alone. -/
theorem ticksCountAndLatch : Obligations.TicksCountAndLatch := by
  intro s c hc
  rw [exec_tick hc]
  refine ⟨fun h => congrArg _ (takeTick_none ?_), fun hrun htick => ?_⟩
  · rw [State.tickDue]
    obtain h | h := h <;> rw [h]
    · rfl
    · exact Bool.and_false _
  rw [takeTick_due hrun htick]
  refine ⟨fun hcount => by rw [if_neg hcount]; rfl, fun hcount => ?_⟩
  rw [if_pos hcount, intervalEnd_eq]
  have hclosed := Laws.commandClosed_flag .sampleEnd
  have hflag : s.latched.flag .sampleEnd = true := by
    show (State.raise .sampleEnd _).flag .sampleEnd = true
    rw [raise_flag]
    exact Bool.or_true _
  obtain ⟨_, _, _, _, _, hauto⟩ := s.latched.autoStep_frame
  obtain ⟨_, _, _, hcheck⟩ := s.latched.autoStep.pressureCheck_frame
  have ht := hcheck.trans (by rw [hauto])
  refine ⟨_, rfl, ⟨s.latched, rfl, latched_act, rfl⟩, ?_, hclosed.pressureCheck (hclosed.autoStep hflag),
    fun hcanon w => ?_, ?_, fun henable hnone => ?_⟩
  · rw [ht]
    rfl
  · rw [← latched_act hcanon w, ht]
    rfl
  · rw [ht]
    rfl
  · have hlatched : s.latched.pressureCheck = s.latched :=
      pressureCheck_of_not_due fun hdue =>
        pressureCheck_eq_self_iff.1 hnone ((retireDue_congr rfl rfl rfl rfl).1 hdue)
    rw [autoStep_disabled (s := s.latched) henable, hlatched]
    rfl

end Sys2Proof.Proofs
end

section
/-! The auto-mark step (O20), MARK, DISCARD and ROLLBACK (O23 to O25), stamps and resolution (O33). -/

namespace Sys2Proof.Proofs

open Sys2Proof.Machine Sys2Proof.Machine.State

/-- The outcome of a due mark whose claim is refused (R164). -/
theorem fallenDue_missed {s : State} {r : Result}
    (h : s.fallenDue.markClaim .auto s.sched.roll .autoRoll = (r, s.fallenDue)) (hr : r ≠ .done) :
    s.fallenDue.autoMark.sched.outcome = r.toOutcome := by
  rw [autoMark_missed (s := s.fallenDue) h hr]
  rfl

/-- Taken or missed, a due mark starts the counters again; a missed one changes its outcome and the flag beside (R164). -/
theorem fallenDue_counters (s : State) : s.fallenDue.autoMark.sched.periodCounter = s.sched.period ∧
    s.fallenDue.autoMark.sched.deferrals = 0#4 ∧
    (s.fallenDue.autoMark.sched.outcome ≠ .taken → s.fallenDue.autoMark = { s with
      sched := { s.sched with
        outcome := s.fallenDue.autoMark.sched.outcome, periodCounter := s.sched.period, deferrals := 0#4 }
      mgmt := { s.mgmt with flags := s.mgmt.flags ||| BitVec.twoPow 21 5 } }) := by
  obtain ⟨hr, ht⟩ | ⟨i, h⟩ | ⟨q, i, h⟩ := s.fallenDue.markClaim_cases .auto s.sched.roll .autoRoll
  · rw [autoMark_missed (s := s.fallenDue) (Prod.ext rfl ht) hr]
    exact ⟨rfl, rfl, fun _ => rfl⟩
  · rw [autoMark_taken (s := s.fallenDue) h rfl]
    exact ⟨rfl, rfl, fun h => absurd rfl h⟩
  · rw [autoMark_taken (s := s.fallenDue) h rfl]
    exact ⟨rfl, rfl, fun h => absurd rfl h⟩

/-- Settles O20: the counter decides whether a mark is due, R163 whether it is put off, and the claim how it ends. -/
theorem autoMarkStepTakesDefersOrMisses : Obligations.AutoMarkStepTakesDefersOrMisses := by
  refine fun s => ⟨rfl, autoStep_disabled, autoStep_counting, fun he h hquiet hlimit => ?_, fun he h hclaim => ?_⟩
  · rw [autoStep_due he h, if_pos (defers_iff.2 ⟨hquiet, hlimit⟩)]
    rfl
  rw [autoStep_due he h, if_neg (fun hdefers => by have := defers_iff.1 hdefers; omega)]
  obtain ⟨hcounter, hdeferrals, hmissed⟩ := fallenDue_counters s
  refine ⟨_, rfl, hcounter, hdeferrals, fun hg => ?_, fun hg hk => ?_, fun hg hk hs => ?_, fun hg hk hs hlive hroll => ?_,
    fun hg hk hs hlive hroll => ?_, hmissed, fun i hg hk hs hlive hi hfree hlow => ?_,
    fun i q hg hk hs hlive hroll hi hq hfree hqlive hmin => ?_⟩
  · exact fallenDue_missed (markClaim_badState _ _ _ hg) (by decide)
  · exact fallenDue_missed (markClaim_busy _ _ _ hg hk) (by decide)
  · exact fallenDue_missed (markClaim_seqLimit _ _ _ hg hk hs) (by decide)
  · exact fallenDue_missed (by rw [hroll]; exact markClaim_stackFull _ _ hg hk hs hlive) (by decide)
  · exact fallenDue_missed (by rw [hroll]; exact markClaim_sweeping _ _ hg (.inr hk) hs hlive hk) (by decide)
  · have hpush := markClaim_push (s := s.fallenDue) .auto s.sched.roll .autoRoll hg hk hs hlive (freeSlot_eq hi hfree hlow)
    rw [autoMark_taken hpush rfl]
    rfl
  · have hpush := markClaim_roll (s := s.fallenDue) .auto .autoRoll hg (.inl hk) hs hlive.ge hk
      (oldestLive_eq hq hqlive hmin) (freeSlot_full hlive hi hfree)
    rw [← hroll, pushAt_startDiscard] at hpush
    rw [autoMark_taken hpush rfl]
    rfl

/-- Settles O23: MARK is its claim, test by test. -/
theorem markIsTestedInOrder : Obligations.MarkIsTestedInOrder := by
  refine fun s => ⟨fun hg => exec_mark_refused (markClaim_badState _ _ _ hg) (by decide),
    fun hg hk => exec_mark_refused (markClaim_busy _ _ _ hg hk) (by decide), fun hg hk =>
    ⟨fun hs => exec_mark_refused (markClaim_seqLimit _ _ _ hg hk hs) (by decide), fun hs hlive hroll => ?_,
      fun hs hlive hroll hkind => ?_, fun i hs hlive hi hfree hlow => ?_,
      fun i q hs hlive hroll hkind hi hq hfree hqlive hmin => ?_⟩⟩
  · exact exec_mark_refused (by rw [hroll]; exact markClaim_stackFull _ _ hg hk hs hlive.ge) (by decide)
  · exact exec_mark_refused (by rw [hroll]; exact markClaim_sweeping _ _ hg hk hs hlive.ge hkind) (by decide)
  · rw [exec_mark_done (markClaim_push _ _ _ hg hk hs hlive (freeSlot_eq hi hfree hlow))]
    rfl
  · have hpush := markClaim_roll .command .markRoll hg hk hs hlive.ge hkind (oldestLive_eq hq hqlive hmin)
      (freeSlot_full hlive hi hfree)
    rw [← hroll] at hpush
    rw [exec_mark_done hpush]
    rfl

/-- Settles O24: DISCARD's tests in order, and the predecessor as the newest older LIVE mark. -/
theorem discardIsTestedInOrder : Obligations.DiscardIsTestedInOrder := by
  intro s
  have hexec : exec .discard s = .next (s.discardCommand.2.answer 4#8 s.discardCommand.1) := rfl
  have hopen : s.ctl.state = .guarding ∨ s.ctl.state = .degraded → ¬(s.ctl.state = .config ∨ s.ctl.state = .recovering) := by
    rintro (h | h) <;> rw [h] <;> decide
  rw [hexec]
  unfold State.discardCommand
  refine ⟨fun h => ?_, fun h hk => ?_, fun h hk hnone => ?_, fun q h hk hq hlive hseq hone => ?_⟩
  · rw [if_pos h]
    rfl
  · rw [if_neg (hopen h), if_pos hk]
    rfl
  · rw [if_neg (hopen h), if_neg (not_not.2 hk), liveWith_none hnone]
    rfl
  · rw [if_neg (hopen h), if_neg (not_not.2 hk), liveWith_eq hq hlive hseq hone]
    exact ⟨s.olderLive q, rfl, fun hp j hj hjlive => BitVec.not_lt.1 (olderLive_none hp hj hjlive), fun k => olderLive_some⟩

/-- The marks that a rollback to slot `q` unwinds, and `q`'s own, with some damage (R28, R36). -/
theorem liveFrom_damaged_iff {s : State} {q : Nat} : (s.liveFrom q).any (fun i => (s.slot i).damaged) = true ↔
    ∃ j, j < 5 ∧ (s.slot j).state = .live ∧ (s.slot q).seq ≤ (s.slot j).seq ∧ (s.slot j).damaged = true := by
  simp only [List.any_eq_true, State.liveFrom, List.mem_filter, mem_liveSlots_iff, decide_eq_true_eq, and_assoc]

theorem mem_drains {s : State} {n : Nat} : n ∈ entryIds.filter (fun n => (s.entry n).state.drains) ↔
    n < 128 ∧ (s.entry n).state ∈ [EntryState.waiting, .held, .frameWait, .issued] := by
  rw [List.mem_filter, entryIds, List.mem_range]
  refine and_congr_right fun _ => ?_
  cases (s.entry n).state <;> decide

/-- Settles O25: ROLLBACK's tests in order, and the drain set by the entries' states. -/
theorem rollbackIsTestedInOrder : Obligations.RollbackIsTestedInOrder := by
  intro s
  have hexec : exec .rollback s = .next (s.rollbackCommand.2.answer 6#8 s.rollbackCommand.1) := rfl
  rw [hexec]
  unfold State.rollbackCommand
  refine ⟨fun h => by rw [if_pos h]; rfl, fun h => ?_⟩
  have hopen : ¬(s.ctl.state = .config ∨ s.ctl.state = .recovering) := by
    obtain h | h := h <;> rw [h] <;> decide
  rw [if_neg hopen]
  refine ⟨fun hk => by rw [if_pos hk]; rfl, fun hk hf => ?_, fun hk hf hnone => ?_, fun q hk hf hq hlive hseq hone => ?_⟩
  · rw [if_neg (not_not.2 hk), if_pos hf]
    rfl
  · rw [if_neg (not_not.2 hk), if_neg (by rw [hf]; decide), liveWith_none hnone]
    rfl
  · rw [if_neg (not_not.2 hk), if_neg (by rw [hf]; decide), liveWith_eq hq hlive hseq hone]
    dsimp only
    refine ⟨fun ⟨hforce, hdamaged⟩ => ?_, fun hok => ?_⟩
    · rw [if_pos ⟨hforce, liveFrom_damaged_iff.2 hdamaged⟩]
      rfl
    · rw [if_neg]
      · exact ⟨_, rfl, rfl, fun n => mem_drains⟩
      · rintro ⟨hforce, hdamaged⟩
        obtain ⟨j, hj, hjlive, hle, hjdamaged⟩ := liveFrom_damaged_iff.1 hdamaged
        obtain hok | hok := hok
        · exact absurd (hforce.symm.trans hok) (by decide)
        · exact absurd ((hok j hj hjlive hle).symm.trans hjdamaged) (by decide)

/-- The effective mark is the latest of the LIVE slots whose sequence is not above the stamp (R25). -/
theorem mem_effective {s : State} {t : Seq} {j : Nat} :
    j ∈ s.liveSlots.filter (fun i => decide ((s.slot i).seq ≤ t)) ↔
      (j < 5 ∧ (s.slot j).state = .live) ∧ (s.slot j).seq ≤ t := by
  rw [List.mem_filter, mem_liveSlots_iff, decide_eq_true_eq]

theorem effective_some {s : State} {t : Seq} {q : Nat} (h : s.effective t = some q) : q < 5 ∧ (s.slot q).state = .live ∧
    (s.slot q).seq ≤ t ∧ t ≠ 0#32 ∧
    ∀ j, j < 5 → (s.slot j).state = .live → (s.slot j).seq ≤ t → (s.slot j).seq ≤ (s.slot q).seq := by
  unfold State.effective at h
  split at h
  · cases h
  next hne =>
    obtain ⟨hmem, hmax⟩ := latest_spec h
    obtain ⟨⟨hq5, hlive⟩, hle⟩ := mem_effective.1 hmem
    exact ⟨hq5, hlive, hle, hne, fun j hj hjlive hjle => hmax j (mem_effective.2 ⟨⟨hj, hjlive⟩, hjle⟩)⟩

theorem effective_none {s : State} {t : Seq} : s.effective t = none ↔
    t = 0#32 ∨ ∀ j, j < 5 → (s.slot j).state = .live → ¬(s.slot j).seq ≤ t := by
  unfold State.effective
  split
  next h => exact ⟨fun _ => .inl h, fun _ => rfl⟩
  next h =>
    rw [latest_eq_none, List.eq_nil_iff_forall_not_mem]
    refine ⟨fun hnone => .inr fun j hj hlive hle => hnone j (mem_effective.2 ⟨⟨hj, hlive⟩, hle⟩), fun hor j hj => ?_⟩
    obtain ⟨⟨hj5, hlive⟩, hle⟩ := mem_effective.1 hj
    obtain hzero | hnone := hor
    · exact h hzero
    · exact hnone j hj5 hlive hle

/-- A slot that an existing record names, and that is occupied, is borne out (R43). -/
theorem slotOf_eq {s : State} {r : Record} {q : Nat} (hr : r.slot = some q) (hq : q < 5) (hstate : (s.slot q).state ≠ .free) :
    s.slotOf r = some q := by
  unfold State.slotOf
  rw [hr]
  exact if_pos ⟨hq, hstate⟩

theorem resolved_eq {s : State} {r : Record} {q : Nat} (hr : r.slot = some q) (hq : q < 5)
    (hstate : (s.slot q).state ≠ .free) :
    s.resolved r = if (s.slot q).state = .retiring then s.olderLive q else some q := by
  unfold State.resolved
  rw [slotOf_eq hr hq hstate]

/-- Settles O33: stamps, effective and resolved marks are the latest of the LIVE slots that each admits. -/
theorem stampsAndMarksResolve : Obligations.StampsAndMarksResolve := by
  intro s
  have newest : ∀ {q}, q < 5 → (s.slot q).state = .live → ∃ k, s.newestLive = some k := fun {q} hq hlive => by
    cases hk : s.newestLive with
    | some k => exact ⟨k, rfl⟩
    | none =>
      have hmem := mem_liveSlots_iff.2 ⟨hq, hlive⟩
      rw [latest_eq_none.1 hk] at hmem
      cases hmem
  unfold State.stampNow
  refine ⟨fun h => ?_, fun q hq hlive => ?_, fun ⟨q, hq, hlive⟩ => ?_, fun t q => effective_some, fun t => effective_none,
    fun r q hr hq hstate => ?_, fun r q k hr hq hstate hk => ?_, fun r q hr hq hstate hk j hj hlive => ?_⟩
  · cases hk : s.newestLive with
    | none => rfl
    | some k =>
      obtain ⟨hk5, hlive⟩ := mem_liveSlots_iff.1 (latest_spec hk).1
      exact absurd hlive (h k hk5)
  · obtain ⟨k, hk⟩ := newest hq hlive
    rw [hk]
    exact (latest_spec hk).2 q (mem_liveSlots_iff.2 ⟨hq, hlive⟩)
  · obtain ⟨k, hk⟩ := newest hq hlive
    obtain ⟨hk5, hklive⟩ := mem_liveSlots_iff.1 (latest_spec hk).1
    rw [hk]
    exact ⟨k, hk5, hklive, rfl⟩
  · rw [resolved_eq hr hq (by obtain h | h := hstate <;> rw [h] <;> decide), if_neg]
    obtain h | h := hstate <;> rw [h] <;> decide
  · rw [resolved_eq hr hq (by rw [hstate]; decide), if_pos hstate] at hk
    exact olderLive_some hk
  · rw [resolved_eq hr hq (by rw [hstate]; decide), if_pos hstate] at hk
    exact olderLive_none hk hj hlive

end Sys2Proof.Proofs
end

section
/-! The end of a step by the fields it reads, QUIESCE and RESUME (O28), CONFIG_ENTER (O30), the classes (O34) and the failing
CONFIG_EXIT (O31). -/

namespace Sys2Proof.Machine.State

variable {s t : State}

/-! ## What the end of a step reads (R109, R120, R130) -/

theorem idleChannel_congr (hchan : t.channels = s.channels) (htag : t.copyTags = s.copyTags) :
    t.idleChannel = s.idleChannel := by
  unfold State.idleChannel State.hasFreeTag State.chan State.copyTag
  rw [hchan, htag]

/-- The arbiter stays idle while the channels, the queues and the offer stay. -/
theorem ArbiterIdle.congr (h : s.ArbiterIdle) (hchan : t.channels = s.channels) (htag : t.copyTags = s.copyTags)
    (hdemand : t.sweep.demand = s.sweep.demand) (hoffer : t.sweep.offer = s.sweep.offer)
    (hqueue : t.wp.queue = s.wp.queue) : t.ArbiterIdle := by
  unfold State.ArbiterIdle
  rw [idleChannel_congr hchan htag, hdemand, hoffer, hqueue]
  exact h

theorem emptyCondition_congr (hentry : ∀ n, (t.entry n).state = (s.entry n).state) (hchan : t.channels = s.channels)
    (hdemand : t.sweep.demand = s.sweep.demand) (hoffer : t.sweep.offer = s.sweep.offer) (hwp : t.wp = s.wp) :
    t.emptyCondition = s.emptyCondition := by
  unfold State.emptyCondition State.copyIdle State.chan
  simp only [hentry, hchan, hdemand, hoffer, hwp]

/-- Where a CLOSING intake meets the empty condition it closes. -/
theorem checkIntake_closes (hclosing : s.port.intake = .closing) (hempty : s.emptyCondition = true) :
    s.checkIntake = (s.setPort { s.port with intake := .closed }).raise .quiesced := if_pos ⟨hclosing, hempty⟩

theorem checkIntake_not_closing (h : s.port.intake ≠ .closing) : s.checkIntake = s := checkIntake_idle fun hc => absurd hc h

/-- A step's end does nothing where a settled state's port, queues, channels and entries stand. -/
theorem Settled.congr (h : s.Settled) (hport : t.port = s.port) (hentry : ∀ n, (t.entry n).state = (s.entry n).state)
    (hchan : t.channels = s.channels) (htag : t.copyTags = s.copyTags) (hdemand : t.sweep.demand = s.sweep.demand)
    (hoffer : t.sweep.offer = s.sweep.offer) (hwp : t.wp = s.wp) : t.Settled where
  due := by rw [hport]; exact h.due
  arbiter := ArbiterIdle.congr h.arbiter hchan htag hdemand hoffer (congrArg WritePath.queue hwp)
  intake := by rw [hport, emptyCondition_congr hentry hchan hdemand hoffer hwp]; exact h.intake

/-! ## CONFIG_ENTER (R147) -/

theorem occupied_ne_nil_iff : s.occupied ≠ [] ↔ ∃ q, q < 5 ∧ (s.slot q).state ≠ .free := by
  simp only [ne_eq, ← List.isEmpty_iff, State.occupied, List.isEmpty_eq_false_iff_exists_mem, Bool.not_eq_true,
    List.mem_filter, mem_slotIds, bne_iff_ne]

theorem exec_configEnter_eq : exec .configEnter s = .next (s.configEnter.2.answer 1#8 s.configEnter.1) := rfl

/-! ## Windows (R2, R3) -/

theorem mem_windowIds {w : Nat} : w ∈ windowIds ↔ w < 8 := by
  show w ∈ List.range 8 ↔ w < 8
  exact List.mem_range

theorem covers_iff {w page : Nat} : (s.window w).covers page = true ↔ (s.window w).enable = true ∧ windowPage s w page := by
  simp [Window.covers, windowPage, and_assoc]

theorem poolHolds_iff {page : Nat} :
    s.poolHolds page = true ↔ s.pool.base.toNat ≤ page ∧ page < s.pool.base.toNat + s.pool.frames.toNat := by
  simp [State.poolHolds]

theorem windowOf_none {page : Nat} (h : ∀ w, w < 8 → (s.window w).enable = true → ¬windowPage s w page) :
    s.windowOf page = none := by
  rw [State.windowOf, List.find?_eq_none]
  intro w hw hcovers
  obtain ⟨henable, hpage⟩ := covers_iff.1 hcovers
  exact h w (mem_windowIds.1 hw) henable hpage

theorem windowOf_eq {w page : Nat} (hw : w < 8) (henable : (s.window w).enable = true) (hpage : windowPage s w page)
    (hone : ∀ v, v < 8 → v ≠ w → (s.window v).enable = true → ¬windowPage s v page) : s.windowOf page = some w := by
  cases hfind : s.windowOf page with
  | none =>
    rw [State.windowOf, List.find?_eq_none] at hfind
    exact absurd (covers_iff.2 ⟨henable, hpage⟩) (hfind w (mem_windowIds.2 hw))
  | some v =>
    obtain ⟨hvenable, hvpage⟩ := covers_iff.1 (List.find?_some (p := fun w => (s.window w).covers page) hfind)
    by_contra hne
    exact hone v (mem_windowIds.1 (List.mem_of_find?_eq_some hfind)) (fun heq => hne (congrArg some heq)) hvenable hvpage

end Sys2Proof.Machine.State

namespace Sys2Proof.Proofs

open Sys2Proof.Machine Sys2Proof.Machine.State

theorem exec_quiesce_opened {s : State} (h : s.port.intake = .opened) : exec .quiesce s = .next (State.checkIntake
    { s with port := { s.port with intake := .closing }, mgmt := answered s.mgmt 7#8 .done }) := by
  show Host.Outcome.next (s.quiesceCommand.2.answer 7#8 s.quiesceCommand.1).checkIntake = _
  unfold State.quiesceCommand
  rw [if_pos h]
  rfl

theorem exec_quiesce_not_opened {s : State} (h : s.port.intake ≠ .opened) : exec .quiesce s = .next (State.checkIntake
    { s with mgmt := answered s.mgmt 7#8 .done }) := by
  show Host.Outcome.next (s.quiesceCommand.2.answer 7#8 s.quiesceCommand.1).checkIntake = _
  unfold State.quiesceCommand
  rw [if_neg h]
  rfl

/-- Settles O28: QUIESCE by the intake and the empty condition, RESUME by what is owed and the link. -/
theorem quiesceAndResume : Obligations.QuiesceAndResume := by
  intro s hsettled
  have hkeeps : ∀ p m, ({ s with port := p, mgmt := m } : State).emptyCondition = s.emptyCondition := fun p m =>
    emptyCondition_congr (fun _ => rfl) rfl rfl rfl rfl
  refine ⟨fun hopen hempty => ?_, fun hopen hempty => ?_, fun hopen => ?_, ?_⟩
  · rw [exec_quiesce_opened hopen, checkIntake_idle fun _ => (hkeeps _ _).trans hempty]
  · rw [exec_quiesce_opened hopen, checkIntake_closes rfl ((hkeeps _ _).trans hempty)]
    rfl
  · rw [exec_quiesce_not_opened hopen, checkIntake_idle fun hclosing => (hkeeps s.port (answered s.mgmt 7#8 .done)).trans (hsettled.intake hclosing)]
  · have hresume : exec .resume s = .next (s.resumeCommand.2.answer 8#8 s.resumeCommand.1) := rfl
    rw [hresume]
    unfold State.resumeCommand
    by_cases howed : s.port.owed = 0
    · rw [if_pos howed, if_pos (.inl howed)]
      rfl
    · rw [if_neg howed]
      by_cases hup : s.port.up = true
      · rw [sendUp_up _ hup, if_neg (by simp [howed, hup])]
        rfl
      · have hsend : s.sendUp (.credit s.port.owed) = s := if_neg hup
        rw [hsend, if_pos (.inr (eq_false_of_ne_true hup))]
        rfl

/-- Settles O30: CONFIG_ENTER's tests in order, and what `enterConfig` sets. -/
theorem configEnterIsTestedInOrder : Obligations.ConfigEnterIsTestedInOrder := by
  intro s
  rw [exec_configEnter_eq]
  unfold State.configEnter
  refine ⟨fun h => by rw [if_pos h]; rfl, fun h => ?_⟩
  have hopen : ¬(s.ctl.state = .config ∨ s.ctl.state = .recovering) := by
    obtain h | h := h <;> rw [h] <;> decide
  rw [if_neg hopen]
  refine ⟨fun hbusy => by rw [if_pos hbusy]; rfl, fun hkind hidle => ?_, fun hkind hidle => ?_⟩ <;>
    rw [if_neg (by simp [hkind, hidle] : ¬(s.sweep.kind ≠ .none ∨ s.copyIdle = false))]
  · exact fun hmark => by rw [if_pos (occupied_ne_nil_iff.2 hmark)]; rfl
  · intro hfree
    rw [if_neg]
    · exact ⟨_, rfl, fun _ => rfl, fun _ => rfl, rfl⟩
    · rw [occupied_ne_nil_iff]
      rintro ⟨q, hq, hne⟩
      exact hne (hfree q hq)

/-- Settles O34: outside CONFIG the pool's range and then the one window that covers the page decide. -/
theorem requestsAreClassifiedByPage : Obligations.RequestsAreClassifiedByPage := by
  refine fun s page => ⟨fun h => if_pos h, fun h => ⟨fun hpool => ?_, fun hpool => ⟨fun hnone => ?_,
    fun w hw henable hpage hone => ?_⟩⟩, fun _ => rfl⟩ <;> unfold State.classify <;> rw [if_neg h]
  · rw [if_pos (poolHolds_iff.2 hpool)]
  · rw [if_neg (mt poolHolds_iff.1 hpool), windowOf_none hnone]
  · rw [if_neg (mt poolHolds_iff.1 hpool), windowOf_eq hw henable hpage hone]
    cases hmode : (s.window w).mode <;> simp [hmode, Mode.toClass]

end Sys2Proof.Proofs
end

section
/-! The checks of CONFIG_EXIT, one by one, and the failure that the first of them reports (O31). -/

namespace Sys2Proof.Machine

/-! ## The first of a sorted list -/

/-- In a list sorted by `r`, `find?` gives the one that holds with none before it. -/
theorem find?_eq_of_pairwise {α : Type} {r : α → α → Prop} {p : α → Bool} {l : List α} {a : α} (hsorted : l.Pairwise r)
    (hmem : a ∈ l) (hp : p a = true) (hfirst : ∀ b ∈ l, r b a → ¬p b = true) : l.find? p = some a := by
  induction l with
  | nil => cases hmem
  | cons x l ih =>
    obtain ⟨hx, hsorted⟩ := List.pairwise_cons.1 hsorted
    obtain rfl | hmem := List.mem_cons.1 hmem
    · exact List.find?_cons_of_pos hp
    · rw [List.find?_cons_of_neg (hfirst x (List.mem_cons_self ..) (hx a hmem))]
      exact ih hsorted hmem fun b hb => hfirst b (List.mem_cons_of_mem _ hb)

/-- Pairs by the lower index and then by the higher. -/
def PairBefore (p q : Nat × Nat) : Prop := p.1 < q.1 ∨ (p.1 = q.1 ∧ p.2 < q.2)

theorem mem_pairsOf {l : List Nat} (hsorted : l.Pairwise (· < ·)) {a b : Nat} :
    (a, b) ∈ pairsOf l ↔ a ∈ l ∧ b ∈ l ∧ a < b := by
  induction l with
  | nil => simp [pairsOf]
  | cons x l ih =>
    obtain ⟨hx, hsorted⟩ := List.pairwise_cons.1 hsorted
    simp only [pairsOf, List.mem_append, List.mem_map, Prod.mk.injEq, ih hsorted, List.mem_cons]
    constructor
    · rintro (⟨b, hb, rfl, rfl⟩ | ⟨ha, hb, hlt⟩)
      · exact ⟨.inl rfl, .inr hb, hx _ hb⟩
      · exact ⟨.inr ha, .inr hb, hlt⟩
    · rintro ⟨rfl | ha, rfl | hb, hlt⟩
      · exact absurd hlt (lt_irrefl _)
      · exact .inl ⟨b, hb, rfl, rfl⟩
      · exact absurd (hx a ha) (lt_asymm hlt)
      · exact .inr ⟨ha, hb, hlt⟩

theorem pairsOf_sorted {l : List Nat} (hsorted : l.Pairwise (· < ·)) : (pairsOf l).Pairwise PairBefore := by
  induction l with
  | nil => exact .nil
  | cons x l ih =>
    obtain ⟨hx, hsorted⟩ := List.pairwise_cons.1 hsorted
    refine List.pairwise_append.2 ⟨?_, ih hsorted, ?_⟩
    · rw [List.pairwise_map]
      exact hsorted.imp fun hlt => .inr ⟨rfl, hlt⟩
    · rintro _ hp ⟨a, b⟩ hq
      obtain ⟨c, -, rfl⟩ := List.mem_map.1 hp
      exact .inl (hx a ((mem_pairsOf hsorted).1 hq).1)

/-- Two ranges overlap where some number is in both. -/
theorem overlaps_iff {a aStop b bStop : Nat} :
    overlaps a aStop b bStop = true ↔ ∃ n, (a ≤ n ∧ n < aStop) ∧ b ≤ n ∧ n < bStop := by
  simp only [overlaps, Bool.and_eq_true, decide_eq_true_eq]
  constructor
  · rintro ⟨⟨⟨hab, hba⟩, ha⟩, hb⟩
    exact ⟨max a b, ⟨le_max_left .., max_lt ha hba⟩, le_max_right .., max_lt hab hb⟩
  · rintro ⟨n, ⟨ha, haStop⟩, hb, hbStop⟩
    omega

namespace State

variable {s : State}

theorem mem_enabledIds {w : Nat} : w ∈ s.enabledIds ↔ w < 8 ∧ (s.window w).enable = true := by
  rw [State.enabledIds, List.mem_filter, mem_windowIds]

theorem enabledIds_sorted (s : State) : s.enabledIds.Pairwise (· < ·) := List.Pairwise.filter _ (by decide)

/-- The first enabled window for which `p` holds. -/
theorem find?_enabledIds {p : Nat → Bool} {w : Nat} (hw : w < 8) (henable : (s.window w).enable = true) (hp : p w = true)
    (hfirst : ∀ v, v < w → (s.window v).enable = true → ¬p v = true) : s.enabledIds.find? p = some w :=
  find?_eq_of_pairwise s.enabledIds_sorted (mem_enabledIds.2 ⟨hw, henable⟩) hp fun v hv hlt =>
    hfirst v hlt (mem_enabledIds.1 hv).2

theorem find?_enabledIds_none {p : Nat → Bool} (h : ∀ w, w < 8 → (s.window w).enable = true → ¬p w = true) :
    s.enabledIds.find? p = none := by
  rw [List.find?_eq_none]
  intro w hw
  obtain ⟨hw8, henable⟩ := mem_enabledIds.1 hw
  exact h w hw8 henable

/-! ## The checks (R145) -/

theorem windows_overlap_iff {v w : Nat} :
    overlaps (s.window v).base.toNat (s.window v).stop (s.window w).base.toNat (s.window w).stop = true ↔
      ∃ page, windowPage s v page ∧ windowPage s w page := overlaps_iff

theorem pool_overlap_iff {w : Nat} :
    overlaps (s.window w).base.toNat (s.window w).stop s.pool.base.toNat s.poolStop = true ↔
      ∃ page, windowPage s w page ∧ s.poolHolds page = true := by
  simp only [poolHolds_iff]
  exact overlaps_iff

/-- Some enabled window is a GUARD window. -/
theorem any_guard_iff : (s.enabledIds.any fun w => (s.window w).mode == .guard) = true ↔
    ∃ w, w < 8 ∧ (s.window w).enable = true ∧ (s.window w).mode = .guard := by
  simp only [List.any_eq_true, mem_enabledIds, beq_iff_eq, and_assoc]

theorem rangeCheck_none (h : ∀ v, v < 8 → (s.window v).enable = true →
    (s.window v).base.toNat + (s.window v).pages ≤ 268435456) : s.rangeCheck = none := by
  rw [State.rangeCheck, find?_enabledIds_none fun v hv henable => ?_]
  · rfl
  · exact mt of_decide_eq_true (Nat.not_lt.2 (h v hv henable))

theorem rangeCheck_some {w : Nat} (hw : w < 8) (henable : (s.window w).enable = true)
    (hpast : 268435456 < (s.window w).base.toNat + (s.window w).pages)
    (hfirst : ∀ v, v < w → (s.window v).enable = true → (s.window v).base.toNat + (s.window v).pages ≤ 268435456) :
    s.rangeCheck = some ⟨.configInvalid, .range, subjectOf (some w) none false⟩ := by
  have hfind : s.enabledIds.find? (fun w => decide (Config.pageLimit < (s.window w).stop)) = some w :=
    find?_enabledIds hw henable (decide_eq_true hpast) fun v hlt hv =>
      mt of_decide_eq_true (Nat.not_lt.2 (hfirst v hlt hv))
  rw [State.rangeCheck, hfind]
  rfl

section
variable (hframes : s.pool.frames.toNat ≤ 16384)
  (hguard : s.pool.frames = 0#16 → ∀ w, w < 8 → (s.window w).enable = true → (s.window w).mode ≠ .guard)
include hframes hguard

/-- A pool of a sound size is checked for its range. -/
theorem poolCheck_sized : s.poolCheck =
    if Config.pageLimit < s.poolStop then some ⟨.configInvalid, .range, subjectOf none none true⟩ else none := by
  refine if_neg ?_
  rintro (hmany | ⟨hzero, hany⟩)
  · exact absurd hmany (Nat.not_lt.2 hframes)
  · obtain ⟨w, hw, henable, hmode⟩ := any_guard_iff.1 hany
    exact hguard hzero w hw henable hmode

theorem poolCheck_none (hrange : s.pool.base.toNat + s.pool.frames.toNat ≤ 268435456) : s.poolCheck = none :=
  (poolCheck_sized hframes hguard).trans (if_neg (Nat.not_lt.2 hrange))

theorem poolCheck_range (hrange : 268435456 < s.pool.base.toNat + s.pool.frames.toNat) :
    s.poolCheck = some ⟨.configInvalid, .range, subjectOf none none true⟩ :=
  (poolCheck_sized hframes hguard).trans (if_pos hrange)

end

theorem poolCheck_size (h : 16384 < s.pool.frames.toNat ∨
    (s.pool.frames = 0#16 ∧ ∃ w, w < 8 ∧ (s.window w).enable = true ∧ (s.window w).mode = .guard)) :
    s.poolCheck = some ⟨.configInvalid, .poolSize, subjectOf none none true⟩ :=
  if_pos (h.imp_right fun ⟨hzero, hguard⟩ => ⟨hzero, any_guard_iff.2 hguard⟩)

theorem mem_enabledPairs {v w : Nat} : (v, w) ∈ pairsOf s.enabledIds ↔
    (v < 8 ∧ (s.window v).enable = true) ∧ (w < 8 ∧ (s.window w).enable = true) ∧ v < w := by
  rw [mem_pairsOf s.enabledIds_sorted, mem_enabledIds, mem_enabledIds]

theorem overlapCheck_none (h : ∀ a b, a < b → b < 8 → (s.window a).enable = true → (s.window b).enable = true →
    ¬∃ page, windowPage s a page ∧ windowPage s b page) : s.overlapCheck = none := by
  rw [State.overlapCheck, List.find?_eq_none.2]
  · rfl
  rintro ⟨v, w⟩ hmem
  obtain ⟨⟨-, hv⟩, ⟨hw8, hw⟩, hlt⟩ := mem_enabledPairs.1 hmem
  exact mt windows_overlap_iff.1 (h v w hlt hw8 hv hw)

theorem overlapCheck_some {v w : Nat} (hlt : v < w) (hw : w < 8) (hvenable : (s.window v).enable = true)
    (hwenable : (s.window w).enable = true) (hpage : ∃ page, windowPage s v page ∧ windowPage s w page)
    (hfirst : ∀ a b, a < b → b < 8 → (a < v ∨ (a = v ∧ b < w)) → (s.window a).enable = true →
      (s.window b).enable = true → ¬∃ page, windowPage s a page ∧ windowPage s b page) :
    s.overlapCheck = some ⟨.configInvalid, .overlap, subjectOf (some v) (some w) false⟩ := by
  rw [State.overlapCheck, find?_eq_of_pairwise (pairsOf_sorted s.enabledIds_sorted)
    (mem_enabledPairs.2 ⟨⟨hlt.trans hw, hvenable⟩, ⟨hw, hwenable⟩, hlt⟩) (windows_overlap_iff.2 hpage)]
  · rfl
  rintro ⟨a, b⟩ hmem hbefore
  obtain ⟨⟨-, ha⟩, ⟨hb8, hb⟩, hab⟩ := mem_enabledPairs.1 hmem
  exact mt windows_overlap_iff.1 (hfirst a b hab hb8 hbefore ha hb)

theorem poolOverlapCheck_none (h : ∀ w, w < 8 → (s.window w).enable = true →
    ¬∃ page, windowPage s w page ∧ s.poolHolds page = true) : s.poolOverlapCheck = none := by
  rw [State.poolOverlapCheck, find?_enabledIds_none fun w hw henable => mt pool_overlap_iff.1 (h w hw henable)]
  rfl

theorem poolOverlapCheck_some {w : Nat} (hw : w < 8) (henable : (s.window w).enable = true)
    (hpage : ∃ page, windowPage s w page ∧ s.poolHolds page = true)
    (hfirst : ∀ v, v < w → (s.window v).enable = true → ¬∃ page, windowPage s v page ∧ s.poolHolds page = true) :
    s.poolOverlapCheck = some ⟨.configInvalid, .overlap, subjectOf (some w) none true⟩ := by
  rw [State.poolOverlapCheck, find?_enabledIds hw henable (pool_overlap_iff.2 hpage) fun v hlt hv =>
    mt pool_overlap_iff.1 (hfirst v hlt hv)]
  rfl

theorem configCheck_valid (h : configValid s) : s.configCheck = none := by
  obtain ⟨hrange, hframes, hguard, hpool, hwindows, hpoolWindows, hpst⟩ := h
  rw [State.configCheck, rangeCheck_none hrange, poolCheck_none hframes hguard hpool, overlapCheck_none hwindows,
    poolOverlapCheck_none hpoolWindows]
  exact if_neg (Nat.not_lt.2 hpst)

/-! ## CONFIG_EXIT -/

theorem exec_configExit_eq : exec .configExit s = .next (s.configExit.2.answer 2#8 s.configExit.1) := rfl

/-- A check that fails in CONFIG: detail and subject go to the last validation and the result. -/
theorem exec_configExit_invalid {d : Detail} {subject : BitVec 12} (h : s.ctl.state = .config)
    (hcheck : s.configCheck = some ⟨.configInvalid, d, subject⟩) : exec .configExit s = .next (invalidExit s d subject) := by
  rw [exec_configExit_eq]
  unfold State.configExit
  rw [if_neg (not_not.2 h), hcheck]
  rfl

end State

/-! ## Subjects (11.3) -/

theorem subjectOf_window {w : Nat} (hw : w < 8) : subjectOf (some w) none false = BitVec.ofNat 12 (w + 64) := by
  interval_cases w <;> rfl

theorem subjectOf_windowAndPool {w : Nat} (hw : w < 8) :
    subjectOf (some w) none true = BitVec.ofNat 12 (w + 64 + 256) := by
  interval_cases w <;> rfl

theorem subjectOf_windows {v w : Nat} (hv : v < 8) (hw : w < 8) :
    subjectOf (some v) (some w) false = BitVec.ofNat 12 (v + 8 * w + 192) := by
  interval_cases v <;> interval_cases w <;> rfl

end Sys2Proof.Machine

namespace Sys2Proof.Proofs

open Sys2Proof.Machine Sys2Proof.Machine.State

/-- Settles O31: each check in its order, the ones before it passed. -/
theorem configExitReportsTheFirstFailure : Obligations.ConfigExitReportsTheFirstFailure := by
  refine fun s => ⟨fun h => ?_, fun h => ⟨fun w hw henable hpast hfirst => ?_, fun hrange => ⟨fun hsize => ?_,
    fun hframes hguard => ⟨fun hpast => ?_, fun hpool => ⟨fun v w hlt hw hvenable hwenable hpage hfirst => ?_,
    fun hwindows => ⟨fun w hw henable hpage hfirst => ?_, fun hpoolWindows hpst => ?_⟩⟩⟩⟩⟩⟩
  · rw [exec_configExit_eq, State.configExit, if_pos h]
    rfl
  all_goals apply exec_configExit_invalid h
  · rw [State.configCheck, rangeCheck_some hw henable hpast hfirst, subjectOf_window hw]
    rfl
  · rw [State.configCheck, rangeCheck_none hrange, poolCheck_size hsize]
    rfl
  · rw [State.configCheck, rangeCheck_none hrange, poolCheck_range hframes hguard hpast]
    rfl
  · rw [State.configCheck, rangeCheck_none hrange, poolCheck_none hframes hguard hpool,
      overlapCheck_some hlt hw hvenable hwenable hpage hfirst, subjectOf_windows (hlt.trans hw) hw]
    rfl
  · rw [State.configCheck, rangeCheck_none hrange, poolCheck_none hframes hguard hpool, overlapCheck_none hwindows,
      poolOverlapCheck_some hw henable hpage hfirst, subjectOf_windowAndPool hw]
    rfl
  · rw [State.configCheck, rangeCheck_none hrange, poolCheck_none hframes hguard hpool, overlapCheck_none hwindows,
      poolOverlapCheck_none hpoolWindows]
    exact if_pos hpst

end Sys2Proof.Proofs
end

section
/-! Folds over slots and windows, the entry to DEGRADED with no write in FRAME_WAIT, and the CONFIG_EXIT that passes (O32). -/

namespace Sys2Proof.Machine.State

variable {s : State}

/-! ## Folds -/

/-- Changing each of a list of slots by `g` changes the slots alone, and each of them once. -/
theorem foldl_setSlot (g : Slot → Slot) {l : List Nat} (hnodup : l.Nodup) (s : State) :
    ∃ slots, l.foldl (fun s i => s.setSlot i (g (s.slot i))) s = { s with slots := slots } ∧
      ∀ q, slots.get .freed q = if q ∈ l then g (s.slot q) else s.slot q := by
  induction l generalizing s with
  | nil => exact ⟨s.slots, rfl, fun _ => rfl⟩
  | cons i l ih =>
    obtain ⟨hi, hnodup⟩ := List.nodup_cons.1 hnodup
    obtain ⟨slots, hfold, hslots⟩ := ih hnodup (s.setSlot i (g (s.slot i)))
    refine ⟨slots, hfold, fun q => ?_⟩
    have hslot : (s.setSlot i (g (s.slot i))).slot q = if q = i then g (s.slot i) else s.slot q := Table.get_set ..
    rw [hslots, hslot]
    by_cases hq : q = i
    · subst hq
      simp [hi]
    · simp [hq]

theorem damageLive_spec (s : State) : ∃ slots, s.damageLive = { s with slots := slots } ∧
    ∀ q, slots.get .freed q =
      if q < 5 ∧ (s.slot q).state = .live then { s.slot q with damaged := true } else s.slot q := by
  obtain ⟨slots, hfold, hslots⟩ := foldl_setSlot (fun v => { v with damaged := true }) s.nodup_liveSlots s
  refine ⟨slots, hfold, fun q => ?_⟩
  rw [hslots, if_congr mem_liveSlots_iff rfl rfl]

theorem liveSlots_eq_nil (h : s.liveCount = 0) : s.liveSlots = [] := List.eq_nil_of_length_eq_zero h

theorem damageLive_none (h : s.liveCount = 0) : s.damageLive = s := by
  rw [State.damageLive, liveSlots_eq_nil h]
  rfl

theorem damageLive_pool (s : State) : s.damageLive.pool = s.pool := by
  obtain ⟨slots, h, -⟩ := s.damageLive_spec
  rw [h]

theorem flushWaiters_none (h : s.pool.wait = []) : flushWaiters s = s := by
  rw [Machine.flushWaiters, Machine.listRounds, flushWaitersWith, h]

/-- The entry to DEGRADED, with its cause set, where no write is in FRAME_WAIT (R148). -/
theorem enterDegradedWith_quiet (h : s.pool.wait = []) :
    enterDegradedWith flushWaiters s = (s.setCtl { s.ctl with state := .degraded }).damageLive.raise .degraded := by
  unfold Machine.enterDegradedWith
  rw [flushWaiters_none]
  rw [damageLive_pool]
  exact h

/-! ## The step that leaves CONFIG (R8, R146) -/

/-- Each window takes its own first index as PST indices are assigned. -/
theorem assignPst_window {w : Nat} (hw : w < 8) :
    s.assignPst.window w = { s.window w with firstIndex := BitVec.ofNat 16 (s.firstIndexOf w) } := by
  have hfold : ∀ (l : List Nat) (t : State), w ∈ l ∨ t.window w =
      { s.window w with firstIndex := BitVec.ofNat 16 (s.firstIndexOf w) } →
      (l.foldl (fun t w => t.setWindow w { s.window w with firstIndex := BitVec.ofNat 16 (s.firstIndexOf w) }) t).window w =
        { s.window w with firstIndex := BitVec.ofNat 16 (s.firstIndexOf w) } := by
    intro l
    induction l with
    | nil => exact fun t h => h.resolve_left (List.not_mem_nil)
    | cons v l ih =>
      refine fun t h => ih _ ?_
      by_cases hv : w = v
      · subst hv
        exact .inr (Table.get_set_same ..)
      · refine h.imp (fun hmem => (List.mem_cons.1 hmem).resolve_left hv) fun ht => ?_
        exact (Table.get_set_other _ _ _ hv).trans ht
  exact hfold windowIds s (.inl (mem_windowIds.2 hw))

theorem zeroStamps_entry (h : s.entries.canonical .freed = true) (n : Nat) :
    s.zeroStamps.entry n = { s.entry n with stamp := 0#32 } := Table.get_mapCells (fun _ => rfl) h n

theorem inPst_iff {w : Nat} : (s.window w).inPst = true ↔
    (s.window w).enable = true ∧ ((s.window w).mode = .guard ∨ (s.window w).mode = .census) := by
  simp [Window.inPst]

/-- What leaving CONFIG sets before the operating state is chosen. -/
def readied (s : State) : State :=
  { s.assignPst with
    entries := s.zeroStamps.entries
    pool := { s.pool with free := List.range s.pool.frames.toNat }, nextSeq := 1#32
    ctl := { s.ctl.cleared with tableFault := false, invalid := false, detail := .none, subject := 0#12 } }

theorem leaveConfig_eq (s : State) : s.leaveConfig =
    if s.mem.up = true then s.readied.setCtl { s.readied.ctl with state := .guarding }
    else s.readied.enterDegraded .link := by
  unfold State.leaveConfig State.readied
  rw [assignPst_eq]
  rfl

@[simp] theorem readied_slots (s : State) : s.readied.slots = s.slots := by
  unfold State.readied
  rw [assignPst_eq]

@[simp] theorem readied_pool (s : State) :
    s.readied.pool = { s.pool with free := List.range s.pool.frames.toNat } := rfl

theorem readied_window (s : State) {w : Nat} (hw : w < 8) : s.readied.window w = { s.window w with
    firstIndex := if (s.window w).enable = true ∧ ((s.window w).mode = .guard ∨ (s.window w).mode = .census) then
        (BitVec.ofNat 16 (s.pstPages ([0, 1, 2, 3, 4, 5, 6, 7].filter (· < w)))) else 0#16 } := by
  refine (assignPst_window hw).trans ?_
  rw [State.firstIndexOf, apply_ite (BitVec.ofNat 16), if_congr inPst_iff rfl rfl]
  rfl

@[simp] theorem addCause_pool (c : DegradedCause) (s : State) : (s.addCause c).pool = s.pool := by cases c <;> rfl

@[simp] theorem addCause_slots (c : DegradedCause) (s : State) : (s.addCause c).slots = s.slots := by cases c <;> rfl

end Sys2Proof.Machine.State

namespace Sys2Proof.Proofs

open Sys2Proof.Machine Sys2Proof.Machine.State

/-- Settles O32: the readied state, in GUARDING with the memory-port link up, in DEGRADED with it down. -/
theorem configExitLeavesConfig : Obligations.ConfigExitLeavesConfig := by
  intro s hconfig hvalid hlive hwait hcanonical
  have hexit : exec .configExit s = .next (s.leaveConfig.answer 2#8 (.plain .done)) := by
    rw [exec_configExit_eq, State.configExit, if_neg (not_not.2 hconfig), configCheck_valid hvalid]
  have hentry := zeroStamps_entry (tablesCanonical_iff.1 hcanonical).entries
  have hwindow := fun w (hw : w < 8) => readied_window s hw
  rw [hexit, leaveConfig_eq]
  by_cases hup : s.mem.up = true
  · refine ⟨_, rfl, ?_, ?_⟩
    · rw [if_pos hup, if_pos hup, if_pos hup, hup]
      unfold State.readied
      rw [assignPst_eq]
      rfl
    · rw [if_pos hup]
      exact ⟨fun _ => by unfold State.readied; rw [assignPst_eq]; rfl, hentry, hwindow⟩
  · have hdegraded : s.readied.enterDegraded .link =
        (s.readied.setCtl { s.readied.ctl with state := .degraded, causeLink := true }).raise .degraded := by
      rw [State.enterDegraded, enterDegradedWith_quiet (by rw [addCause_pool, readied_pool]; exact hwait),
        damageLive_none]
      · rfl
      · exact (liveCount_congr (readied_slots s)).trans hlive
    rw [if_neg hup, hdegraded]
    refine ⟨_, rfl, ?_, ?_⟩
    · rw [if_neg hup, if_neg hup, eq_false_of_ne_true hup]
      unfold State.readied
      rw [assignPst_eq]
      rfl
    · exact ⟨fun _ => by unfold State.readied; rw [assignPst_eq]; rfl, hentry, hwindow⟩

end Sys2Proof.Proofs
end

section
/-! COMMIT (O26) and RECOVER (O27): the start of a commit sweep, and its completion where no slot is LIVE. -/

namespace Sys2Proof.Machine

/-- The walk begins at the first start record. -/
theorem map_firstPlace (order : List (Nat × Option Nat)) : (firstPlace order).map (·.2) = order.findSome? (·.2) := by
  induction order with
  | nil => rfl
  | cons e order ih =>
    obtain ⟨q, h⟩ := e
    cases h with
    | none => simpa [firstPlace] using ih
    | some r => rfl

namespace State

variable {s : State}

/-! ## The start (R37, R85) -/

theorem mem_bySeq {l : List Nat} {q : Nat} : q ∈ s.bySeq l ↔ q ∈ l := List.mem_insertionSort _

theorem nodup_bySeq {l : List Nat} (h : l.Nodup) : (s.bySeq l).Nodup := (List.perm_insertionSort _ l).nodup_iff.2 h

theorem bySeq_sorted (s : State) (l : List Nat) : ((s.bySeq l).map fun q => (s.slot q).seq).Pairwise (· ≤ ·) := by
  have : Std.Total fun i j => (s.slot i).seq ≤ (s.slot j).seq := ⟨fun i j => BitVec.le_total _ _⟩
  have : IsTrans Nat fun i j => (s.slot i).seq ≤ (s.slot j).seq := ⟨fun _ _ _ => BitVec.le_trans⟩
  rw [List.pairwise_map]
  exact List.pairwise_insertionSort (fun i j => (s.slot i).seq ≤ (s.slot j).seq) l

/-- The sweep engine's fields as a commit sweep with walk order `order` starts. -/
def commitSweep (w : Sweep) (cause : Cause) (order : List (Nat × Option Nat)) : Sweep :=
  { w with
    kind := .commit, cause := some cause, phase := .walk, retiring := none, predecessor := none
    order := order, cursor := (firstPlace order).map (·.2), walkSlot := (firstPlace order).map (·.1)
    walked := [], waitingOn := none }

/-- What a commit sweep's start does: LIVE slots RETIRING, and the walk order of those slots by sequence. -/
theorem startCommit_spec (s : State) (c : Cause) : ∃ slots order,
    s.startCommit c = { s with slots := slots, sweep := commitSweep s.sweep c order } ∧
    (∀ q, slots.get .freed q = retired s q) ∧
    (∀ q h, (q, h) ∈ order ↔ q < 5 ∧ (s.slot q).state = .live ∧ h = (s.slot q).head) ∧
    (order.map fun e => (s.slot e.1).seq).Pairwise (· ≤ ·) ∧ (order.isEmpty = true ↔ s.liveCount = 0) := by
  obtain ⟨slots, hfold, hslots⟩ :=
    foldl_setSlot (fun v => { v with state := .retiring }) (nodup_bySeq (s := s) s.nodup_liveSlots) s
  have hset : s.setSlotStates .retiring (s.bySeq s.liveSlots) = { s with slots := slots } := hfold
  refine ⟨slots, (s.bySeq s.liveSlots).map (fun q => (q, (s.slot q).head)), ?_, fun q => ?_, fun q h => ?_, ?_, ?_⟩
  · unfold State.startCommit
    dsimp only
    rw [hset]
    rfl
  · rw [hslots, if_congr (mem_bySeq.trans mem_liveSlots_iff) rfl rfl]
    rfl
  · simp only [List.mem_map, mem_bySeq, mem_liveSlots_iff, Prod.mk.injEq]
    constructor
    · rintro ⟨_, ⟨hq, hlive⟩, rfl, rfl⟩
      exact ⟨hq, hlive, rfl⟩
    · rintro ⟨hq, hlive, rfl⟩
      exact ⟨q, ⟨hq, hlive⟩, rfl, rfl⟩
  · rw [List.map_map]
    exact s.bySeq_sorted _
  · rw [List.isEmpty_iff, List.map_eq_nil_iff, ← List.length_eq_zero_iff, State.bySeq, List.length_insertionSort]
    rfl

/-! ## The completion where the tables are sound (R23, R86) -/

theorem clearChains_sound (h : ∀ p, (s.page p).parityOk = true) : s.clearChains = { s with
    pst := s.pst.mapCells .clear
      (fun _ e => if e.chainHead = none then e else { e with chainHead := none, parityOk := true }) } := by
  have hfold : ∀ l : List Nat, l.foldl (fun s p => s.checkPage p none) s = s := by
    intro l
    induction l with
    | nil => rfl
    | cons p l ih => rw [List.foldl_cons, checkPage_sound (h p), ih]
  unfold State.clearChains
  rw [hfold]

theorem freeLeft_none (h : ∀ p, (s.page p).parityOk = true) (hleft : s.leftRecords = []) : s.freeLeft = s.clearChains := by
  have hleft' : s.clearChains.leftRecords = [] := by
    rw [clearChains_sound h]
    exact hleft
  unfold State.freeLeft
  dsimp only
  rw [hleft']
  rfl

theorem nodup_slotsIn (s : State) (st : SlotState) : (s.slotsIn st).Nodup := List.Nodup.filter _ (by decide)

theorem mem_slotsIn {st : SlotState} {q : Nat} : q ∈ s.slotsIn st ↔ q < 5 ∧ (s.slot q).state = st := by
  rw [State.slotsIn, List.mem_filter, mem_slotIds, beq_iff_eq]

/-- The tables after a commit's completion, where no record is left over and the PST is sound. -/
theorem restarted_spec (hentries : s.entries.canonical .freed = true) (hpages : s.pst.canonical .clear = true)
    (h : ∀ p, (s.page p).parityOk = true) (hleft : s.leftRecords = []) :
    ∃ slots entries pst, (s.freeLeft.freeSlots (s.freeLeft.slotsIn .retiring)).sequenceRestart =
        { s with slots := slots, nextSeq := 1#32, entries := entries, pst := pst } ∧
      (∀ q, slots.get .freed q = if q < 5 ∧ (s.slot q).state = .retiring then .freed else s.slot q) ∧
      (∀ n, entries.get .freed n = { s.entry n with stamp := 0#32 }) ∧
      ∀ p, pst.get .clear p = { s.page p with touch := 0#32, chainHead := none } := by
  rw [freeLeft_none h hleft, clearChains_sound h]
  generalize hpst : s.pst.mapCells .clear
    (fun _ e => if e.chainHead = none then e else { e with chainHead := none, parityOk := true }) = pst
  obtain ⟨slots, hfold, hslots⟩ :=
    foldl_setSlot (fun _ => .freed) (({ s with pst := pst } : State).nodup_slotsIn .retiring) { s with pst := pst }
  have hfree : ({ s with pst := pst } : State).freeSlots (({ s with pst := pst } : State).slotsIn .retiring) =
      { s with pst := pst, slots := slots } := hfold
  rw [hfree]
  refine ⟨slots, _, _, rfl, fun q => ?_, fun n => ?_, fun p => ?_⟩
  · rw [hslots, if_congr mem_slotsIn rfl rfl]
    rfl
  · exact Table.get_mapCells (fun _ => rfl) hentries n
  · have hclear : pst.canonical .clear = true := by
      rw [← hpst]
      exact Table.canonical_mapCells _ hpages
    have hpage : pst.get .clear p = { s.page p with chainHead := none } := by
      rw [← hpst, Table.get_mapCells (fun _ => rfl) hpages]
      show (if (s.page p).chainHead = none then s.page p else { s.page p with chainHead := none, parityOk := true }) = _
      have hsound := h p
      generalize s.page p = e at hsound ⊢
      cases e
      dsimp only at hsound
      subst hsound
      split
      next hnone =>
        dsimp only at hnone
        rw [hnone]
      · rfl
    refine (Table.get_mapCells (fun _ => rfl) hclear p).trans ?_
    rw [hpage]

end State

end Sys2Proof.Machine
end

section
/-! COMMIT (O26) and RECOVER (O27): acceptance with some LIVE mark, and with none. -/

namespace Sys2Proof.Machine.State

variable {s : State}

/-- A settled state stays settled under a command's answer, and under other slots, sweep fields and control. -/
theorem finish_answered (h : s.Settled) (code : Byte) (r : Result) :
    (s.answer code (.plain r)).finish = { s with mgmt := answered s.mgmt code r } :=
  finish_settled (h.congr rfl (fun _ => rfl) rfl rfl rfl rfl rfl)

/-- A commit sweep that starts with some LIVE mark walks. -/
theorem commitIfEmpty_live {c : Cause} (hlive : 0 < s.liveCount) : ∃ slots order,
    (s.startCommit c).commitIfEmpty = { s with slots := slots, sweep := commitSweep s.sweep c order } ∧
    (∀ q, slots.get .freed q = retired s q) ∧
    (∀ q h, (q, h) ∈ order ↔ q < 5 ∧ (s.slot q).state = .live ∧ h = (s.slot q).head) ∧
    (order.map fun e => (s.slot e.1).seq).Pairwise (· ≤ ·) := by
  obtain ⟨slots, order, hstart, hslots, horder, hsorted, hempty⟩ := s.startCommit_spec c
  refine ⟨slots, order, ?_, hslots, horder, hsorted⟩
  rw [hstart]
  exact if_neg (mt hempty.1 hlive.ne')

/-- Without a LIVE mark a commit sweep completes as it starts, but for state control after a RECOVER. -/
theorem commitIfEmpty_none {c : Cause} (hcanonical : s.Canonical) (hparity : ∀ p, (s.page p).parityOk = true)
    (hleft : s.leftRecords = []) (hlive : s.liveCount = 0) : ∃ slots entries pst,
    let t : State := { s with
      slots := slots, nextSeq := 1#32, entries := entries, pst := pst, sweep := idleSweep s.sweep
      mgmt := { s.mgmt with flags := s.mgmt.flags ||| BitVec.twoPow 21 1 } }
    (s.startCommit c).commitIfEmpty = ((if (some c == some .recover) = true then t.recoverComplete else t).pressureCheck) ∧
    restarted s t := by
  obtain ⟨slots, order, hstart, hslots, -, -, hempty⟩ := s.startCommit_spec c
  have hslot : ∀ q, slots.get .freed q = s.slot q := fun q => by
    rw [hslots]
    refine if_neg fun ⟨hq, hqlive⟩ => ?_
    have hmem := mem_liveSlots_iff.2 ⟨hq, hqlive⟩
    rw [liveSlots_eq_nil hlive] at hmem
    cases hmem
  obtain ⟨slots', entries, pst, hrestart, hslots', hentries, hpst⟩ :=
    restarted_spec (s := { s with slots := slots, sweep := commitSweep s.sweep c order }) hcanonical.entries
      hcanonical.pst hparity hleft
  refine ⟨slots', entries, pst, ?_, fun q => ?_, hentries, hpst⟩
  · rw [hstart]
    refine (if_pos (hempty.2 hlive)).trans ?_
    unfold State.commitComplete
    dsimp only
    rw [hrestart]
    rfl
  · refine (hslots' q).trans ?_
    show (if q < 5 ∧ (slots.get .freed q).state = .retiring then Slot.freed else slots.get .freed q) = _
    rw [hslot]

/-- With no slot LIVE before, none is LIVE after a restart. -/
theorem liveCount_restarted {t : State} (hlive : s.liveCount = 0) (h : restarted s t) : t.liveCount = 0 := by
  obtain ⟨hslot, -, -⟩ := h
  refine Nat.eq_zero_of_le_zero (hlive ▸ liveCount_mono fun q hq => ?_)
  rw [hslot] at hq
  split at hq
  · cases hq
  · exact hq

/-- No pressure retire is due with fewer than two LIVE marks. -/
theorem pressureCheck_of_no_live (h : s.liveCount = 0) : s.pressureCheck = s :=
  pressureCheck_of_not_due fun ⟨_, _, htwo, _⟩ => absurd (htwo.trans_eq h) (by decide)

/-- A settled step that restarts the sequence stays settled. -/
theorem Settled.restarted {t : State} (h : s.Settled) (hrestarted : restarted s t) (hport : t.port = s.port)
    (hchan : t.channels = s.channels) (htag : t.copyTags = s.copyTags) (hdemand : t.sweep.demand = s.sweep.demand)
    (hoffer : t.sweep.offer = s.sweep.offer) (hwp : t.wp = s.wp) : t.Settled := by
  obtain ⟨-, hentry, -⟩ := hrestarted
  exact h.congr hport (fun n => by rw [hentry]) hchan htag hdemand hoffer hwp

end Sys2Proof.Machine.State

namespace Sys2Proof.Proofs

open Sys2Proof.Machine Sys2Proof.Machine.State

/-- Flags CMD_DONE and SWEEP_DONE, in either order. -/
theorem sweepDone_cmdDone (flags : BitVec 21) :
    flags ||| BitVec.twoPow 21 1 ||| 1#21 = flags ||| 1#21 ||| BitVec.twoPow 21 1 := by
  rw [BitVec.or_assoc, BitVec.or_comm _ 1#21, BitVec.or_assoc]

/-- Settles O26: COMMIT's two tests, and the sweep's start with some LIVE mark and with none. -/
theorem commitIsTestedInOrder : Obligations.CommitIsTestedInOrder := by
  intro s hsettled
  have hexec : exec .commit s = .next (s.commitCommand.2.answer 5#8 s.commitCommand.1).finish := rfl
  rw [hexec]
  unfold State.commitCommand
  refine ⟨fun h => ?_, fun h hk => ?_, fun h hk hlive => ?_, fun hcanonical h hk hlive hleft hparity => ?_⟩
  · rw [if_pos h]
    exact congrArg Host.Outcome.next (finish_answered hsettled 5#8 .badState)
  · rw [if_neg (not_not.2 h), if_pos hk]
    exact congrArg Host.Outcome.next (finish_answered hsettled 5#8 .busy)
  · obtain ⟨slots, order, hstart, hslots, horder, hsorted⟩ := commitIfEmpty_live (s := s) (c := .commit) hlive
    rw [if_neg (not_not.2 h), if_neg (not_not.2 hk), hstart]
    refine ⟨_, congrArg Host.Outcome.next (finish_settled (hsettled.congr rfl (fun _ => rfl) rfl rfl rfl rfl rfl)), hslots,
      rfl, map_firstPlace order, horder, hsorted⟩
  · obtain ⟨slots, entries, pst, hdone, hrestarted⟩ :=
      commitIfEmpty_none (c := .commit) (tablesCanonical_iff.1 hcanonical) hparity hleft hlive
    have hnone (t : State) (ht : t.slots = slots) : t.pressureCheck = t :=
      pressureCheck_of_no_live ((liveCount_congr ht).trans (liveCount_restarted hlive hrestarted))
    rw [if_neg (not_not.2 h), if_neg (not_not.2 hk), hdone]
    dsimp only at hrestarted ⊢
    rw [if_neg (by decide), hnone _ rfl]
    refine ⟨{ s with
      slots := slots, nextSeq := 1#32, entries := entries, pst := pst, sweep := idleSweep s.sweep
      mgmt := { answered s.mgmt 5#8 .accepted with flags := s.mgmt.flags ||| BitVec.twoPow 21 1 ||| 1#21 } },
      ?_, hnone _ rfl, hrestarted, by rw [sweepDone_cmdDone]⟩
    rw [hnone _ rfl]
    exact congrArg Host.Outcome.next (finish_settled (hsettled.restarted hrestarted rfl rfl rfl rfl rfl rfl))

/-- Settles O27: RECOVER's two tests, and the sweep's start with some LIVE mark and with none. -/
theorem recoverIsTestedInOrder : Obligations.RecoverIsTestedInOrder := by
  intro s hsettled
  have hexec : exec .recover s = .next (s.recoverCommand.2.answer 10#8 s.recoverCommand.1).finish := rfl
  rw [hexec]
  unfold State.recoverCommand
  have hopen (h : s.ctl.state = .degraded) (hup : s.mem.up = true) : ¬(s.ctl.state ≠ .degraded ∨ s.mem.up = false) := by
    rw [h, hup]
    decide
  have hidle (hk : s.sweep.kind = .none) (hidle : s.copyIdle = true) : ¬(s.sweep.kind ≠ .none ∨ s.copyIdle = false) := by
    rw [hk, hidle]
    decide
  refine ⟨fun h => ?_, fun h hup hbusy => ?_, fun h hup hk hcopy hlive => ?_,
    fun hcanonical h hup hk hcopy hlive hleft hparity => ?_⟩
  · rw [if_pos h]
    exact congrArg Host.Outcome.next (finish_answered hsettled 10#8 .badState)
  · rw [if_neg (hopen h hup), if_pos hbusy]
    exact congrArg Host.Outcome.next (finish_answered hsettled 10#8 .busy)
  · rw [if_neg (hopen h hup), if_neg (hidle hk hcopy)]
    dsimp only
    generalize hs : s.setCtl
      { s.ctl with state := .recovering, spoiled := false, faultDuring := false, linkLost := false } = r
    obtain ⟨slots, order, hstart, hslots, horder, hsorted⟩ :=
      commitIfEmpty_live (s := r) (c := .recover) (by rw [← hs]; exact hlive)
    rw [hstart]
    subst hs
    exact ⟨_, congrArg Host.Outcome.next (finish_settled (hsettled.congr rfl (fun _ => rfl) rfl rfl rfl rfl rfl)), hslots,
      rfl, map_firstPlace order, horder, hsorted⟩
  · rw [if_neg (hopen h hup), if_neg (hidle hk hcopy)]
    dsimp only
    obtain ⟨slots, entries, pst, hdone, hrestarted⟩ := commitIfEmpty_none
      (s := s.setCtl { s.ctl with state := .recovering, spoiled := false, faultDuring := false, linkLost := false })
      (c := .recover) { tablesCanonical_iff.1 hcanonical with } hparity hleft hlive
    have hnone (t : State) (ht : t.slots = slots) : t.pressureCheck = t :=
      pressureCheck_of_no_live ((liveCount_congr ht).trans (liveCount_restarted hlive hrestarted))
    rw [hdone]
    dsimp only at hrestarted ⊢
    rw [if_pos (by decide)]
    refine ⟨{ s with
      ctl := { s.ctl with
        state := .guarding, causeLink := false, causeTable := false, causeCommand := false, tableFault := false
        spoiled := false, faultDuring := false, linkLost := false }
      slots := slots, nextSeq := 1#32, entries := entries, pst := pst, sweep := idleSweep s.sweep
      mgmt := { answered s.mgmt 10#8 .accepted with flags := s.mgmt.flags ||| BitVec.twoPow 21 1 ||| 1#21 } },
      ?_, hnone _ rfl, hrestarted, by rw [sweepDone_cmdDone]⟩
    rw [hnone _ rfl, hnone _ rfl]
    exact congrArg Host.Outcome.next (finish_settled (hsettled.restarted hrestarted rfl rfl rfl rfl rfl rfl))

end Sys2Proof.Proofs
end

section
/-! What an entry's completion and issue do within one step, and the requests decided at acceptance: dropped messages
(O38, O44), passed requests (O35), census writes (O36) and refusals (O37). -/

namespace Sys2Proof.Machine.State

variable {s t : State}

/-! ## Reports (R174, R176) -/

/-- A flag with its capture. -/
theorem capture_raise (s : State) (f : EventFlag) (k : ErrKind) (tag : Option Nat) (a : Option Addr) (w : Option Nat) :
    (s.raise f).capture k tag a w = { s with mgmt := reported s.mgmt f.bit k tag a w } := by
  unfold State.capture reported
  split
  next h =>
    rw [if_pos (show s.mgmt.firstError.kind = .none from h)]
    rfl
  next h =>
    rw [if_neg (show ¬s.mgmt.firstError.kind = .none from h)]
    rfl

theorem protocolError_eq (s : State) (tag : Option Nat) (a : Option Addr) :
    s.protocolError tag a = { s with mgmt := reported s.mgmt 14 .protocol tag a none } := s.capture_raise ..

/-! ## Credits (R109) -/

theorem sendCredits_none (h : s.port.due = 0) : s.sendCredits = s := if_pos h

/-- A credit earned in a step that owes none, while the link is up: sent at once with the intake OPEN, owed otherwise. -/
theorem sendCredits_earnCredit (hup : s.port.up = true) (hdue : s.port.due = 0) : s.earnCredit.sendCredits = { s with
    port := { s.port with
      credits := if s.port.intake = .opened then s.port.credits + 1 else s.port.credits
      owed := if s.port.intake = .opened then s.port.owed else s.port.owed + 1
      sent := s.port.sent ++ if s.port.intake = .opened then [.credit 1] else [] } } := by
  by_cases ho : s.port.intake = .opened
  · rw [earnCredit_opened hup ho, if_pos ho, if_pos ho, if_pos ho]
    unfold State.sendCredits
    rw [if_neg (by simp)]
    simp [State.setPort, hdue]
  · have hearn : s.earnCredit = s.setPort { s.port with owed := s.port.owed + 1 } := by
      unfold State.earnCredit
      rw [if_neg (by simp [hup]), if_neg ho]
    rw [hearn, if_neg ho, if_neg ho, if_neg ho, sendCredits_none (s := s.setPort { s.port with owed := s.port.owed + 1 }) hdue,
      List.append_nil]
    rfl

/-! ## A message that is dropped (R110) -/

section
variable {a : Arrival} (hup : s.port.up = true)
include hup

theorem arrive_overrun (h : s.port.credits = 0) :
    s.arrive a = { s with mgmt := reported s.mgmt 14 .protocol (capturedTag a.tag) (some a.address) none } := by
  unfold State.arrive
  dsimp only
  rw [if_neg (by simp [hup]), if_pos h, protocolError_eq]

theorem arrive_dropped (hcredit : 0 < s.port.credits) (hdue : s.port.due = 0)
    (h : 128 ≤ a.tag.toNat ∨ (s.entry a.tag.toNat).state ≠ .free) : s.arrive a = { s with
      port := { s.port with
        credits := if s.port.intake = .opened then s.port.credits else s.port.credits - 1
        owed := if s.port.intake = .opened then s.port.owed else s.port.owed + 1
        sent := s.port.sent ++ if s.port.intake = .opened then [.credit 1] else [] }
      mgmt := reported s.mgmt 14 .protocol (capturedTag a.tag) (some a.address) none } := by
  unfold State.arrive
  dsimp only
  rw [if_neg (by simp [hup]), if_neg hcredit.ne']
  refine (if_pos h).trans ?_
  rw [protocolError_eq]
  refine (sendCredits_earnCredit (by exact hup) (by exact hdue)).trans ?_
  dsimp only [setPort]
  rw [Nat.sub_add_cancel hcredit]
  rfl

end

end Sys2Proof.Machine.State

namespace Sys2Proof.Proofs

open Sys2Proof.Machine Sys2Proof.Machine.State

/-- A READ or WRITE command is an arrival with its tag and address. -/
theorem exec_request {tag : Byte} {len : BitVec 2} {addr : Addr} {payload : List Byte} {masks : List (BitVec 64)}
    {data : List Byte} {c : Instr} (hc : c ∈ [Instr.read tag len addr payload, .write tag len addr masks data]) (s : State) :
    ∃ a : Arrival, exec c s = .next (s.arrive a) ∧ a.tag = tag ∧ a.address = addr := by
  obtain rfl | hc := List.mem_cons.1 hc
  · exact ⟨_, rfl, rfl, rfl⟩
  · obtain rfl := List.mem_singleton.1 hc
    exact ⟨_, rfl, rfl, rfl⟩

/-- Settles O38: the arrival's first three tests. -/
theorem overrunsAndDuplicatesAreDropped : Obligations.OverrunsAndDuplicatesAreDropped := by
  intro s tag len addr payload masks data c hc hup hdue
  obtain ⟨a, hexec, rfl, rfl⟩ := exec_request hc s
  rw [hexec]
  refine ⟨fun h => by rw [arrive_overrun hup h]; rfl, fun hcredit h => ?_⟩
  rw [arrive_dropped hup hcredit hdue h]
  refine ⟨fun ho => ?_, fun ho => ?_⟩
  · rw [if_pos ho, if_pos ho, if_pos ho]
    rfl
  · rw [if_neg ho, if_neg ho, if_neg ho, List.append_nil]
    rfl

/-- Settles O44: the link of the port decides whether the message is received. -/
theorem misdirectedAndUnknownMessages : Obligations.MisdirectedAndUnknownMessages := by
  have hreceived {b : Bool} (hb : b = true) (s : State) :
      (if b = false then Host.Outcome.next (φ := Fault) (ρ := Refusal) s
        else Host.Outcome.next (s.protocolError none none)) =
      Host.Outcome.next { s with mgmt := reported s.mgmt 14 .protocol none none none } := by
    rw [if_neg (by simp [hb]), protocolError_eq]
  exact fun s ty => ⟨fun hup => ⟨hreceived hup s, hreceived hup s⟩, fun hup => ⟨hreceived hup s, hreceived hup s⟩,
    fun hdown => ⟨if_pos hdown, if_pos hdown⟩, fun hdown => ⟨if_pos hdown, if_pos hdown⟩⟩

end Sys2Proof.Proofs
end

section
/-! The end of a step that completes an entry or leaves one busy, the issue of an entry, and an accepted request up to its
class: passed requests (O35). -/

namespace Sys2Proof.Machine.State

variable {s t : State} {n : Nat}

/-! ## The end of a step with an idle arbiter -/

/-- With a busy entry and no credit due, the step ends as it stands. -/
theorem finish_busy (hidle : s.ArbiterIdle) (hdue : s.port.due = 0) (hn : n < 128) (hbusy : (s.entry n).state ≠ .free) :
    s.finish = s := by
  rw [finish_eq hidle fun _ => emptyCondition_busy hn hbusy, sendCredits_none hdue]

theorem finish_idle (hidle : s.ArbiterIdle) : s.finish = s.checkIntake.sendCredits := by
  unfold State.finish State.arbitrate
  rw [arbitrateFrom_idle hidle]

/-- The intake's check as the port and the flags after it show it. -/
theorem checkIntake_eq (s : State) : s.checkIntake =
    { s with port := { s.port with intake := intakeAfter s s }, mgmt := quiesced s s s.mgmt } := by
  unfold State.checkIntake intakeAfter quiesced
  split
  · rfl
  · rfl

/-- The end of a step that has earned one credit. -/
theorem finish_earnCredit (hup : s.port.up = true) (hdue : s.port.due = 0) (hidle : s.ArbiterIdle) :
    s.earnCredit.finish = { s with port := credited s s [], mgmt := quiesced s s s.mgmt } := by
  by_cases ho : s.port.intake = .opened
  · have hclosing : ¬(s.port.intake = .closing ∧ s.emptyCondition = true) := by
      rw [ho]
      rintro ⟨h, -⟩
      cases h
    have hidle' : (s.setPort { s.port with due := s.port.due + 1 }).ArbiterIdle := ArbiterIdle.congr hidle rfl rfl rfl rfl rfl
    rw [earnCredit_opened hup ho, finish_idle hidle', checkIntake_not_closing]
    · unfold State.sendCredits credited quiesced intakeAfter
      rw [if_neg (by simp), if_pos ho, if_pos ho, if_pos ho, if_neg hclosing, if_neg hclosing]
      simp [State.setPort, hdue]
    · simp [ho]
  · have hearn : s.earnCredit = s.setPort { s.port with owed := s.port.owed + 1 } := by
      unfold State.earnCredit
      rw [if_neg (by simp [hup]), if_neg ho]
    have hidle' : (s.setPort { s.port with owed := s.port.owed + 1 }).ArbiterIdle := ArbiterIdle.congr hidle rfl rfl rfl rfl rfl
    have hempty : (s.setPort { s.port with owed := s.port.owed + 1 }).emptyCondition = s.emptyCondition :=
      emptyCondition_congr (fun _ => rfl) rfl rfl rfl rfl
    rw [hearn, finish_idle hidle', checkIntake_eq]
    refine (sendCredits_none (by exact hdue)).trans ?_
    unfold credited quiesced intakeAfter
    rw [hempty, if_neg ho, if_neg ho, if_neg ho, List.append_nil, List.append_nil]
    rfl

/-- The empty condition is the port's and the flags' own affair: a step's last part leaves it. -/
theorem credited_congr {m : List UpMessage} (h : t.emptyCondition = s.emptyCondition) (r : State) :
    credited r t m = credited r s m := by
  unfold credited intakeAfter
  rw [h]

theorem quiesced_congr {m : Mgmt} (h : t.emptyCondition = s.emptyCondition) (r : State) :
    quiesced r t m = quiesced r s m := by
  unfold quiesced
  rw [h]

/-! ## Completions (R106, R108, R109) -/

theorem complete_eq (hup : s.port.up = true) (hbusy : (s.entry n).state ≠ .free) (status : Status) (reason : Reason)
    (data : List Byte) : s.complete n status reason data = State.earnCredit { s with
      entries := s.entries.set .freed n .freed
      port := { s.port with sent := s.port.sent ++ [.completion n status reason data] }
      sweep := { s.sweep with drainSet := s.sweep.drainSet.filter (· != n) } } := by
  unfold State.complete
  rw [sendUp_up _ hup]
  exact freeEntry_busy hbusy

/-- The end of a step that has completed entry `n`. -/
theorem finish_complete (hup : s.port.up = true) (hdue : s.port.due = 0) (hidle : s.ArbiterIdle)
    (hbusy : (s.entry n).state ≠ .free) (status : Status) (reason : Reason) (data : List Byte) :
    ∃ t, (s.complete n status reason data).finish = t ∧ entriesAre s t n .freed ∧ t = { s with
      entries := t.entries
      port := credited s t [.completion n status reason data]
      sweep := { s.sweep with drainSet := s.sweep.drainSet.filter (· != n) }
      mgmt := quiesced s t s.mgmt } := by
  rw [complete_eq hup hbusy]
  generalize hu : ({ s with
    entries := s.entries.set .freed n .freed
    port := { s.port with sent := s.port.sent ++ [.completion n status reason data] }
    sweep := { s.sweep with drainSet := s.sweep.drainSet.filter (· != n) } } : State) = u
  have hupu : u.port.up = true := by rw [← hu]; exact hup
  have hdueu : u.port.due = 0 := by rw [← hu]; exact hdue
  have hidleu : u.ArbiterIdle := by rw [← hu]; exact ArbiterIdle.congr hidle rfl rfl rfl rfl rfl
  rw [finish_earnCredit hupu hdueu hidleu]
  have hempty : ({ u with port := credited u u [], mgmt := quiesced u u u.mgmt } : State).emptyCondition = u.emptyCondition :=
    emptyCondition_congr (fun _ => rfl) rfl rfl rfl rfl
  refine ⟨_, rfl, fun m => ?_, ?_⟩
  · subst hu
    exact Table.get_set ..
  · rw [credited_congr hempty, quiesced_congr hempty]
    subst hu
    unfold credited
    dsimp only
    rw [List.append_nil]
    rfl

/-! ## Issue (R112, R133) -/

/-- An entry as issued to address `a`. -/
def issuedAt (e : Entry) (a : Addr) : Entry :=
  { e with state := .issued, next := none, heldOn := none, deadline := none, issueAddress := a }

theorem issueTo_up (hmem : s.mem.up = true) (a : Addr) : s.issueTo n a = { s with
    entries := s.entries.set .freed n (issuedAt (s.entry n) a)
    tags := s.tags.set .idle n ⟨.queued, (s.entry n).kind, a, (s.entry n).lines, (s.entry n).masks, (s.entry n).data, 0,
      some (s.now + orMax s.mem.responseTimeout)⟩
    mem := { s.mem with takeList := s.mem.takeList ++ [n], sendQueue := s.mem.sendQueue ++ [n] } } := if_pos hmem

theorem issueTo_down (hmem : s.mem.up = false) (a : Addr) : s.issueTo n a =
    State.complete n .dataErr .linkDown [] { s with entries := s.entries.set .freed n (issuedAt (s.entry n) a) } := by
  refine (if_neg (by exact ne_true_of_eq_false hmem)).trans ?_
  have hentry : ((s.setEntry n (issuedAt (s.entry n) a)).entry n).state = .issued := by
    rw [show (s.setEntry n (issuedAt (s.entry n) a)).entry n = _ from Table.get_set_same ..]
    rfl
  show (s.setEntry n (issuedAt (s.entry n) a)).endEntry n .linkDown = _
  unfold State.endEntry
  rw [hentry]
  rfl

/-! ## Acceptance (R110) -/

/-- The state as a request accepted with class `c` and window `w` stands before its class is handled. -/
def admitted (s : State) (a : Arrival) (c : ReqClass) (w : Option Nat) : State :=
  { s with
    entries := s.entries.set .freed a.tag.toNat (a.entry (some c) w (s.classIndex c w (pageOf a.address)))
    port := arrived s.port }

theorem noteWork_eq (s : State) :
    s.noteWork = s.setPort { s.port with intake := if s.port.intake = .closed then .closing else s.port.intake } := by
  unfold State.noteWork
  split <;> rfl

section
variable {a : Arrival} {c : ReqClass} {w : Option Nat}

theorem arrive_accepted (h : s.Accepts a.tag a.len a.address) (hgood : a.payloadGood = true)
    (hcls : s.classify (pageOf a.address) = (c, w)) :
    s.arrive a = ((s.admitted a c w).handleClass a.tag.toNat).finish := by
  obtain ⟨hup, hcredit, htag, hfree, hform⟩ := h
  unfold State.arrive
  dsimp only
  rw [if_neg (by simp [hup]), if_neg hcredit.ne']
  refine (if_neg ?_).trans ((if_pos ⟨hform, hgood⟩).trans ?_)
  · rintro (h | h)
    · exact absurd htag (Nat.not_lt.2 h)
    · exact h hfree
  · unfold State.acceptRequest
    have hcls' : (s.setPort { s.port with credits := s.port.credits - 1 }).classify (pageOf a.address) = (c, w) := hcls
    dsimp only at hcls' ⊢
    rw [hcls', noteWork_eq]
    rfl

theorem admitted_entry (s : State) (m : Nat) : (s.admitted a c w).entry m =
    if m = a.tag.toNat then a.entry (some c) w (s.classIndex c w (pageOf a.address)) else s.entry m := Table.get_set ..

theorem admitted_entry_self (s : State) : (s.admitted a c w).entry a.tag.toNat =
    a.entry (some c) w (s.classIndex c w (pageOf a.address)) := Table.get_set_same ..

theorem admitted_settled (h : s.Settled) : (s.admitted a c w).ArbiterIdle ∧ (s.admitted a c w).port.due = 0 :=
  ⟨ArbiterIdle.congr h.arbiter rfl rfl rfl rfl rfl, h.due⟩

end

/-- Only a window's page has a window, and a page of a window the class of its mode. -/
theorem classify_window {page : Nat} {c : ReqClass} {w : Option Nat} (h : s.classify page = (c, w)) :
    w = none ∨ ∃ m : Mode, c = m.toClass := by
  unfold State.classify at h
  split at h
  · cases h
    exact .inl rfl
  · split at h
    · cases h
      exact .inl rfl
    · split at h
      · cases h
        exact .inl rfl
      · cases h
        exact .inr ⟨_, rfl⟩

theorem countRequest_eq (k : ReqKind) (w : Option Nat) (s : State) :
    s.countRequest k w = { s with activity := counted s w (oneMore k) } := by
  cases k <;> cases w <;> rfl

end Sys2Proof.Machine.State
end

section
/-! Passed requests (O35), census writes (O36) and refusals at acceptance (O37). -/

namespace Sys2Proof.Machine.State

variable {s : State} {n : Nat} {e : Entry}

/-! ## The classes (R4 to R7, R15) -/

/-- A request that passes at once is counted in its window and issued. -/
theorem handleClass_passes {c : ReqClass} (he : s.entry n = e) (hc : e.cls = some c)
    (h : (e.kind = .read ∧ c ∈ [ReqClass.passThrough, .pass, .unwindowed, .fence, .census]) ∨
      (e.kind = .write ∧ c ∈ [ReqClass.passThrough, .pass, .unwindowed]))
    (hw : e.window = none ∨ ∃ m : Mode, c = m.toClass) :
    s.handleClass n = (s.countRequest e.kind e.window).issue n := by
  unfold State.handleClass
  dsimp only
  rw [he, hc]
  have hnone : c = .passThrough ∨ c = .unwindowed → e.window = none := by
    rintro (rfl | rfl)
    · exact hw.resolve_right fun ⟨m, hm⟩ => by cases m <;> cases hm
    · exact hw.resolve_right fun ⟨m, hm⟩ => by cases m <;> cases hm
  obtain ⟨hk, hmem⟩ | ⟨hk, hmem⟩ := h
  · rw [hk]
    simp only [List.mem_cons, List.not_mem_nil, or_false] at hmem
    obtain rfl | rfl | rfl | rfl | rfl := hmem
    · rw [hnone (.inl rfl)]
      rfl
    · rfl
    · rw [hnone (.inr rfl)]
      rfl
    · rfl
    · rfl
  · rw [hk]
    simp only [List.mem_cons, List.not_mem_nil, or_false] at hmem
    obtain rfl | rfl | rfl := hmem
    · rw [hnone (.inl rfl)]
      rfl
    · rfl
    · rw [hnone (.inr rfl)]
      rfl

/-- The state as a request that passes is issued: admitted and counted. -/
def passed (s : State) (a : Arrival) (c : ReqClass) (w : Option Nat) : State :=
  { s.admitted a c w with activity := counted s w (oneMore a.kind) }

theorem handleClass_passed {a : Arrival} {c : ReqClass} {w : Option Nat} (hcls : s.classify (pageOf a.address) = (c, w))
    (h : (a.kind = .read ∧ c ∈ [ReqClass.passThrough, .pass, .unwindowed, .fence, .census]) ∨
      (a.kind = .write ∧ c ∈ [ReqClass.passThrough, .pass, .unwindowed])) :
    (s.admitted a c w).handleClass a.tag.toNat = (s.passed a c w).issueTo a.tag.toNat a.address := by
  rw [handleClass_passes (admitted_entry_self s) rfl h (classify_window hcls), countRequest_eq, State.issue]
  have haddress : ((s.passed a c w).entry a.tag.toNat).address = a.address := by
    rw [show (s.passed a c w).entry a.tag.toNat = _ from admitted_entry_self s]
    rfl
  exact congrArg (State.issueTo a.tag.toNat · (s.passed a c w)) haddress

/-! ## The issue as a step's last act (R112, R133) -/

theorem entry_of_set {t : State} {entries : Table Entry} (h : t.entries = entries.set .freed n e) (m : Nat) :
    t.entry m = if m = n then e else entries.get .freed m := by
  unfold State.entry
  rw [h]
  exact Table.get_set ..

theorem busy_of_issued {t : State} {entries : Table Entry} {a : Addr}
    (h : t.entries = entries.set .freed n (issuedAt e a)) : (t.entry n).state ≠ .free := by
  rw [entry_of_set h, if_pos rfl]
  exact nofun

section
variable (hidle : s.ArbiterIdle) (hdue : s.port.due = 0) (he : s.entry n = e)
include hidle hdue he

/-- With the memory-port link up the entry is issued, and busy. -/
theorem finish_issueTo_up (hmem : s.mem.up = true) (hn : n < 128) (a : Addr) : (s.issueTo n a).finish = { s with
    entries := s.entries.set .freed n (issuedAt e a)
    tags := s.tags.set .idle n ⟨.queued, e.kind, a, e.lines, e.masks, e.data, 0, some (s.now + orMax s.mem.responseTimeout)⟩
    mem := { s.mem with takeList := s.mem.takeList ++ [n], sendQueue := s.mem.sendQueue ++ [n] } } := by
  rw [issueTo_up hmem, he]
  exact finish_busy (ArbiterIdle.congr hidle rfl rfl rfl rfl rfl) (by exact hdue) hn (busy_of_issued rfl)

/-- With the memory-port link down it is completed at once. -/
theorem finish_issueTo_down (hmem : s.mem.up = false) (hup : s.port.up = true) (a : Addr) :
    ∃ t, (s.issueTo n a).finish = t ∧ entriesAre s t n .freed ∧ t = { s with
      entries := t.entries
      port := credited s t [.completion n .dataErr .linkDown []]
      sweep := { s.sweep with drainSet := s.sweep.drainSet.filter (· != n) }
      mgmt := quiesced s t s.mgmt } := by
  rw [issueTo_down hmem, he]
  obtain ⟨t, hfinish, hentries, ht⟩ := finish_complete (s := { s with entries := s.entries.set .freed n (issuedAt e a) })
    (n := n) hup hdue (ArbiterIdle.congr hidle rfl rfl rfl rfl rfl)
    (busy_of_issued rfl) .dataErr .linkDown []
  refine ⟨t, hfinish, fun m => ?_, ht⟩
  rw [hentries]
  split
  · rfl
  next hne => exact Table.get_set_other _ _ _ hne

end

end Sys2Proof.Machine.State

namespace Sys2Proof.Proofs

open Sys2Proof.Machine Sys2Proof.Machine.State

/-- The arrival of a request of kind `k`. -/
def arrivalOf (k : ReqKind) (tag : Byte) (len : BitVec 2) (addr : Addr) (masks : List (BitVec 64)) (data : List Byte) :
    Arrival :=
  match k with
  | .read => ⟨tag, .read, len, addr, [], [], true⟩
  | .write => ⟨tag, .write, len, addr, masks, data, payloadOk len masks data⟩

theorem exec_request_eq (k : ReqKind) (tag : Byte) (len : BitVec 2) (addr : Addr) (masks : List (BitVec 64))
    (data : List Byte) (s : State) :
    exec (request k tag len addr masks data) s = .next (s.arrive (arrivalOf k tag len addr masks data)) := by
  cases k <;> rfl

/-- Settles O35: the count, the issue, and with the memory-port link down the completion. -/
theorem passedRequestsAreIssuedAtOnce : Obligations.PassedRequestsAreIssuedAtOnce := by
  intro s tag len addr c w k masks data haccepts hsettled hcls hkind
  have htag : tag.toNat < 128 := haccepts.2.2.1
  generalize ha : arrivalOf k tag len addr masks data = a
  have hentry : (a.kind = k ∧ a.masks = masks ∧ a.data = data ∧ a.payloadGood = true) ∧ a.tag = tag ∧ a.len = len ∧
      a.address = addr := by
    subst ha
    obtain ⟨rfl, rfl, rfl, -⟩ | ⟨rfl, hgood, -⟩ := hkind
    · exact ⟨⟨rfl, rfl, rfl, rfl⟩, rfl, rfl, rfl⟩
    · exact ⟨⟨rfl, rfl, rfl, hgood⟩, rfl, rfl, rfl⟩
  obtain ⟨⟨rfl, rfl, rfl, hgood⟩, rfl, rfl, rfl⟩ := hentry
  rw [exec_request_eq, ha, arrive_accepted haccepts hgood hcls,
    handleClass_passed hcls (hkind.imp (fun ⟨hk, _, _, hc⟩ => ⟨hk, hc⟩) fun ⟨hk, _, hc⟩ => ⟨hk, hc⟩)]
  have hself := admitted_entry_self (a := a) (c := c) (w := w) s
  have hidle : (s.passed a c w).ArbiterIdle := ArbiterIdle.congr hsettled.arbiter rfl rfl rfl rfl rfl
  refine ⟨fun hmem => ?_, fun hmem => ?_⟩
  · rw [finish_issueTo_up (s := s.passed a c w) hidle hsettled.due hself hmem htag]
    refine ⟨_, rfl, fun m => ?_, rfl⟩
    refine (Table.get_set (s.passed a c w).entries .freed _ _ m).trans ?_
    split
    · rfl
    next hne => exact Table.get_set_other _ _ _ hne
  · obtain ⟨t, hfinish, hentries, ht⟩ :=
      finish_issueTo_down (s := s.passed a c w) hidle hsettled.due hself hmem haccepts.1 a.address
    refine ⟨t, congrArg _ hfinish, fun m => ?_, ht⟩
    rw [hentries]
    split
    · rfl
    next hne => exact Table.get_set_other _ _ _ hne

end Sys2Proof.Proofs
end

section
/-! Census writes (O36) and refusals at acceptance (O37). -/

namespace Sys2Proof.Machine.State

variable {s : State} {n : Nat} {e : Entry}

/-! ## Refusals (R5, R7, R75, R110) -/

theorem countRunning_eq (f : Counts → Counts) (w : Option Nat) (s : State) :
    s.countRunning f w = { s with activity := counted s w f } := by
  cases w <;> rfl

/-- The end of a step that has refused entry `n`. -/
theorem finish_refuse (he : s.entry n = e) (hbusy : e.state ≠ .free) (hup : s.port.up = true) (hdue : s.port.due = 0)
    (hidle : s.ArbiterIdle) (reason : Reason) : ∃ t, (s.refuse n reason).finish = t ∧ entriesAre s t n .freed ∧ t = { s with
      entries := t.entries
      port := credited s t [.completion n .refused reason []]
      sweep := { s.sweep with drainSet := s.sweep.drainSet.filter (· != n) }
      activity := counted s e.window fun c => { c with refusals := satInc c.refusals }
      mgmt := quiesced s t s.mgmt } := by
  unfold State.refuse State.countRefusal
  rw [countRunning_eq, he]
  have hbusy' : (s.entry n).state ≠ .free := by rw [he]; exact hbusy
  exact finish_complete (s := { s with activity := counted s e.window fun c => { c with refusals := satInc c.refusals } })
    hup hdue (ArbiterIdle.congr hidle rfl rfl rfl rfl rfl) hbusy' .refused reason []

/-- The end of a step that has reported a flag with a capture of entry `n` and refused it. -/
theorem finish_reported_refuse (he : s.entry n = e) (hbusy : e.state ≠ .free) (hup : s.port.up = true)
    (hdue : s.port.due = 0) (hidle : s.ArbiterIdle) (reason : Reason) (m : Mgmt) :
    ∃ t, (State.refuse n reason { s with mgmt := m }).finish = t ∧ entriesAre s t n .freed ∧ t = { s with
      entries := t.entries
      port := credited s t [.completion n .refused reason []]
      sweep := { s.sweep with drainSet := s.sweep.drainSet.filter (· != n) }
      activity := counted s e.window fun c => { c with refusals := satInc c.refusals }
      mgmt := quiesced s t m } :=
  finish_refuse (s := { s with mgmt := m }) he hbusy hup hdue (ArbiterIdle.congr hidle rfl rfl rfl rfl rfl) reason

theorem refuseNow_eq (he : s.entry n = e) (f : EventFlag) (reason : Reason) : s.refuseNow n f reason =
    State.refuse n reason { s with mgmt := reported s.mgmt f.bit .refusal (some n) (some e.address) e.window } := by
  unfold State.refuseNow State.captureEntry
  rw [capture_raise, raise_entry, he]

theorem handleClass_pool (he : s.entry n = e) (hc : e.cls = some .pool) : s.handleClass n = s.refuseNow n .poolAccess .pool := by
  unfold State.handleClass
  dsimp only
  rw [he, hc]

theorem handleClass_fenceWrite (he : s.entry n = e) (hc : e.cls = some .fence) (hk : e.kind = .write) :
    s.handleClass n = s.refuseNow n .fenceRefused .fence := by
  unfold State.handleClass
  dsimp only
  rw [he, hc, hk]

/-! ## A malformed request (R110, test 4) -/

/-- The state as a malformed request stands before it is refused. -/
def admittedMalformed (s : State) (a : Arrival) : State :=
  { s with entries := s.entries.set .freed a.tag.toNat (a.entry none none none), port := arrived s.port }

theorem admittedMalformed_entry {a : Arrival} (s : State) (m : Nat) : (s.admittedMalformed a).entry m =
    if m = a.tag.toNat then a.entry none none none else s.entry m := Table.get_set ..

theorem arrive_malformed {a : Arrival} (hup : s.port.up = true) (hcredit : 0 < s.port.credits) (htag : a.tag.toNat < 128)
    (hfree : (s.entry a.tag.toNat).state = .free) (hform : ¬(formOk a.len a.address = true ∧ a.payloadGood = true)) :
    s.arrive a = (State.refuse a.tag.toNat .protocol { s.admittedMalformed a with
      mgmt := reported s.mgmt 14 .protocol (some a.tag.toNat) (some a.address) none }).finish := by
  unfold State.arrive
  dsimp only
  rw [if_neg (by simp [hup]), if_neg hcredit.ne']
  refine (if_neg ?_).trans ((if_neg hform).trans ?_)
  · rintro (h | h)
    · exact absurd htag (Nat.not_lt.2 h)
    · exact h hfree
  · unfold State.acceptMalformed
    rw [noteWork_eq, protocolError_eq]
    rfl

theorem entriesAre_of_set {t u : State} {v : Entry} (hu : ∀ m, u.entry m = if m = n then e else s.entry m)
    (h : entriesAre u t n v) : entriesAre s t n v := by
  intro m
  rw [h m]
  split
  · rfl
  next hne => rw [hu, if_neg hne]

end Sys2Proof.Machine.State

namespace Sys2Proof.Proofs

open Sys2Proof.Machine Sys2Proof.Machine.State

section
variable {s : State} {a : Arrival}

/-- The end of a step that refuses a request of class `c` at acceptance. -/
theorem arrive_refused {c : ReqClass} {w : Option Nat} {f : EventFlag} {reason : Reason} (hsettled : s.Settled)
    (haccepts : s.Accepts a.tag a.len a.address) (hgood : a.payloadGood = true)
    (hcls : s.classify (pageOf a.address) = (c, w))
    (hhandle : (s.admitted a c w).handleClass a.tag.toNat = (s.admitted a c w).refuseNow a.tag.toNat f reason) :
    ∃ t, s.arrive a = t ∧ refusedAtOnce s t a.tag.toNat reason
        (reported s.mgmt f.bit .refusal (some a.tag.toNat) (some a.address) w)
        (counted s w fun c => { c with refusals := satInc c.refusals }) := by
  have hself := admitted_entry_self (a := a) (c := c) (w := w) s
  obtain ⟨hidle, hdue⟩ := admitted_settled (a := a) (c := c) (w := w) hsettled
  rw [arrive_accepted haccepts hgood hcls, hhandle, refuseNow_eq hself]
  obtain ⟨t, hfinish, hentries, ht⟩ := finish_reported_refuse hself nofun haccepts.1 hdue hidle reason
    (reported s.mgmt f.bit .refusal (some a.tag.toNat) (some a.address) w)
  exact ⟨t, hfinish, entriesAre_of_set (admitted_entry s) hentries, ht⟩

/-- The end of a step that refuses a malformed request. -/
theorem arrive_malformed_refused (hsettled : s.Settled) (hup : s.port.up = true) (hcredit : 0 < s.port.credits)
    (htag : a.tag.toNat < 128) (hfree : (s.entry a.tag.toNat).state = .free)
    (hform : ¬(formOk a.len a.address = true ∧ a.payloadGood = true)) :
    ∃ t, s.arrive a = t ∧ refusedAtOnce s t a.tag.toNat .protocol
      (reported s.mgmt 14 .protocol (some a.tag.toNat) (some a.address) none) s.activity := by
  have hself : (s.admittedMalformed a).entry a.tag.toNat = a.entry none none none := Table.get_set_same ..
  have hidle : (s.admittedMalformed a).ArbiterIdle := ArbiterIdle.congr hsettled.arbiter rfl rfl rfl rfl rfl
  rw [arrive_malformed hup hcredit htag hfree hform]
  obtain ⟨t, hfinish, hentries, ht⟩ := finish_reported_refuse hself nofun hup hsettled.due hidle .protocol
    (reported s.mgmt 14 .protocol (some a.tag.toNat) (some a.address) none)
  exact ⟨t, hfinish, entriesAre_of_set (admittedMalformed_entry s) hentries, ht⟩

end

/-- Settles O37: the pool, the FENCE window and the form of a request, each refused at acceptance. -/
theorem requestsAreRefusedAtAcceptance : Obligations.RequestsAreRefusedAtAcceptance := by
  intro s tag len addr payload masks data hsettled hup hcredit htag hfree
  have haccepts (hform : formOk len addr = true) : s.Accepts tag len addr := ⟨hup, hcredit, htag, hfree, hform⟩
  refine ⟨fun hform hpool => ?_, fun w hform hgood hcls => ?_, fun hform => ?_, fun hform => ?_⟩
  · obtain ⟨w, hcls⟩ : ∃ w, s.classify (pageOf addr) = (.pool, w) := ⟨_, Prod.ext hpool rfl⟩
    obtain rfl : w = none := (classify_window hcls).resolve_right fun ⟨m, hm⟩ => by cases m <;> cases hm
    refine ⟨?_, fun hgood => ?_⟩
    · obtain ⟨t, ht, hrefused⟩ := arrive_refused (a := ⟨tag, .read, len, addr, [], [], true⟩) hsettled (haccepts hform)
        rfl hcls (handleClass_pool (admitted_entry_self s) rfl)
      exact ⟨t, congrArg _ ht, hrefused⟩
    · obtain ⟨t, ht, hrefused⟩ := arrive_refused (a := ⟨tag, .write, len, addr, masks, data, payloadOk len masks data⟩)
        hsettled (haccepts hform) hgood hcls (handleClass_pool (admitted_entry_self s) rfl)
      exact ⟨t, congrArg _ ht, hrefused⟩
  · obtain ⟨t, ht, hrefused⟩ := arrive_refused (a := ⟨tag, .write, len, addr, masks, data, payloadOk len masks data⟩)
      hsettled (haccepts hform) hgood hcls (handleClass_fenceWrite (admitted_entry_self s) rfl rfl)
    exact ⟨t, congrArg _ ht, hrefused⟩
  · obtain ⟨t, ht, hrefused⟩ := arrive_malformed_refused (a := ⟨tag, .read, len, addr, [], [], payload.isEmpty⟩) hsettled
      hup hcredit htag hfree (by
        rintro ⟨hok, hempty⟩
        obtain hbad | hbad := hform
        · exact absurd (hok.symm.trans hbad) (by decide)
        · exact hbad (List.isEmpty_iff.1 hempty))
    exact ⟨t, congrArg _ ht, hrefused⟩
  · obtain ⟨t, ht, hrefused⟩ := arrive_malformed_refused
      (a := ⟨tag, .write, len, addr, masks, data, payloadOk len masks data⟩) hsettled hup hcredit htag hfree (by
        rintro ⟨hok, hgood⟩
        obtain hbad | hbad := hform
        · exact absurd (hok.symm.trans hbad) (by decide)
        · exact absurd (hgood.symm.trans hbad) (by decide))
    exact ⟨t, congrArg _ ht, hrefused⟩

end Sys2Proof.Proofs
end

section
/-! Census writes (O36): the touch, and the issue. -/

namespace Sys2Proof.Machine.State

variable {s : State} {n p w : Nat} {e : Entry}

theorem get_set_set (entries : Table Entry) (n m : Nat) (x y : Entry) :
    ((entries.set .freed n x).set .freed n y).get .freed m = if m = n then y else entries.get .freed m := by
  rw [Table.get_set, Table.get_set]
  split <;> rfl

/-- With the memory-port link up an entry issued to its own address is busy at the step's end. -/
theorem finish_issue_up (hidle : s.ArbiterIdle) (hdue : s.port.due = 0) (he : s.entry n = e) (hmem : s.mem.up = true)
    (hn : n < 128) : (s.issue n).finish = { s with
    entries := s.entries.set .freed n (issuedAt e e.address)
    tags := s.tags.set .idle n
      ⟨.queued, e.kind, e.address, e.lines, e.masks, e.data, 0, some (s.now + orMax s.mem.responseTimeout)⟩
    mem := { s.mem with takeList := s.mem.takeList ++ [n], sendQueue := s.mem.sendQueue ++ [n] } } := by
  rw [State.issue, he]
  exact finish_issueTo_up hidle hdue he hmem hn e.address

theorem handleClass_censusWrite (he : s.entry n = e) (hc : e.cls = some .census) (hk : e.kind = .write)
    (hp : e.pst = some p) : s.handleClass n = (s.censusWrite n p e.window).issue n := by
  unfold State.handleClass
  dsimp only
  rw [he, hc, hk, hp]

theorem slot_congr {t : State} (h : t.slots = s.slots) : t.slot = s.slot := by
  unfold State.slot
  rw [h]

theorem latest_congr {t : State} (h : t.slot = s.slot) (l : List Nat) : t.latest l = s.latest l := by
  induction l with
  | nil => rfl
  | cons i l ih =>
    unfold State.latest
    rw [ih, h]

/-- The effective mark of a stamp reads the slots alone. -/
theorem effective_congr {t : State} (h : t.slots = s.slots) (q : Seq) : t.effective q = s.effective q := by
  unfold State.effective State.liveSlots
  rw [latest_congr (slot_congr h), slot_congr h]

theorem stampNow_congr {t : State} (h : t.slots = s.slots) : t.stampNow = s.stampNow := by
  unfold State.stampNow State.newestLive State.liveSlots
  rw [latest_congr (slot_congr h), slot_congr h]

/-- A census write stamped and counted, before its touch. -/
def censusCounted (s : State) (n w : Nat) (e : Entry) : State :=
  { s with
    entries := s.entries.set .freed n { e with stamp := s.stampNow }
    activity := s.activity.set .zero w
      { s.act w with running := { (s.act w).running with writes := satInc (s.act w).running.writes } } }

theorem censusWrite_eq (he : s.entry n = e) : s.censusWrite n p (some w) =
    match s.effective s.stampNow with
    | none => s.censusCounted n w e
    | some q =>
      if (s.page p).touch = (s.slot q).seq then s.censusCounted n w e
      else ((s.censusCounted n w e).setPage p { s.page p with touch := (s.slot q).seq }).countPreserve (some w) := by
  have hcounted : (s.setEntry n { s.entry n with stamp := s.stampNow }).countWrite (some w) = s.censusCounted n w e := by
    rw [he]
    rfl
  have hstamp : ((s.censusCounted n w e).entry n).stamp = s.stampNow := by
    rw [show (s.censusCounted n w e).entry n = _ from Table.get_set_same ..]
  unfold State.censusWrite
  dsimp only
  rw [hcounted, hstamp, effective_congr (show (s.censusCounted n w e).slots = s.slots from rfl)]
  rfl

theorem censusWrite_spec (he : s.entry n = e) : ∃ activity pst, s.censusWrite n p (some w) = { s with
      entries := s.entries.set .freed n { e with stamp := s.stampNow }, activity := activity, pst := pst } ∧
    (∀ v, v ≠ w → activity.get .zero v = s.act v) ∧ (∀ j, j ≠ p → pst.get .clear j = s.page j) ∧
    (∀ q, s.effective s.stampNow = some q → (s.page p).touch ≠ (s.slot q).seq →
      pst.get .clear p = { s.page p with touch := (s.slot q).seq } ∧
      activity.get .zero w = { s.act w with running := { (s.act w).running with
        writes := satInc (s.act w).running.writes, preserves := satInc (s.act w).running.preserves } }) ∧
    (s.effective s.stampNow = none ∨ (∃ q, s.effective s.stampNow = some q ∧ (s.page p).touch = (s.slot q).seq) →
      pst.get .clear p = s.page p ∧
      activity.get .zero w = { s.act w with running := { (s.act w).running with
        writes := satInc (s.act w).running.writes } }) := by
  have hact (a : Activity) (v : Nat) : (s.activity.set .zero w a).get .zero v = if v = w then a else s.act v :=
    Table.get_set ..
  rw [censusWrite_eq he]
  by_cases htouch : ∃ q, s.effective s.stampNow = some q ∧ (s.page p).touch ≠ (s.slot q).seq
  · obtain ⟨q, hq, hne⟩ := htouch
    rw [hq]
    dsimp only
    rw [if_neg hne]
    refine ⟨_, _, rfl, fun v hv => ?_, fun j hj => Table.get_set_other _ _ _ hj, fun q' hq' _ => ?_, ?_⟩
    · exact (Table.get_set_other _ _ _ hv).trans ((hact _ v).trans (if_neg hv))
    · obtain rfl := Option.some.inj hq'
      refine ⟨Table.get_set_same .., (Table.get_set_same ..).trans ?_⟩
      have hself : (((s.censusCounted n w e).setPage p { s.page p with touch := (s.slot q).seq }).act w) = _ :=
        Table.get_set_same ..
      rw [hself]
    · rintro (hnone | ⟨q', hq', heq⟩)
      · cases hnone
      · obtain rfl := Option.some.inj hq'
        exact absurd heq hne
  · have hsame : (match s.effective s.stampNow with
        | none => s.censusCounted n w e
        | some q =>
          if (s.page p).touch = (s.slot q).seq then s.censusCounted n w e
          else ((s.censusCounted n w e).setPage p { s.page p with touch := (s.slot q).seq }).countPreserve (some w)) =
        s.censusCounted n w e := by
      split
      · rfl
      next q hq => exact if_pos (by_contra fun hne => htouch ⟨q, hq, hne⟩)
    rw [hsame]
    refine ⟨_, _, rfl, fun v hv => (hact _ v).trans (if_neg hv), fun j _ => rfl,
      fun q hq hne => absurd ⟨q, hq, hne⟩ htouch, fun _ => ⟨rfl, (hact _ w).trans (if_pos rfl)⟩⟩

end Sys2Proof.Machine.State

namespace Sys2Proof.Proofs

open Sys2Proof.Machine Sys2Proof.Machine.State

/-- A census write as it is accepted: stamped, counted, a touch or none, and issued. -/
theorem arrive_census {s : State} {a : Arrival} {w p : Nat} (haccepts : s.Accepts a.tag a.len a.address)
    (hsettled : s.Settled) (hmem : s.mem.up = true) (hgood : a.payloadGood = true) (hk : a.kind = .write)
    (hcls : s.classify (pageOf a.address) = (.census, some w)) (hp : s.pstIndex w (pageOf a.address) = p) :
    ∃ t, s.arrive a = t ∧
      entriesAre s t a.tag.toNat (issuedEntry a.kind a.address (lenLines a.len) a.masks a.data .census (some w) (some p)
        s.stampNow a.address) ∧
      t = { issued s t a.tag.toNat (issuedEntry a.kind a.address (lenLines a.len) a.masks a.data .census (some w) (some p)
          s.stampNow a.address) with
        port := arrived s.port, activity := t.activity, pst := t.pst } ∧
      (∀ v, v ≠ w → t.act v = s.act v) ∧
      (∀ j, j ≠ p → t.page j = s.page j) ∧
      (∀ q, s.effective s.stampNow = some q → (s.page p).touch ≠ (s.slot q).seq →
        t.page p = { s.page p with touch := (s.slot q).seq } ∧
        t.act w = { s.act w with running := { (s.act w).running with
          writes := satInc (s.act w).running.writes, preserves := satInc (s.act w).running.preserves } }) ∧
      (s.effective s.stampNow = none ∨ (∃ q, s.effective s.stampNow = some q ∧ (s.page p).touch = (s.slot q).seq) →
        t.page p = s.page p ∧
        t.act w = { s.act w with running := { (s.act w).running with writes := satInc (s.act w).running.writes } }) := by
  have htag : a.tag.toNat < 128 := haccepts.2.2.1
  have hself := admitted_entry_self (a := a) (c := .census) (w := some w) s
  have hindex : s.classIndex .census (some w) (pageOf a.address) = some p := congrArg some hp
  rw [hindex] at hself
  obtain ⟨hidle, hdue⟩ := admitted_settled (a := a) (c := .census) (w := some w) hsettled
  obtain ⟨activity, pst, hcensus, hact, hpage, htouch, hsame⟩ := censusWrite_spec (p := p) (w := w) hself
  have hslots : (s.admitted a .census (some w)).slots = s.slots := rfl
  rw [stampNow_congr hslots] at hcensus htouch hsame
  rw [effective_congr hslots] at htouch hsame
  rw [arrive_accepted haccepts hgood hcls, handleClass_censusWrite (p := p) hself rfl hk rfl,
    show (a.entry (some .census) (some w) (some p)).window = some w from rfl, hcensus]
  generalize hu : ({ s.admitted a .census (some w) with
    entries := (s.admitted a .census (some w)).entries.set .freed a.tag.toNat
      { a.entry (some .census) (some w) (some p) with stamp := s.stampNow }
    activity := activity, pst := pst } : State) = u
  have heu : u.entry a.tag.toNat = { a.entry (some .census) (some w) (some p) with stamp := s.stampNow } := by
    rw [← hu]
    exact Table.get_set_same ..
  rw [finish_issue_up (by rw [← hu]; exact ArbiterIdle.congr hidle rfl rfl rfl rfl rfl) (by rw [← hu]; exact hdue)
    heu (by rw [← hu]; exact hmem) htag]
  subst hu
  refine ⟨_, rfl, fun m => ?_, ?_, hact, hpage, htouch, hsame⟩
  · refine (get_set_set (s.admitted a .census (some w)).entries a.tag.toNat m _ _).trans ?_
    split
    · rfl
    next hne => exact (admitted_entry s m).trans (if_neg hne)
  · rfl

/-- Settles O36: the write is stamped, counted and issued, and touches its page where the stamps differ. -/
theorem censusWritesCountTouches : Obligations.CensusWritesCountTouches := by
  intro s tag len addr masks data w p haccepts hsettled hmem hgood hcls hp
  obtain ⟨t, ht, hspec⟩ := arrive_census (a := ⟨tag, .write, len, addr, masks, data, payloadOk len masks data⟩) haccepts
    hsettled hmem hgood rfl hcls hp
  exact ⟨t, congrArg _ ht, hspec⟩

end Sys2Proof.Proofs
end

section
/-! The memory port (07): link ups and credits (O46), sending and retries (O47), and the answers to transaction entries'
requests (O48). -/

namespace Sys2Proof.Machine.State

variable {s : State} {n : Nat}

/-! ## Freeing an entry as a step's last act (R108, R109) -/

theorem freeEntry_eq (hbusy : (s.entry n).state ≠ .free) : s.freeEntry n = State.earnCredit { s with
    entries := s.entries.set .freed n .freed
    sweep := { s.sweep with drainSet := s.sweep.drainSet.filter (· != n) } } := freeEntry_busy hbusy

theorem earnCredit_down (h : s.port.up = false) : s.earnCredit = s := if_pos h

/-- The end of a step that earns no credit. -/
theorem finish_uncredited (hdue : s.port.due = 0) (hidle : s.ArbiterIdle) : s.finish =
    { s with port := { s.port with intake := intakeAfter s s }, mgmt := quiesced s s s.mgmt } := by
  rw [finish_idle hidle, checkIntake_eq]
  exact sendCredits_none (by exact hdue)

/-- The port after an entry has been freed without a completion. -/
def portFreed (s t : State) : RequestPort :=
  if s.port.up = true then credited s t [] else { s.port with intake := intakeAfter s t }

theorem portFreed_congr {t u : State} (h : t.emptyCondition = u.emptyCondition) (r : State) :
    portFreed r t = portFreed r u := by
  unfold portFreed credited intakeAfter
  rw [h]

/-- The end of a step with one credit to earn, the link up or down. -/
theorem finish_earned (hdue : s.port.due = 0) (hidle : s.ArbiterIdle) :
    s.earnCredit.finish = { s with port := portFreed s s, mgmt := quiesced s s s.mgmt } := by
  unfold portFreed
  split
  next hup => exact finish_earnCredit hup hdue hidle
  next hdown => rw [earnCredit_down (eq_false_of_ne_true hdown), finish_uncredited hdue hidle]

/-- The end of a step that has freed entry `n`. -/
theorem finish_freeEntry (hdue : s.port.due = 0) (hidle : s.ArbiterIdle) (hbusy : (s.entry n).state ≠ .free) :
    ∃ t, (s.freeEntry n).finish = t ∧ entriesAre s t n .freed ∧ t = { s with
      entries := t.entries
      port := portFreed s t
      sweep := { s.sweep with drainSet := s.sweep.drainSet.filter (· != n) }
      mgmt := quiesced s t s.mgmt } := by
  rw [freeEntry_eq hbusy]
  generalize hu : ({ s with
    entries := s.entries.set .freed n .freed
    sweep := { s.sweep with drainSet := s.sweep.drainSet.filter (· != n) } } : State) = u
  have hdueu : u.port.due = 0 := by rw [← hu]; exact hdue
  have hidleu : u.ArbiterIdle := by rw [← hu]; exact ArbiterIdle.congr hidle rfl rfl rfl rfl rfl
  have hentries : entriesAre s u n .freed := by
    rw [← hu]
    exact fun m => Table.get_set ..
  have hempty : ({ u with port := portFreed u u, mgmt := quiesced u u u.mgmt } : State).emptyCondition = u.emptyCondition :=
    emptyCondition_congr (fun _ => rfl) rfl rfl rfl rfl
  refine ⟨_, finish_earned hdueu hidleu, hentries, ?_⟩
  rw [portFreed_congr hempty, quiesced_congr hempty]
  subst hu
  rfl

/-! ## The end of a request (R113, R134) -/

theorem idleTag_eq (s : State) (n : Nat) : s.idleTag n =
    { s with tags := s.tags.set .idle n .idle, mem := endedMem s n } := rfl

theorem endEntry_ok (h : (s.entry n).state = .issued) (data : List Byte) : s.endEntry n (.ok data) =
    s.complete n .ok .none (if (s.entry n).kind = .read then data else []) := by
  unfold State.endEntry
  rw [h]

theorem endEntry_error (h : (s.entry n).state = .issued) : s.endEntry n .error = s.complete n .dataErr .memoryError [] := by
  unfold State.endEntry
  rw [h]

theorem endEntry_orphaned (h : (s.entry n).state = .orphaned) {e : ReqEnd} (he : e ≠ .timeoutQuarantined) :
    s.endEntry n e = s.freeEntry n := by
  unfold State.endEntry
  rw [h]
  cases e with
  | timeoutQuarantined => exact absurd rfl he
  | _ => rfl

theorem tellOwner_entry (hn : n < 128) (e : ReqEnd) : s.tellOwner n e = s.endEntry n e := if_pos hn

/-! ## A response (R134, R135) -/

theorem respond_ok {data : List Byte} (h : (s.tag n).dataGood data = true) :
    s.respond n 0#4 data = (s.endTag n (.ok data)).finish := by
  unfold State.respond
  rw [if_pos rfl, if_pos h]

theorem respond_retry {data : List Byte} (h : (s.tag n).retries < s.mem.retryLimit.toNat) :
    s.respond n 3#4 data = s.requeue n := by
  unfold State.respond
  rw [if_neg (by decide), if_pos rfl, if_pos h]

theorem respond_error {status : BitVec 4} {data : List Byte} (h : (status ≠ 0#4 ∧ status ≠ 3#4) ∨
    (status = 0#4 ∧ (s.tag n).dataGood data = false) ∨ (status = 3#4 ∧ s.mem.retryLimit.toNat ≤ (s.tag n).retries)) :
    s.respond n status data = (s.endError n).finish := by
  unfold State.respond
  obtain ⟨hok, hretry⟩ | ⟨rfl, hbad⟩ | ⟨rfl, hlimit⟩ := h
  · rw [if_neg hok, if_neg hretry]
  · rw [if_pos rfl, if_neg (by simp [hbad])]
  · rw [if_neg (by decide), if_pos rfl, if_neg (Nat.not_lt.2 hlimit)]

theorem exec_completion_outstanding {k : Byte} {status reason : BitVec 4} {data : List Byte} (hup : s.mem.up = true)
    (hk : k.toNat < 144) (htag : (s.tag k.toNat).state = .outstanding) :
    exec (.completion k status reason data) s = .next (s.respond k.toNat status data) := by
  refine (if_neg (by simp [hup])).trans ((if_neg (Nat.not_le.2 hk)).trans ?_)
  rw [htag]

/-- The error counter with the tag ended (R134). -/
def erredMem (s : State) (n : Nat) : MemoryPort := { endedMem s n with errorCount := satInc s.mem.errorCount }

/-- The state with tag `n` ended and memory port `m`. -/
def ended (s : State) (n : Nat) (m : MemoryPort) : State := { s with tags := s.tags.set .idle n .idle, mem := m }

theorem endError_eq (hn : n < 128) : s.endError n = State.endEntry n .error (s.ended n (erredMem s n)) := by
  unfold State.endError State.endTag
  rw [tellOwner_entry hn]
  rfl

theorem endTag_eq (hn : n < 128) (e : ReqEnd) : s.endTag n e = State.endEntry n e (s.ended n (endedMem s n)) :=
  tellOwner_entry hn e

section
variable (hsettled : s.Settled) (tags : Table TagRecord) (mem : MemoryPort) {e : ReqEnd}
include hsettled

/-- The end of a step that completes entry `n` under other tags and another memory port. -/
theorem Settled.finish_complete (hup : s.port.up = true) (hbusy : (s.entry n).state ≠ .free) (status : Status)
    (reason : Reason) (data : List Byte) :
    ∃ t, (State.complete n status reason data { s with tags := tags, mem := mem }).finish = t ∧ entriesAre s t n .freed ∧
      t = { s with
        entries := t.entries, tags := tags, mem := mem
        port := credited s t [.completion n status reason data]
        sweep := { s.sweep with drainSet := s.sweep.drainSet.filter (· != n) }
        mgmt := quiesced s t s.mgmt } :=
  State.finish_complete (s := { s with tags := tags, mem := mem }) hup hsettled.due
    (ArbiterIdle.congr hsettled.arbiter rfl rfl rfl rfl rfl) hbusy status reason data

/-- The end of a step that frees entry `n` under other tags and another memory port. -/
theorem Settled.finish_freeEntry (m : Mgmt) (hbusy : (s.entry n).state ≠ .free) :
    ∃ t, (State.freeEntry n { s with tags := tags, mem := mem, mgmt := m }).finish = t ∧ entriesAre s t n .freed ∧
      t = { s with
        entries := t.entries, tags := tags, mem := mem, port := portFreed s t
        sweep := { s.sweep with drainSet := s.sweep.drainSet.filter (· != n) }
        mgmt := quiesced s t m } :=
  State.finish_freeEntry (s := { s with tags := tags, mem := mem, mgmt := m }) hsettled.due
    (ArbiterIdle.congr hsettled.arbiter rfl rfl rfl rfl rfl) hbusy

end

end Sys2Proof.Machine.State

namespace Sys2Proof.Proofs

open Sys2Proof.Machine Sys2Proof.Machine.State

/-- Settles O46: each link up and the CREDIT message by its equation. -/
theorem linkUpsAndMemoryCredits : Obligations.LinkUpsAndMemoryCredits := by
  refine fun s => ⟨fun hdown hopen hfree => ?_, fun hdown hopen => ?_, fun hdown => ?_, fun n hup => ?_⟩
  · refine (if_neg (by simp [hdown])).trans ?_
    unfold State.advertise
    dsimp only
    rw [if_pos (show (s.setPort { s.port with up := true }).port.intake = .opened from hopen),
      if_neg (show (s.setPort { s.port with up := true }).freeEntries ≠ 0 from hfree.ne')]
    rfl
  · refine (if_neg (by simp [hdown])).trans ?_
    unfold State.advertise
    dsimp only
    rw [if_neg (show (s.setPort { s.port with up := true }).port.intake ≠ .opened from hopen)]
    rfl
  · exact if_neg (by simp [hdown])
  · exact if_neg (by simp [hup])

/-- Settles O47: SEND_REQUEST by the send queue, and a RETRY below the limit. -/
theorem requestsAreSentInTakeOrder : Obligations.RequestsAreSentInTakeOrder := by
  refine fun s => ⟨fun k rest hup hcredit hqueue => ?_, fun h => ?_, fun k reason data hup hk htag hretry => ?_⟩
  · show execSendRequest s = _
    unfold execSendRequest
    rw [hqueue]
    exact if_neg (by simp [hup, hcredit.ne'])
  · show execSendRequest s = _
    unfold execSendRequest
    split
    · rfl
    next k rest hqueue =>
      refine if_pos ?_
      obtain h | h | h := h
      · exact .inl h
      · exact .inr h
      · rw [h] at hqueue
        cases hqueue
  · rw [exec_completion_outstanding hup hk htag, respond_retry hretry]
    rfl

/-- Settles O48: the answer's status decides the end, and the entry's state what the end does. -/
theorem answersCompleteTheEntry : Obligations.AnswersCompleteTheEntry := by
  intro s k status reason data hsettled hmem hk htag
  rw [exec_completion_outstanding hmem (by omega) htag]
  refine ⟨fun hstatus hgood hissued hup => ?_, fun herror hissued hup => ?_, fun hanswer horphaned => ?_⟩
  · rw [hstatus, respond_ok hgood, endTag_eq hk, endEntry_ok (s := s.ended _ _) hissued]
    obtain ⟨t, ht, hspec⟩ := hsettled.finish_complete (s.tags.set .idle k.toNat .idle) (endedMem s k.toNat) hup
      (n := k.toNat) (by rw [hissued]; exact nofun) .ok .none (if (s.entry k.toNat).kind = .read then data else [])
    exact ⟨t, congrArg _ ht, hspec⟩
  · rw [respond_error herror, endError_eq hk, endEntry_error (s := s.ended _ _) hissued]
    obtain ⟨t, ht, hspec⟩ := hsettled.finish_complete (s.tags.set .idle k.toNat .idle) (erredMem s k.toNat) hup
      (n := k.toNat) (by rw [hissued]; exact nofun) .dataErr .memoryError []
    exact ⟨t, congrArg _ ht, hspec⟩
  · have hbusy : (s.entry k.toNat).state ≠ .free := by rw [horphaned]; exact nofun
    by_cases hok : status = 0#4 ∧ (s.tag k.toNat).dataGood data = true
    · obtain ⟨t, ht, hspec⟩ :=
        hsettled.finish_freeEntry (s.tags.set .idle k.toNat .idle) (endedMem s k.toNat) s.mgmt hbusy
      have hrespond : s.respond k.toNat status data = (s.endTag k.toNat (.ok data)).finish := by
        rw [hok.1, respond_ok hok.2]
      rw [hrespond, endTag_eq hk, endEntry_orphaned (s := s.ended _ _) (e := .ok data) horphaned nofun]
      refine ⟨t, congrArg _ ht, ?_⟩
      rw [if_pos hok]
      exact hspec
    · obtain ⟨t, ht, hspec⟩ :=
        hsettled.finish_freeEntry (s.tags.set .idle k.toNat .idle) (erredMem s k.toNat) s.mgmt hbusy
      rw [respond_error (hanswer.resolve_left hok), endError_eq hk,
        endEntry_orphaned (s := s.ended _ _) (e := .error) horphaned nofun]
      refine ⟨t, congrArg _ ht, ?_⟩
      rw [if_neg hok]
      exact hspec

end Sys2Proof.Proofs
end

section
/-! Late and unknown responses (O49). -/

namespace Sys2Proof.Machine.State

variable {s t : State} {n c k : Nat}

theorem tableGet_set_set {α : Type} [DecidableEq α] (table : Table α) (d : α) (n m : Nat) (x y : α) :
    ((table.set d n x).set d n y).get d m = if m = n then y else table.get d m := by
  rw [Table.get_set, Table.get_set]
  split <;> rfl

/-! ## Copy channels and their tags (R126) -/

theorem chan_of_set {t : State} {channels : Table Channel} {v : Channel} (h : t.channels = channels.set .reset c v)
    (x : Nat) : t.chan x = if x = c then v else channels.get .reset x := by
  unfold State.chan
  rw [h]
  exact Table.get_set ..

theorem mem_chanTags : k ∈ chanTags c ↔ 128 + 4 * c ≤ k ∧ k < 132 + 4 * c := by
  simp only [chanTags, List.mem_cons, List.not_mem_nil, or_false]
  omega

theorem mem_chanIds : c ∈ chanIds ↔ c < 4 := by
  simp only [chanIds, List.mem_cons, List.not_mem_nil, or_false]
  omega

theorem chanOf_lt (hk : k < 144) : chanOf k < 4 := by
  unfold chanOf
  omega

/-- The copy engine is not idle while a channel has a job. -/
theorem copyIdle_of_job {j : Job} (hc : c < 4) (h : (s.chan c).job = some j) : s.copyIdle = false := by
  unfold State.copyIdle
  rw [Bool.and_eq_false_iff, List.all_eq_false]
  exact .inr ⟨c, mem_chanIds.2 hc, by simp [h]⟩

theorem emptyCondition_of_copyIdle (h : s.copyIdle = false) : s.emptyCondition = false := by
  unfold State.emptyCondition
  rw [h, Bool.and_false]

/-- With empty queues and no offer the arbiter has nothing to give. -/
theorem arbiterIdle_of_empty (hqueue : s.wp.queue = []) (hdemand : s.sweep.demand = []) (hoffer : s.sweep.offer = none) :
    s.ArbiterIdle := .inr ⟨hdemand, hqueue, hoffer⟩

/-- The empty condition reads the channels' jobs alone. -/
theorem emptyCondition_congr_jobs (hentry : ∀ n, (t.entry n).state = (s.entry n).state)
    (hjob : ∀ c, (t.chan c).job = (s.chan c).job) (hdemand : t.sweep.demand = s.sweep.demand)
    (hoffer : t.sweep.offer = s.sweep.offer) (hwp : t.wp = s.wp) : t.emptyCondition = s.emptyCondition := by
  unfold State.emptyCondition State.copyIdle
  simp only [hentry, hjob, hdemand, hoffer, hwp]

/-- The next chunk's read on tag `k`, the memory port's link being up (R127). -/
theorem chunkRead_up {j : Job} (hup : s.mem.up = true) (hjob : (s.chan c).job = some j) : s.chunkRead c k = { s with
    channels := s.channels.set .reset c { s.chan c with nextChunk := (s.chan c).nextChunk + 1 }
    copyTags := s.copyTags.set .reset k { s.copyTag k with use := .read (s.chan c).nextChunk }
    tags := s.tags.set .idle k ⟨.queued, .read, addrAt j.source ((s.chan c).nextChunk * 256), 4, [], [], 0,
      some (s.now + orMax s.mem.responseTimeout)⟩
    mem := { s.mem with takeList := s.mem.takeList ++ [k], sendQueue := s.mem.sendQueue ++ [k] } } := by
  unfold State.chunkRead
  rw [hjob]
  dsimp only
  unfold State.takeChunk
  rw [setChan_mem, if_pos hup]
  rfl

/-! ## Late responses (R137) -/

/-- The state of a late response on tag `k` before its owner is told. -/
def lateState (s : State) (k : Nat) : State :=
  { s with
    tags := s.tags.set .idle k .idle, mem := { endedMem s k with lateCount := satInc s.mem.lateCount }
    mgmt := { s.mgmt with flags := s.mgmt.flags ||| BitVec.twoPow 21 13 } }

theorem countLate_eq (s : State) : s.countLate = { s with
    mem := { s.mem with lateCount := satInc s.mem.lateCount }
    mgmt := { s.mgmt with flags := s.mgmt.flags ||| BitVec.twoPow 21 13 } } := rfl

theorem idleTag_countLate (s : State) (k : Nat) : s.countLate.idleTag k = s.lateState k := by
  rw [countLate_eq, idleTag_eq]
  rfl

theorem exec_completion_eq (k : Byte) (status reason : BitVec 4) (data : List Byte) (s : State) :
    exec (.completion k status reason data) s = execCompletion k status reason data s := rfl

theorem exec_completion_quarantined {k : Byte} {status reason : BitVec 4} {data : List Byte} (hup : s.mem.up = true)
    (hk : k.toNat < 144) (htag : (s.tag k.toNat).state = .quarantined) :
    exec (.completion k status reason data) s = .next ((s.lateState k.toNat).tellReleased k.toNat).finish := by
  rw [exec_completion_eq]
  unfold execCompletion
  dsimp only
  rw [if_neg (by simp [hup]), if_neg (show ¬Config.tags ≤ k.toNat from Nat.not_le.2 hk), htag]
  dsimp only
  unfold State.lateResponse
  rw [idleTag_countLate]

/-- A response that no tag waits for is counted and flagged. -/
theorem exec_completion_unknown {k : Byte} {status reason : BitVec 4} {data : List Byte} (hup : s.mem.up = true)
    (h : 144 ≤ k.toNat ∨ (s.tag k.toNat).state = .idle ∨ (s.tag k.toNat).state = .queued) :
    exec (.completion k status reason data) s = .next s.countLate := by
  rw [exec_completion_eq]
  unfold execCompletion
  dsimp only
  rw [if_neg (by simp [hup])]
  split
  · rfl
  next hk => obtain h | h := h.resolve_left hk <;> rw [h]

theorem releaseEntry_eq (h : (s.entry n).state = .quarantined ∨ (s.entry n).state = .orphaned) :
    s.releaseEntry n = s.freeEntry n := by
  unfold State.releaseEntry
  obtain h | h := h <;> rw [h]

section
variable (huse : (s.copyTag k).use = .quarantined)
include huse

/-- A channel tag released from quarantine, its channel not reading on. -/
theorem releaseChunk_stays (h : (s.chan (chanOf k)).state ≠ .running ∨ 16 ≤ (s.chan (chanOf k)).nextChunk) :
    ∃ channels, s.releaseChunk k = { s with
      channels := channels, copyTags := s.copyTags.set .reset k { s.copyTag k with use := .free } } ∧
    ∀ x, channels.get .reset x = if x = chanOf k ∧ (s.chan (chanOf k)).state = .blocked then
      { s.chan (chanOf k) with state := .idle } else s.chan x := by
  unfold State.releaseChunk
  dsimp only
  rw [huse]
  dsimp only
  by_cases hblocked : (s.chan (chanOf k)).state = .blocked
  · refine ⟨s.channels.set .reset (chanOf k) { s.chan (chanOf k) with state := .idle }, if_pos hblocked, fun x => ?_⟩
    refine (Table.get_set ..).trans (if_congr ?_ rfl rfl)
    exact ⟨fun hx => ⟨hx, hblocked⟩, fun hx => hx.1⟩
  · refine ⟨s.channels, (if_neg hblocked).trans (if_neg ?_), fun x => (if_neg fun hx => hblocked hx.2).symm⟩
    rintro ⟨hrunning, hchunk⟩
    exact h.elim (fun hne => hne hrunning) (Nat.not_le.2 hchunk)

/-- A channel tag released from quarantine reads its RUNNING channel's next chunk. -/
theorem releaseChunk_reads (hrunning : (s.chan (chanOf k)).state = .running)
    (hchunk : (s.chan (chanOf k)).nextChunk < 16) : s.releaseChunk k = (s.useTag k .free).chunkRead (chanOf k) k := by
  unfold State.releaseChunk
  dsimp only
  rw [huse]
  dsimp only
  refine (if_neg ?_).trans (if_pos ⟨hrunning, hchunk⟩)
  show (s.chan (chanOf k)).state ≠ .blocked
  rw [hrunning]
  exact nofun

end

end Sys2Proof.Machine.State

namespace Sys2Proof.Proofs

open Sys2Proof.Machine Sys2Proof.Machine.State

/-- Settles O49: the tag's state decides, and then its owner's. -/
theorem lateAndUnknownResponses : Obligations.LateAndUnknownResponses := by
  intro s k status reason data hup
  refine ⟨fun h => exec_completion_unknown hup h, fun hsettled hk htag hentry => ?_,
    fun c hsettled hqueue hdemand hoffer hk128 hk144 hc htag huse => ?_⟩
  · rw [exec_completion_quarantined hup (by omega) htag]
    have hrelease : (s.lateState k.toNat).tellReleased k.toNat = (s.lateState k.toNat).freeEntry k.toNat :=
      (if_pos hk).trans (releaseEntry_eq hentry)
    have hbusy : (s.entry k.toNat).state ≠ .free := by
      obtain h | h := hentry <;> rw [h] <;> exact nofun
    obtain ⟨t, ht, hspec⟩ := hsettled.finish_freeEntry (s.tags.set .idle k.toNat .idle)
      { endedMem s k.toNat with lateCount := satInc s.mem.lateCount }
      { s.mgmt with flags := s.mgmt.flags ||| BitVec.twoPow 21 13 } hbusy
    rw [hrelease]
    exact ⟨t, congrArg _ ht, hspec⟩
  · rw [exec_completion_quarantined hup hk144 htag]
    have hrelease : (s.lateState k.toNat).tellReleased k.toNat = (s.lateState k.toNat).releaseChunk k.toNat :=
      if_neg (Nat.not_lt.2 hk128)
    have hc : c = chanOf k.toNat := hc
    subst hc
    rw [hrelease]
    refine ⟨fun hstays => ?_, fun j hrunning hchunk hjob => ?_⟩
    · obtain ⟨channels, heq, hchan⟩ := releaseChunk_stays (s := s.lateState k.toNat) huse hstays
      rw [heq]
      refine ⟨_, congrArg Host.Outcome.next (finish_settled ⟨hsettled.due, arbiterIdle_of_empty hqueue hdemand hoffer,
        fun hclosing => ?_⟩), hchan, fun x => ?_, rfl⟩
      · rw [← hsettled.intake hclosing]
        refine emptyCondition_congr_jobs (fun _ => rfl) (fun x => (congrArg Channel.job (hchan x)).trans ?_) rfl rfl rfl
        split
        next hx => rw [hx.1]; rfl
        · rfl
      · refine (Table.get_set ..).trans ?_
        split
        next hx => rw [hx]; rfl
        · rfl
    · rw [releaseChunk_reads (s := s.lateState k.toNat) huse hrunning hchunk,
        chunkRead_up (s := (s.lateState k.toNat).useTag k.toNat .free) hup hjob]
      refine ⟨_, congrArg Host.Outcome.next (finish_settled ⟨hsettled.due, arbiterIdle_of_empty hqueue hdemand hoffer,
        fun _ => emptyCondition_of_copyIdle (copyIdle_of_job (j := j) (chanOf_lt hk144) ?_)⟩), ⟨?_, ?_, ?_⟩, rfl⟩
      · exact (congrArg Channel.job (Table.get_set_same ..)).trans hjob
      · exact fun x => Table.get_set ..
      · intro x
        refine (tableGet_set_set s.copyTags .reset k.toNat x _ _).trans (if_congr Iff.rfl ?_ rfl)
        rw [show (State.useTag _ _ _).copyTag k.toNat = _ from Table.get_set_same ..]
        rfl
      · exact fun x => tableGet_set_set s.tags .idle k.toNat x _ _

end Sys2Proof.Proofs
end

section
/-! The request-port link down (O45). -/

namespace Sys2Proof.Machine.State

variable {s t : State} {n : Nat}

/-- An entry after a request-port link down (R121). -/
def linkDownEntry (e : Entry) : Entry :=
  match e.state with
  | .parked | .waiting | .held | .frameWait => .freed
  | .issued => { e with state := .orphaned }
  | .free | .quarantined | .orphaned => e

/-- With the link down an entry is freed or orphaned, and leaves the drain set, or stays as it is. -/
theorem orphanOrFree_eq (hup : s.port.up = false) (n : Nat) : ∃ entries drain, s.orphanOrFree n =
      { s with entries := entries, sweep := { s.sweep with drainSet := drain } } ∧
    (∀ m, entries.get .freed m = if m = n then linkDownEntry (s.entry n) else s.entry m) ∧
    (∀ m, m ∈ drain ↔ m ∈ s.sweep.drainSet ∧
      (m = n → (s.entry n).state ∈ [EntryState.free, .quarantined, .orphaned])) := by
  have hfiltered (h : (s.entry n).state ∉ [EntryState.free, .quarantined, .orphaned]) (m : Nat) :
      m ∈ s.sweep.drainSet.filter (· != n) ↔ m ∈ s.sweep.drainSet ∧
        (m = n → (s.entry n).state ∈ [EntryState.free, .quarantined, .orphaned]) := by
    simp only [List.mem_filter, bne_iff_ne]
    exact and_congr_right fun _ => ⟨fun hne heq => absurd heq hne, fun himp heq => h (himp heq)⟩
  have hfreed (hne : (s.entry n).state ≠ .free) : s.freeEntry n = { s with
      entries := s.entries.set .freed n .freed
      sweep := { s.sweep with drainSet := s.sweep.drainSet.filter (· != n) } } := by
    rw [freeEntry_eq hne]
    exact earnCredit_down hup
  have hset (v : Entry) (m : Nat) : (s.entries.set .freed n v).get .freed m = if m = n then v else s.entry m :=
    Table.get_set ..
  have hkeep (h : (s.entry n).state ∈ [EntryState.free, .quarantined, .orphaned]) (m : Nat) :
      m ∈ s.sweep.drainSet ↔ m ∈ s.sweep.drainSet ∧
        (m = n → (s.entry n).state ∈ [EntryState.free, .quarantined, .orphaned]) :=
    ⟨fun hm => ⟨hm, fun _ => h⟩, fun hm => hm.1⟩
  have hsame (h : linkDownEntry (s.entry n) = s.entry n) (m : Nat) :
      s.entry m = if m = n then linkDownEntry (s.entry n) else s.entry m := by
    rw [h]
    split
    next hm => rw [hm]
    · rfl
  unfold State.orphanOrFree linkDownEntry at *
  cases hstate : (s.entry n).state with
  | parked | waiting | held | frameWait =>
    simp only [hstate] at hfiltered hfreed hkeep hsame
    exact ⟨_, _, hfreed nofun, hset _, hfiltered (by decide)⟩
  | issued =>
    simp only [hstate] at hfiltered hfreed hkeep hsame
    exact ⟨_, _, rfl, hset _, hfiltered (by decide)⟩
  | free | quarantined | orphaned =>
    simp only [hstate] at hfiltered hfreed hkeep hsame
    exact ⟨s.entries, s.sweep.drainSet, rfl, hsame trivial, hkeep (by decide)⟩

theorem foldl_orphanOrFree {l : List Nat} (hnodup : l.Nodup) (hup : s.port.up = false) : ∃ entries drain,
    l.foldl (fun s n => s.orphanOrFree n) s = { s with entries := entries, sweep := { s.sweep with drainSet := drain } } ∧
    (∀ m, entries.get .freed m = if m ∈ l then linkDownEntry (s.entry m) else s.entry m) ∧
    (∀ m, m ∈ drain ↔ m ∈ s.sweep.drainSet ∧
      (m ∈ l → (s.entry m).state ∈ [EntryState.free, .quarantined, .orphaned])) := by
  induction l generalizing s with
  | nil => exact ⟨s.entries, s.sweep.drainSet, rfl, fun _ => rfl, fun m => by simp⟩
  | cons n l ih =>
    obtain ⟨hn, hnodup⟩ := List.nodup_cons.1 hnodup
    obtain ⟨entries, drain, hone, hentries, hdrain⟩ := orphanOrFree_eq hup n
    obtain ⟨entries', drain', hfold, hentries', hdrain'⟩ :=
      ih (s := { s with entries := entries, sweep := { s.sweep with drainSet := drain } }) hnodup hup
    have hentry : ∀ m, State.entry { s with entries := entries, sweep := { s.sweep with drainSet := drain } } m = _ := hentries
    refine ⟨entries', drain', ?_, fun m => ?_, fun m => ?_⟩
    · rw [List.foldl_cons, hone, hfold]
    · rw [hentries', hentry]
      by_cases hm : m = n
      · subst hm
        simp [hn]
      · simp [hm]
    · rw [hdrain', hentry]
      dsimp only
      rw [hdrain]
      by_cases hm : m = n
      · subst hm
        simp [hn]
      · simp [hm]

theorem intakeAfter_congr {u v : State} (hintake : s.port.intake = u.port.intake)
    (hempty : t.emptyCondition = v.emptyCondition) : intakeAfter s t = intakeAfter u v := by
  unfold intakeAfter
  rw [hintake, hempty]

theorem quiesced_congr_port {u v : State} {m : Mgmt} (hintake : s.port.intake = u.port.intake)
    (hempty : t.emptyCondition = v.emptyCondition) : quiesced s t m = quiesced u v m := by
  unfold quiesced
  rw [hintake, hempty]

/-- The state of a request-port link down before its entries are told. -/
def portCut (s : State) : State := s.portDown.emptyWaitLists

theorem portCut_page (h : s.pst.canonical .clear = true) (p : Nat) : s.portCut.page p =
    if (s.page p).waitHead = none ∧ (s.page p).waitTail = none then s.page p
    else { s.page p with waitHead := none, waitTail := none, parityOk := true } :=
  Table.get_mapCells (fun _ => rfl) h p

end Sys2Proof.Machine.State

namespace Sys2Proof.Proofs

open Sys2Proof.Machine Sys2Proof.Machine.State

/-- Settles O45: the entries by a fold, the pages by a map, and the end of a step that earns no credit. -/
theorem requestPortLinkDownFreesTheWaiters : Obligations.RequestPortLinkDownFreesTheWaiters := by
  intro s hsettled hup hcanonical
  have hcanonical := tablesCanonical_iff.1 hcanonical
  obtain ⟨entries, drain, hfold, hentries, hdrain⟩ :=
    foldl_orphanOrFree (s := s.portCut) (l := entryIds) List.nodup_range rfl
  have hexec : exec .requestPortLinkDown s =
      .next ((entryIds.foldl (fun s n => s.orphanOrFree n) s.portCut).raise .linkChange).finish :=
    if_neg (by simp [hup])
  rw [hexec, hfold]
  generalize hu : State.raise .linkChange
    { s.portCut with entries := entries, sweep := { s.portCut.sweep with drainSet := drain } } = u
  have hdue : u.port.due = 0 := by rw [← hu]; rfl
  have hidle : u.ArbiterIdle := by rw [← hu]; exact ArbiterIdle.congr hsettled.arbiter rfl rfl rfl rfl rfl
  have hempty : State.emptyCondition { u with port := { u.port with intake := intakeAfter u u }, mgmt := quiesced u u u.mgmt } =
      u.emptyCondition := emptyCondition_congr (fun _ => rfl) rfl rfl rfl rfl
  have hmem : ∀ n, n ∈ entryIds ↔ n < 128 := fun n => List.mem_range
  refine ⟨_, congrArg Host.Outcome.next (finish_uncredited hdue hidle), ?_, fun n => ?_, fun p => ?_, fun n => ?_, ?_⟩
  · have hflag : u.flag .linkChange = true := by
      rw [← hu, raise_flag]
      exact Bool.or_true _
    unfold State.flag quiesced
    split
    · rw [BitVec.getLsbD_or, show u.mgmt.flags.getLsbD EventFlag.linkChange.bit = true from hflag]
      rfl
    · exact hflag
  · subst hu
    refine (hentries n).trans ?_
    rw [if_congr (hmem n) rfl rfl]
    rfl
  · subst hu
    have hpage := portCut_page hcanonical.pst p
    show (s.portCut.page p).waitHead = none ∧ (s.portCut.page p).waitTail = none ∧
      (s.portCut.page p).chainHead = (s.page p).chainHead ∧ (s.portCut.page p).touch = (s.page p).touch ∧
      ((s.portCut.page p).parityOk = true ↔
        (s.page p).parityOk = true ∨ (s.page p).waitHead ≠ none ∨ (s.page p).waitTail ≠ none)
    rw [hpage]
    split
    next h =>
      obtain ⟨hhead, htail⟩ := h
      simp [hhead, htail]
    next h => exact ⟨rfl, rfl, rfl, rfl, fun _ => .inr (not_and_or.1 h), fun _ => rfl⟩
  · subst hu
    refine (hdrain n).trans (and_congr_right fun _ => ?_)
    rw [hmem]
    constructor
    · intro h
      by_cases hn : n < 128
      · exact .inr (h hn)
      · exact .inl (Nat.not_lt.1 hn)
    · rintro (h | h) hn
      · exact absurd hn (Nat.not_lt.2 h)
      · exact h
  · have hintake : u.port.intake = s.port.intake := by rw [← hu]; rfl
    rw [intakeAfter_congr (s := s) (u := u) hintake.symm hempty, quiesced_congr_port (s := s) (u := u) hintake.symm hempty]
    subst hu
    dsimp only
    rw [hsettled.due]
    rfl

end Sys2Proof.Proofs
end

section
/-! What the walks of chains and journals, the rollback sources and the marks read, and that they agree in states that agree
there. -/

namespace Sys2Proof.Machine.State

variable {s t : State} {p : Nat}

/-- Two states agree in records, slots and the sweep's place, and in page `p`'s chain head. -/
structure Agree (s t : State) (p : Nat) : Prop where
  records : t.records = s.records
  slots : t.slots = s.slots
  kind : t.sweep.kind = s.sweep.kind
  phase : t.sweep.phase = s.sweep.phase
  target : t.sweep.target = s.sweep.target
  boundary : t.sweep.boundary = s.sweep.boundary
  chainHead : (t.page p).chainHead = (s.page p).chainHead

theorem record_congr (h : t.records = s.records) : t.record = s.record := by
  unfold State.record
  rw [h]

/-! ## Chains (R49, R52) -/

theorem chainLink_congr (h : t.records = s.records) (p : Nat) (seen : List Nat) (o : Option Nat) :
    t.chainLink p seen o = s.chainLink p seen o := by
  unfold State.chainLink
  rw [record_congr h]

theorem chainFrom_congr (h : t.records = s.records) (p k : Nat) (seen : List Nat) (o : Option Nat) :
    t.chainFrom p k seen o = s.chainFrom p k seen o := by
  induction k generalizing seen o with
  | zero => rfl
  | succ k ih =>
    unfold State.chainFrom
    rw [chainLink_congr h, record_congr h]
    split
    · rfl
    · rw [ih]

theorem chainReadsFrom_congr (h : t.records = s.records) (p k : Nat) (seen : List Nat) (o : Option Nat) :
    t.chainReadsFrom p k seen o = s.chainReadsFrom p k seen o := by
  induction k generalizing seen o with
  | zero => rfl
  | succ k ih =>
    cases o with
    | none => rfl
    | some r =>
      unfold State.chainReadsFrom
      rw [chainLink_congr h, record_congr h, ih]

theorem journalLink_congr (h : t.records = s.records) (o : Option Nat) : t.journalLink o = s.journalLink o := by
  unfold State.journalLink
  rw [record_congr h]

theorem journalFrom_congr (h : t.records = s.records) (k : Nat) (seen : List Nat) (o : Option Nat) :
    t.journalFrom k seen o = s.journalFrom k seen o := by
  induction k generalizing seen o with
  | zero => rfl
  | succ k ih =>
    unfold State.journalFrom
    rw [journalLink_congr h, record_congr h]
    split
    · rfl
    · rw [ih]

theorem journal_congr (h : t.records = s.records) (hslots : t.slots = s.slots) (q : Nat) : t.journal q = s.journal q := by
  unfold State.journal
  rw [journalFrom_congr h, slot_congr hslots, h]

theorem rejected_congr (h : t.records = s.records) (o : Option Nat) : t.rejected o = s.rejected o := by
  unfold State.rejected
  rw [journalLink_congr h]

theorem slotOf_congr (h : t.slots = s.slots) (r : Record) : t.slotOf r = s.slotOf r := by
  unfold State.slotOf
  rw [slot_congr h]

theorem olderLive_congr (h : t.slots = s.slots) (q : Nat) : t.olderLive q = s.olderLive q := by
  unfold State.olderLive State.liveSlots
  rw [latest_congr (slot_congr h), slot_congr h]

theorem resolved_congr (h : t.slots = s.slots) (r : Record) : t.resolved r = s.resolved r := by
  unfold State.resolved
  rw [slotOf_congr h, slot_congr h]
  split
  · rfl
  · rw [olderLive_congr h]

theorem recSeq_congr (h : t.records = s.records) (hslots : t.slots = s.slots) (r : Nat) : t.recSeq r = s.recSeq r := by
  unfold State.recSeq
  rw [slotOf_congr hslots, record_congr h, slot_congr hslots]

namespace Agree

variable (h : Agree s t p)
include h

theorem chain : t.chain p = s.chain p := by
  unfold State.chain
  rw [chainFrom_congr h.records, h.records, h.chainHead]

theorem chainReads : t.chainReads p = s.chainReads p := by
  unfold State.chainReads
  rw [chainReadsFrom_congr h.records, h.records, h.chainHead]

theorem chainTop : t.chainTop p = s.chainTop p := by
  unfold State.chainTop
  rw [chainLink_congr h.records, h.chainHead]

/-! ## Rollback sources (R90, R91) -/

theorem restoring : t.restoring = s.restoring := by
  unfold State.restoring
  rw [h.kind, h.phase]

theorem isSource (r : Nat) : t.isSource r = s.isSource r := by
  unfold State.isSource
  rw [slotOf_congr h.slots, record_congr h.records, slot_congr h.slots, h.target, h.boundary]
  simp only [journal_congr h.records h.slots]

theorem belowTarget : t.belowTarget = s.belowTarget := by
  funext r
  unfold State.belowTarget
  rw [recSeq_congr h.records h.slots, h.target, slot_congr h.slots]

theorem sources : t.sources p = s.sources p := by
  unfold State.sources State.sinceTarget
  rw [h.chain, h.belowTarget, show t.isSource = s.isSource from funext h.isSource]

theorem oldestSource : t.oldestSource p = s.oldestSource p := by
  unfold State.oldestSource
  rw [h.sources]

theorem sourceReads : t.sourceReads p = s.sourceReads p := by
  unfold State.sourceReads
  rw [h.target, h.chainReads, h.belowTarget]

theorem allocReads (e : Nat) : t.allocReads p e = s.allocReads p e := by
  unfold State.allocReads
  rw [h.chainReads, rejected_congr h.records, slot_congr h.slots]
  simp only [recSeq_congr h.records h.slots]

end Agree

end Sys2Proof.Machine.State
end

section
/-! A guarded request that finds its page's list empty: it joins, and heads the list; the rounds of a decision; and the issue
of a list's only request. -/

namespace Sys2Proof.Machine.State

variable {s u : State} {n p w k : Nat} {e : Entry} {a : Arrival} {flush : State → State}

/-! ## Joining an empty list (R10) -/

/-- The entry of a guarded request that has joined its page's list. -/
def joinedEntry (s : State) (a : Arrival) (w p : Nat) : Entry :=
  { a.entry (some .guard) (some w) (some p) with
    state := .waiting, stamp := s.stampNow, next := none, deadline := some (s.now + orMax s.port.holdTimeout) }

/-- The state as a guarded request heads its page's list, alone, before it is decided. -/
def joined (s : State) (a : Arrival) (w p : Nat) : State :=
  { s.admitted a .guard (some w) with
    entries := (s.admitted a .guard (some w)).entries.set .freed a.tag.toNat (s.joinedEntry a w p)
    pst := s.pst.set .clear p
      { s.page p with waitHead := some a.tag.toNat, waitTail := some a.tag.toNat, parityOk := true }
    activity := counted s (some w) (oneMore a.kind) }

theorem joined_entry (s : State) (m : Nat) : (s.joined a w p).entry m =
    if m = a.tag.toNat then s.joinedEntry a w p else s.entry m := tableGet_set_set s.entries .freed a.tag.toNat m _ _

theorem joined_page (s : State) (j : Nat) : (s.joined a w p).page j = if j = p then
    { s.page p with waitHead := some a.tag.toNat, waitTail := some a.tag.toNat, parityOk := true } else s.page j :=
  Table.get_set ..

theorem joined_agree (s : State) : Agree s (s.joined a w p) p where
  records := rfl
  slots := rfl
  kind := rfl
  phase := rfl
  target := rfl
  boundary := rfl
  chainHead := by rw [joined_page, if_pos rfl]

theorem handleClass_guard (he : s.entry n = e) (hc : e.cls = some .guard) (hp : e.pst = some p)
    (hdrain : s.draining = false) : s.handleClass n = s.joinList p n := by
  unfold State.handleClass
  dsimp only
  rw [he, hc, hp]
  exact if_neg (by simp [hdrain])

/-- An entry as it joins a wait list (R10, R24, R117). -/
def waited (s : State) (e : Entry) : Entry :=
  { e with state := .waiting, stamp := s.stampNow, next := none, deadline := some (s.now + orMax s.port.holdTimeout) }

/-- A request joins the list of a page whose entry is sound. -/
theorem joinList_sound (he : s.entry n = e) (hparity : (s.page p).parityOk = true) : s.joinList p n =
    if (s.page p).waitHead.isNone = true then
      (((s.setEntry n (s.waited e)).waitAppend p n).countRequest e.kind e.window).decidePage p
    else ((s.setEntry n (s.waited e)).waitAppend p n).countRequest e.kind e.window := by
  have hentry : (s.setEntry n (s.waited e)).entry n = s.waited e := Table.get_set_same ..
  unfold State.joinList
  rw [checkPage_sound hparity]
  dsimp only
  rw [he]
  show (if (s.page p).waitHead.isNone = true then
      (((s.setEntry n (s.waited e)).waitAppend p n).countRequest ((s.setEntry n (s.waited e)).entry n).kind
        ((s.setEntry n (s.waited e)).entry n).window).decidePage p
    else ((s.setEntry n (s.waited e)).waitAppend p n).countRequest ((s.setEntry n (s.waited e)).entry n).kind
        ((s.setEntry n (s.waited e)).entry n).window) = _
  rw [hentry]
  rfl

theorem waitAppend_none (h : (s.page p).waitTail = none) : s.waitAppend p n =
    s.putPage p { s.page p with waitHead := some n, waitTail := some n } := by
  unfold State.waitAppend
  rw [h]

theorem waitAppend_some {z : Nat} (h : (s.page p).waitTail = some z) : s.waitAppend p n =
    (s.setEntry z { s.entry z with next := some n }).putPage p { s.page p with waitTail := some n } := by
  unfold State.waitAppend
  rw [h]

/-- A request that finds its page's list empty is decided as its head. -/
theorem joinList_empty (hparity : (s.page p).parityOk = true) (hhead : (s.page p).waitHead = none)
    (htail : (s.page p).waitTail = none)
    (hindex : s.classIndex .guard (some w) (pageOf a.address) = some p) :
    (s.admitted a .guard (some w)).joinList p a.tag.toNat = (s.joined a w p).decidePage p := by
  have hself := admitted_entry_self (a := a) (c := .guard) (w := some w) s
  rw [hindex] at hself
  have hwaited : (s.admitted a .guard (some w)).waited (a.entry (some .guard) (some w) (some p)) = s.joinedEntry a w p := by
    have hstamp : (s.admitted a .guard (some w)).stampNow = s.stampNow := stampNow_congr rfl
    unfold waited
    rw [hstamp]
    rfl
  rw [joinList_sound hself hparity, hwaited,
    waitAppend_none (s := (s.admitted a .guard (some w)).setEntry a.tag.toNat (s.joinedEntry a w p)) htail,
    countRequest_eq]
  exact if_pos (by rw [show ((s.admitted a .guard (some w)).page p).waitHead = none from hhead]; rfl)

/-! ## A decision's rounds (R11, R12) -/

theorem decidePageWith_none (hparity : (u.page p).parityOk = true) (hhead : (u.page p).waitHead = none) :
    decidePageWith flush p (k + 1) u = u := by
  unfold Machine.decidePageWith
  rw [checkPageWith_sound hparity]
  dsimp only
  rw [hhead]

section
variable (hparity : (u.page p).parityOk = true) (hhead : (u.page p).waitHead = some n) (hlisted : u.isListed n = true)
include hparity hhead hlisted

theorem decidePageWith_read (hkind : (u.entry n).kind = .read) :
    decidePageWith flush p (k + 1) u = decidePageWith flush p k (issueReadWith flush p n u) := by
  rw [Machine.decidePageWith, checkPageWith_sound hparity, hhead]
  dsimp only
  rw [if_neg (by simp [hlisted]), hkind]

theorem decidePageWith_left {v : State} (hkind : (u.entry n).kind = .write)
    (hleft : decideWriteWith flush none p n u = (.left, v)) :
    decidePageWith flush p (k + 1) u = decidePageWith flush p k v := by
  rw [Machine.decidePageWith, checkPageWith_sound hparity, hhead]
  dsimp only
  rw [if_neg (by simp [hlisted]), hkind]
  dsimp only
  rw [hleft]

theorem decidePageWith_stays {v : State} (hkind : (u.entry n).kind = .write)
    (hstays : decideWriteWith flush none p n u = (.stays, v)) : decidePageWith flush p (k + 1) u = v := by
  rw [Machine.decidePageWith, checkPageWith_sound hparity, hhead]
  dsimp only
  rw [if_neg (by simp [hlisted]), hkind]
  dsimp only
  rw [hstays]

end

/-! ## The issue of a list's only request (R12, R112) -/

theorem issueHead_single (he : u.entry n = e) (hnext : e.next = none) (hmem : u.mem.up = true) (addr : Addr) :
    ∃ entries pst, u.issueHead p n addr = { u with
      entries := entries, pst := pst
      tags := u.tags.set .idle n
        ⟨.queued, e.kind, addr, e.lines, e.masks, e.data, 0, some (u.now + orMax u.mem.responseTimeout)⟩
      mem := { u.mem with takeList := u.mem.takeList ++ [n], sendQueue := u.mem.sendQueue ++ [n] } } ∧
    (∀ m, entries.get .freed m = if m = n then issuedAt e addr else u.entry m) ∧
    ∀ j, pst.get .clear j = if j = p then { u.page p with waitHead := none, waitTail := none, parityOk := true }
      else u.page j := by
  have hentry : ((u.setEntry n { e with next := none }).putPage p
      { u.page p with waitHead := none, waitTail := none }).entry n = { e with next := none } := Table.get_set_same ..
  have hpop : u.popHead p n = (u.setEntry n { e with next := none }).putPage p
      { u.page p with waitHead := none, waitTail := none } := by
    unfold State.popHead
    rw [he]
    dsimp only
    rw [hnext]
    rfl
  unfold State.issueHead
  rw [hpop, issueTo_up (by exact hmem), hentry]
  exact ⟨_, _, rfl, fun m => tableGet_set_set u.entries .freed n m _ _, fun j => Table.get_set ..⟩

end Sys2Proof.Machine.State
end

section
/-! The decision of a guarded request at the head of its list, and the requests that are issued from an empty one (O39). -/

namespace Sys2Proof.Machine.State

variable {s u : State} {n p w k r x : Nat} {e : Entry} {a : Arrival} {flush : State → State}

/-! ## Reads (R11, R95) -/

theorem issueReadWith_sound (h : u.restoring = true → ∀ y, y ∈ u.sourceReads p → (u.record y).parityOk = true) :
    issueReadWith flush p n u = u.issueHead p n (readAddress u p (u.entry n).address) := by
  unfold Machine.issueReadWith readAddress
  split
  next hrestoring =>
    rw [checkRecsWith_sound (h hrestoring)]
    dsimp only
    cases u.oldestSource p with
    | none => rfl
    | some x => rfl
  · rfl

/-! ## Writes (R61) -/

theorem chainTop_eq_some (h : u.chainTop p = some r) : (u.page p).chainHead = some r := by
  unfold State.chainTop State.chainLink at h
  split at h
  · cases h
  next r' hr' =>
    split at h
    · cases h
      exact hr'
    · cases h

/-- A page without a rollback source goes on to the marks. -/
theorem decideWriteWith_noSource {hand : Option Nat} (hsource : noSource u p)
    (h : u.restoring = true → ∀ y, y ∈ u.sourceReads p → (u.record y).parityOk = true) :
    decideWriteWith flush hand p n u = decideMarksWith flush hand p n u := by
  unfold Machine.decideWriteWith
  split
  next hrestoring =>
    rw [checkRecsWith_sound (h hrestoring)]
    dsimp only
    rw [hsource hrestoring]
    rfl
  · rfl

theorem decideMarksWith_unmarked {hand : Option Nat}
    (h : u.ctl.state = .degraded ∨ u.effective (u.entry n).stamp = none) :
    decideMarksWith flush hand p n u = (.left, u.issueHead p n (u.entry n).address) := by
  unfold Machine.decideMarksWith
  split
  · rfl
  next hne => rw [h.resolve_left hne]

/-- With an effective mark the page's newest record decides, its head sound. -/
theorem decideMarksWith_marked {hand : Option Nat} (hctl : u.ctl.state ≠ .degraded)
    (heffective : u.effective (u.entry n).stamp = some x)
    (hhead : ∀ y, (u.page p).chainHead = some y → (u.record y).parityOk = true) :
    decideMarksWith flush hand p n u = decideHeadWith flush hand p n x u := by
  unfold Machine.decideMarksWith
  rw [if_neg hctl, heffective]
  dsimp only
  rw [checkRecsWith_sound fun y hy => hhead y (Option.mem_toList.1 hy)]
  exact if_neg hctl

theorem decideHeadWith_saved {hand : Option Nat} (htop : u.chainTop p = some r) (hvalid : (u.record r).state = .valid)
    (hresolved : u.resolved (u.record r) = some x) :
    decideHeadWith flush hand p n x u = (.left, u.issueHead p n (u.entry n).address) := by
  unfold Machine.decideHeadWith
  rw [htop]
  dsimp only
  rw [if_neg (by rw [hvalid]; exact nofun), if_pos ⟨hvalid, hresolved⟩]

theorem decideHeadWith_copying {hand : Option Nat} (htop : u.chainTop p = some r)
    (hcopying : (u.record r).state = .copying) : decideHeadWith flush hand p n x u = (.stays, u.hold n (.record r)) := by
  unfold Machine.decideHeadWith
  rw [htop]
  exact if_pos hcopying

/-- The page's newest record is none, or VALID and of another mark: the page is to be saved. -/
theorem decideHeadWith_preserve {hand : Option Nat} (h : u.chainTop p = none ∨ ∃ y, u.chainTop p = some y ∧
    (u.record y).state ≠ .copying ∧ ¬((u.record y).state = .valid ∧ u.resolved (u.record y) = some x)) :
    decideHeadWith flush hand p n x u = preserveWith flush hand p n x u := by
  unfold Machine.decideHeadWith
  obtain h | ⟨y, hy, hcopying, hother⟩ := h
  · rw [h]
  · rw [hy]
    exact (if_neg hcopying).trans (if_neg hother)

end Sys2Proof.Machine.State

namespace Sys2Proof.Proofs

open Sys2Proof.Machine Sys2Proof.Machine.State

section
variable {s : State} {a : Arrival} {w p : Nat}

theorem joined_parity : ((s.joined a w p).page p).parityOk = true := by rw [joined_page, if_pos rfl]

theorem joined_head : ((s.joined a w p).page p).waitHead = some a.tag.toNat := by rw [joined_page, if_pos rfl]

theorem joined_self : (s.joined a w p).entry a.tag.toNat = s.joinedEntry a w p := by rw [joined_entry, if_pos rfl]

theorem joined_noSource (hsource : noSource s p) : noSource (s.joined a w p) p := by
  have hagree : Agree s (s.joined a w p) p := joined_agree s
  intro hrestoring
  rw [hagree.restoring] at hrestoring
  rw [hagree.sources]
  exact hsource hrestoring

theorem joined_listed : (s.joined a w p).isListed a.tag.toNat = true := by
  unfold State.isListed
  rw [joined_self]
  rfl

end

section
variable {s : State} {a : Arrival} {w p : Nat} (h : GuardArrival s a.tag a.len a.address w p)
include h

/-- A guarded request's PST index is its page's. -/
theorem guardArrival_classIndex : s.classIndex .guard (some w) (pageOf a.address) = some p := congrArg some h.index

/-- The request as it arrives, its page's list empty: it heads the list and is decided. -/
theorem arrive_guarded (hgood : a.payloadGood = true) : s.arrive a = ((s.joined a w p).decidePage p).finish := by
  have hself := admitted_entry_self (a := a) (c := .guard) (w := some w) s
  rw [guardArrival_classIndex h] at hself
  rw [arrive_accepted h.accepts hgood h.cls, handleClass_guard hself rfl rfl h.noDrain,
    joinList_empty h.parity h.head h.tail (guardArrival_classIndex h)]

/-- The page after its list is empty again is the page as it was. -/
theorem guardArrival_page : { s.page p with waitHead := none, waitTail := none, parityOk := true } = s.page p := by
  have hhead := h.head
  have htail := h.tail
  have hparity := h.parity
  generalize s.page p = e at hhead htail hparity
  cases e
  simp_all

/-- A guarded request that is issued from the head of its list, other slots, write path and flags standing then. -/
theorem arrive_guarded_issued (hsettled : s.Settled) (hmem : s.mem.up = true) (hgood : a.payloadGood = true) {addr : Addr}
    {slots : Table Slot} {wp : WritePath} {mgmt : Mgmt} (hqueue : wp.queue = s.wp.queue)
    (hdecide : (s.joined a w p).decidePage p = decidePageWith flushWaiters p 128
      (State.issueHead p a.tag.toNat addr { s.joined a w p with slots := slots, wp := wp, mgmt := mgmt })) :
    ∃ t, s.arrive a = t ∧
      entriesAre s t a.tag.toNat
        (issuedEntry a.kind a.address (lenLines a.len) a.masks a.data .guard (some w) (some p) s.stampNow addr) ∧
      (∀ j, t.page j = s.page j) ∧
      t = { issued s t a.tag.toNat
          (issuedEntry a.kind a.address (lenLines a.len) a.masks a.data .guard (some w) (some p) s.stampNow addr) with
        port := arrived s.port, activity := counted s (some w) (oneMore a.kind), pst := t.pst
        slots := slots, wp := wp, mgmt := mgmt } := by
  obtain ⟨entries, pst, hissue, hentries, hpst⟩ := issueHead_single (p := p)
    (u := { s.joined a w p with slots := slots, wp := wp, mgmt := mgmt }) joined_self rfl hmem addr
  rw [arrive_guarded h hgood, hdecide, hissue]
  generalize hu : ({ s.joined a w p with
    slots := slots, wp := wp, mgmt := mgmt, entries := entries, pst := pst
    tags := (s.joined a w p).tags.set .idle a.tag.toNat ⟨.queued, (s.joinedEntry a w p).kind, addr,
      (s.joinedEntry a w p).lines, (s.joinedEntry a w p).masks, (s.joinedEntry a w p).data, 0,
      some ((s.joined a w p).now + orMax (s.joined a w p).mem.responseTimeout)⟩
    mem := { (s.joined a w p).mem with
      takeList := (s.joined a w p).mem.takeList ++ [a.tag.toNat]
      sendQueue := (s.joined a w p).mem.sendQueue ++ [a.tag.toNat] } } : State) = u
  have hpage : ∀ j, u.page j = s.page j := fun j => by
    have hj : u.page j = pst.get .clear j := by rw [← hu]; rfl
    refine hj.trans ((hpst j).trans ?_)
    show (if j = p then { (s.joined a w p).page p with waitHead := none, waitTail := none, parityOk := true }
      else (s.joined a w p).page j) = _
    rw [joined_page, joined_page, if_pos rfl]
    split
    next hjp => rw [hjp]; exact guardArrival_page h
    · rfl
  have hentry : ∀ m, u.entry m = if m = a.tag.toNat then issuedAt (s.joinedEntry a w p) addr else s.entry m := fun m => by
    have hm : u.entry m = entries.get .freed m := by rw [← hu]; rfl
    refine hm.trans ((hentries m).trans ?_)
    show (if m = a.tag.toNat then issuedAt (s.joinedEntry a w p) addr else (s.joined a w p).entry m) = _
    rw [joined_entry]
    split <;> rfl
  have hbusy : (u.entry a.tag.toNat).state ≠ .free := by
    rw [hentry, if_pos rfl]
    exact nofun
  have hidle : u.ArbiterIdle := by rw [← hu]; exact ArbiterIdle.congr hsettled.arbiter rfl rfl rfl rfl hqueue
  have hdue : u.port.due = 0 := by rw [← hu]; exact hsettled.due
  rw [decidePageWith_none (by rw [hpage]; exact h.parity) (by rw [hpage]; exact h.head),
    finish_busy hidle hdue h.accepts.2.2.1 hbusy]
  refine ⟨u, rfl, hentry, hpage, ?_⟩
  subst hu
  rfl

/-- The records that a look-up of the page's rollback sources reads are sound. -/
theorem joined_sources : (s.joined a w p).restoring = true →
    ∀ y, y ∈ (s.joined a w p).sourceReads p → ((s.joined a w p).record y).parityOk = true := by
  intro hrestoring y hy
  have hagree : Agree s (s.joined a w p) p := joined_agree s
  rw [hagree.restoring] at hrestoring
  rw [hagree.sourceReads] at hy
  exact h.sources hrestoring y hy

/-- A guarded write whose page holds no rollback source is decided by its marks. -/
theorem joined_decideWrite (hsource : noSource s p) : decideWriteWith flushWaiters none p a.tag.toNat (s.joined a w p) =
    decideMarksWith flushWaiters none p a.tag.toNat (s.joined a w p) :=
  decideWriteWith_noSource (joined_noSource hsource) (joined_sources h)

end

theorem joined_effective {s : State} {a : Arrival} {w p : Nat} :
    (s.joined a w p).effective ((s.joined a w p).entry a.tag.toNat).stamp = s.effective s.stampNow := by
  rw [joined_self]
  exact effective_congr (s := s) (t := s.joined a w p) rfl _

theorem joined_address {s : State} {a : Arrival} {w p : Nat} :
    ((s.joined a w p).entry a.tag.toNat).address = a.address := by
  rw [joined_self]
  rfl

theorem joined_kind {s : State} {a : Arrival} {w p : Nat} : ((s.joined a w p).entry a.tag.toNat).kind = a.kind := by
  rw [joined_self]
  rfl

/-- Settles O39: a read is issued, and a write that its marks let pass. -/
theorem guardedRequestsAreIssuedFromAnEmptyList : Obligations.GuardedRequestsAreIssuedFromAnEmptyList := by
  intro s tag len addr w p h hsettled hmem
  refine ⟨?_, fun masks data hgood hsource hpass => ?_⟩
  · generalize ha : (⟨tag, .read, len, addr, [], [], true⟩ : Arrival) = a
    have h' : GuardArrival s a.tag a.len a.address w p := by rw [← ha]; exact h
    have hread : (s.joined a w p).decidePage p =
        decidePageWith flushWaiters p 128 ((s.joined a w p).issueHead p a.tag.toNat (readAddress s p a.address)) := by
      have haddress : readAddress (s.joined a w p) p a.address = readAddress s p a.address := by
        have hagree : Agree s (s.joined a w p) p := joined_agree s
        unfold readAddress
        rw [hagree.restoring, hagree.oldestSource]
        rfl
      refine (decidePageWith_read (k := 128) joined_parity joined_head joined_listed (by rw [joined_kind, ← ha])).trans ?_
      rw [issueReadWith_sound (joined_sources h'), joined_address, haddress]
    obtain ⟨t, ht, hspec⟩ := arrive_guarded_issued (slots := s.slots) (wp := s.wp) (mgmt := s.mgmt) h' hsettled hmem
      (by rw [← ha]) rfl hread
    subst ha
    exact ⟨t, congrArg _ ht, hspec⟩
  · generalize ha : (⟨tag, .write, len, addr, masks, data, payloadOk len masks data⟩ : Arrival) = a
    have h' : GuardArrival s a.tag a.len a.address w p := by rw [← ha]; exact h
    have hdecide : decideWriteWith flushWaiters none p a.tag.toNat (s.joined a w p) =
        (.left, (s.joined a w p).issueHead p a.tag.toNat a.address) := by
      rw [joined_decideWrite h' hsource, ← joined_address (s := s) (a := a) (w := w) (p := p)]
      by_cases hunmarked : s.ctl.state = .degraded ∨ s.effective s.stampNow = none
      · exact decideMarksWith_unmarked (hunmarked.imp_right joined_effective.trans)
      · obtain ⟨hctl, hmarked⟩ := not_or.1 hunmarked
        obtain ⟨x, r, hx, htop, hparity, hvalid, hresolved⟩ :=
          (hpass.resolve_left hctl).resolve_left hmarked
        have hagree : Agree s (s.joined a w p) p := joined_agree s
        rw [← hagree.chainTop] at htop
        rw [decideMarksWith_marked (u := s.joined a w p) (x := x) hctl (joined_effective.trans hx) fun y hy => ?_]
        · exact decideHeadWith_saved htop hvalid ((resolved_congr hagree.slots _).trans hresolved)
        · obtain rfl : r = y := Option.some.inj ((chainTop_eq_some htop).symm.trans hy)
          exact hparity
    obtain ⟨t, ht, hspec⟩ := arrive_guarded_issued (slots := s.slots) (wp := s.wp) (mgmt := s.mgmt) h' hsettled hmem
      (by rw [← ha]; exact hgood) rfl ((decidePageWith_left (k := 128) joined_parity joined_head joined_listed (by rw [joined_kind, ← ha]) hdecide))
    subst ha
    exact ⟨t, congrArg _ ht, hspec⟩

end Sys2Proof.Proofs
end

section
/-! The exhaustion policies (O42). -/

namespace Sys2Proof.Machine.State

variable {s u : State} {n p w k r x : Nat} {e : Entry} {a : Arrival} {flush : State → State}

theorem preserveWith_exhausted (h : u.pool.free = []) : preserveWith flush none p n x u = u.exhausted p n x :=
  if_pos ⟨rfl, h⟩

/-- A write without a frame under REFUSE (R69). -/
theorem exhausted_refuse (h : u.wp.policy = .refuse) : u.exhausted p n x =
    (.left, (((u.raise .framesEmpty).captureEntry .refusal n).popHead p n).refuse n .exhausted) := by
  unfold State.exhausted
  dsimp only
  rw [show (u.raise .framesEmpty).wp.policy = .refuse from h]

/-- The state of a write that BREAK lets pass: its mark damaged, the break counted (R70). -/
def broken (u : State) (x : Nat) : State :=
  { u with
    slots := u.slots.set .freed x { u.slot x with damaged := true }
    wp := { u.wp with breaks := satInc u.wp.breaks }
    mgmt := { u.mgmt with flags := u.mgmt.flags ||| BitVec.twoPow 21 8 } }

theorem broken_eq (u : State) (x : Nat) :
    ((u.raise .framesEmpty).damage x).setWp
      { (u.raise .framesEmpty).wp with breaks := satInc (u.raise .framesEmpty).wp.breaks } = u.broken x := by
  rw [show u.raise .framesEmpty =
    { u with mgmt := { u.mgmt with flags := u.mgmt.flags ||| BitVec.twoPow 21 8 } } from rfl]
  rfl

/-- A write without a frame under BREAK (R70). -/
theorem exhausted_break (h : u.wp.policy = .break) :
    u.exhausted p n x = (.left, (u.broken x).issueHead p n (u.entry n).address) := by
  unfold State.exhausted
  dsimp only
  split
  next hrefuse => exact absurd (h.symm.trans hrefuse) (by decide)
  next =>
    rw [broken_eq]
    rfl
  next hwait => exact absurd (h.symm.trans hwait) (by decide)

/-- The state of a write put in FRAME_WAIT, before the pressure check (R71). -/
def frameWaits (u : State) (n : Nat) : State :=
  { u with
    entries := u.entries.set .freed n { u.entry n with state := .frameWait, heldOn := none }
    pool := { u.pool with wait := u.pool.wait ++ [n] }
    mgmt := { u.mgmt with flags := u.mgmt.flags ||| BitVec.twoPow 21 8 } }

theorem exhausted_wait (h : u.wp.policy = .wait) : u.exhausted p n x = (.stays, (u.frameWaits n).pressureCheck) := by
  unfold State.exhausted
  dsimp only
  rw [show (u.raise .framesEmpty).wp.policy = .wait from h]
  rfl

/-- A pressure check leaves the demand queue and the offer. -/
theorem pressureCheck_copies (s : State) :
    s.pressureCheck.sweep.demand = s.sweep.demand ∧ s.pressureCheck.sweep.offer = s.sweep.offer := by
  by_cases h : s.RetireDue
  · obtain ⟨q, -, hq⟩ := pressureCheck_of_due h
    rw [hq]
    exact ⟨rfl, rfl⟩
  · rw [pressureCheck_of_not_due h]
    exact ⟨rfl, rfl⟩

theorem finish_pressureCheck (hidle : s.ArbiterIdle) (hdue : s.port.due = 0) (hn : n < 128)
    (hbusy : (s.entry n).state ≠ .free) : s.pressureCheck.finish = s.pressureCheck := by
  obtain ⟨hdemand, hoffer⟩ := s.pressureCheck_copies
  obtain ⟨slots, sweep, mgmt, h⟩ := s.pressureCheck_frame
  rw [h] at hdemand hoffer ⊢
  exact finish_busy (ArbiterIdle.congr hidle rfl rfl hdemand hoffer rfl) (by exact hdue) hn (by exact hbusy)

theorem popHead_single (he : u.entry n = e) (hnext : e.next = none) : u.popHead p n =
    (u.setEntry n { e with next := none }).putPage p { u.page p with waitHead := none, waitTail := none } := by
  unfold State.popHead
  rw [he]
  dsimp only
  rw [hnext]
  rfl

/-- A sound page's entry with other wait-list fields is written with sound parity. -/
theorem page_with_parity {v : PstEntry} (h : v.parityOk = true) (head tail : Option Nat) :
    ({ v with waitHead := head, waitTail := tail, parityOk := true } : PstEntry) =
      { v with waitHead := head, waitTail := tail } := by
  rw [h]

theorem earnCredit_pst (s : State) : s.earnCredit.pst = s.pst := by
  unfold State.earnCredit
  split_ifs <;> rfl

theorem refuse_pst (hup : s.port.up = true) (hbusy : (s.entry n).state ≠ .free) (reason : Reason) :
    (s.refuse n reason).pst = s.pst := by
  unfold State.refuse State.countRefusal
  rw [countRunning_eq, complete_eq (by exact hup) (by exact hbusy), earnCredit_pst]

/-- The decision of a page whose list a refusal has left empty. -/
theorem decidePageWith_refused (hup : u.port.up = true) (hbusy : (u.entry n).state ≠ .free)
    (hparity : (u.page p).parityOk = true) (hhead : (u.page p).waitHead = none) (reason : Reason) :
    decidePageWith flush p (k + 1) (u.refuse n reason) = u.refuse n reason := by
  have hpage : (u.refuse n reason).page p = u.page p := by
    unfold State.page
    rw [refuse_pst hup hbusy]
  exact decidePageWith_none (by rw [hpage]; exact hparity) (by rw [hpage]; exact hhead)

end Sys2Proof.Machine.State

namespace Sys2Proof.Proofs

open Sys2Proof.Machine Sys2Proof.Machine.State

section
variable {s : State} {a : Arrival} {w p x : Nat}

/-- A guarded write that needs a preservation and finds no frame meets the exhaustion policy. -/
theorem joined_exhausted (h : GuardArrival s a.tag a.len a.address w p) (hsource : noSource s p)
    (hctl : s.ctl.state ≠ .degraded) (hx : s.effective s.stampNow = some x)
    (hhead : ∀ y, (s.page p).chainHead = some y → (s.record y).parityOk = true)
    (htop : s.chainTop p = none ∨ (∃ y, s.chainTop p = some y ∧ (s.record y).state = .valid ∧
      s.resolved (s.record y) ≠ some x)) (hfree : s.pool.free = []) :
    decideWriteWith flushWaiters none p a.tag.toNat (s.joined a w p) = (s.joined a w p).exhausted p a.tag.toNat x := by
  have hagree : Agree s (s.joined a w p) p := joined_agree s
  rw [joined_decideWrite h hsource, decideMarksWith_marked (u := s.joined a w p) (x := x) hctl (joined_effective.trans hx)
    fun y hy => hhead y (hagree.chainHead.symm.trans hy), decideHeadWith_preserve,
    preserveWith_exhausted (u := s.joined a w p) hfree]
  rw [hagree.chainTop]
  refine htop.imp_right fun ⟨y, hy, hvalid, hother⟩ => ⟨y, hy, ?_, fun hsaved => ?_⟩
  · rw [show ((s.joined a w p).record y).state = .valid from hvalid]
    exact nofun
  · exact hother ((resolved_congr hagree.slots _).symm.trans hsaved.2)

end

section
variable {s : State} {a : Arrival} {w p : Nat}

/-- The state of a guarded write that has left its list to be refused. -/
def unlisted (s : State) (a : Arrival) (w p : Nat) : State :=
  { s.joined a w p with
    entries := (s.joined a w p).entries.set .freed a.tag.toNat { s.joinedEntry a w p with next := none }
    pst := (s.joined a w p).pst.set .clear p
      { (s.joined a w p).page p with waitHead := none, waitTail := none, parityOk := true }
    mgmt := reported s.mgmt 8 .refusal (some a.tag.toNat) (some a.address) (some w) }

theorem capture_popHead : (((s.joined a w p).raise .framesEmpty).captureEntry .refusal a.tag.toNat).popHead p a.tag.toNat =
    unlisted s a w p := by
  have hcapture : ((s.joined a w p).raise .framesEmpty).captureEntry .refusal a.tag.toNat = { s.joined a w p with
      mgmt := reported s.mgmt 8 .refusal (some a.tag.toNat) (some a.address) (some w) } := by
    unfold State.captureEntry
    rw [capture_raise, raise_entry, joined_self]
    rfl
  rw [hcapture, popHead_single (u := { s.joined a w p with
    mgmt := reported s.mgmt 8 .refusal (some a.tag.toNat) (some a.address) (some w) }) joined_self rfl]
  rfl

theorem unlisted_entry (s : State) (m : Nat) : (unlisted s a w p).entry m =
    if m = a.tag.toNat then { s.joinedEntry a w p with next := none } else s.entry m := by
  refine (Table.get_set ..).trans ?_
  show (if m = a.tag.toNat then _ else (s.joined a w p).entry m) = _
  rw [joined_entry]
  split <;> rfl

theorem act_counted (s : State) (w : Nat) (f : Counts → Counts) (v : Nat) : (counted s (some w) f).get .zero v =
    if v = w then { s.act w with running := f (s.act w).running } else s.act v := Table.get_set ..

theorem unlisted_act (v : Nat) : (unlisted s a w p).act v =
    if v = w then { s.act w with running := oneMore a.kind (s.act w).running } else s.act v := act_counted s w _ v

theorem unlisted_page (h : GuardArrival s a.tag a.len a.address w p) (j : Nat) : (unlisted s a w p).page j = s.page j := by
  refine (Table.get_set ..).trans ?_
  show (if j = p then _ else (s.joined a w p).page j) = _
  rw [joined_page, joined_page, if_pos rfl]
  split
  next hj => rw [hj]; exact guardArrival_page h
  · rfl

end

/-- Settles O42: the policy decides what a write without a frame meets. -/
theorem exhaustionFollowsThePolicy : Obligations.ExhaustionFollowsThePolicy := by
  intro s tag len addr masks data w p x h hsource hsettled hgood hctl hx hhead htop hfree
  generalize ha : (⟨tag, .write, len, addr, masks, data, payloadOk len masks data⟩ : Arrival) = a
  have hgood' : a.payloadGood = true := by rw [← ha]; exact hgood
  have h' : GuardArrival s a.tag a.len a.address w p := by rw [← ha]; exact h
  have hkind : ((s.joined a w p).entry a.tag.toNat).kind = .write := by rw [joined_kind, ← ha]
  have hdecide := joined_exhausted h' hsource hctl hx hhead htop hfree
  have hexec : exec (.write tag len addr masks data) s = .next (s.arrive a) := by rw [← ha]; rfl
  rw [hexec]
  refine ⟨fun hpolicy => ?_, fun hpolicy hmem => ?_, fun hpolicy => ?_⟩
  · rw [exhausted_refuse (u := s.joined a w p) hpolicy] at hdecide
    rw [capture_popHead] at hdecide
    have hpage : ∀ j, (unlisted s a w p).page j = s.page j := unlisted_page h'
    have hbusy : ((unlisted s a w p).entry a.tag.toNat).state ≠ .free := by
      rw [unlisted_entry, if_pos rfl]
      exact nofun
    have hleft : (s.joined a w p).decidePage p = (unlisted s a w p).refuse a.tag.toNat .exhausted :=
      (decidePageWith_left (k := 128) joined_parity joined_head joined_listed hkind hdecide).trans
        (decidePageWith_refused (u := unlisted s a w p)
          h'.accepts.1 hbusy (by rw [hpage]; exact h.parity) (by rw [hpage]; exact h.head) _)
    obtain ⟨t, hfinish, hentries, ht⟩ := finish_refuse (s := unlisted s a w p) (n := a.tag.toNat) rfl hbusy h'.accepts.1 hsettled.due
      (ArbiterIdle.congr hsettled.arbiter rfl rfl rfl rfl rfl) .exhausted
    have hwindow : ((unlisted s a w p).entry a.tag.toNat).window = some w := by
      rw [unlisted_entry, if_pos rfl]
      rfl
    rw [hwindow] at ht
    rw [arrive_guarded h' hgood', hleft]
    refine ⟨t, congrArg _ hfinish, ?_, fun j => ?_, fun v => ?_, ?_⟩
    · subst ha
      exact entriesAre_of_set (unlisted_entry s) hentries
    · rw [← hpage j, ht]
      rfl
    · have hact : t.act v = (counted (unlisted s a w p) (some w)
          fun c => { c with refusals := satInc c.refusals }).get .zero v := by rw [ht]; rfl
      refine hact.trans ((act_counted _ w _ v).trans ?_)
      rw [unlisted_act, unlisted_act, if_pos rfl, ← ha]
      split <;> rfl
    · have hpst : t.pst = (unlisted s a w p).pst := by rw [ht]
      have hactivity : t.activity = counted (unlisted s a w p) (some w)
        fun c => { c with refusals := satInc c.refusals } := by rw [ht]
      rw [hpst, hactivity]
      subst ha
      exact ht
  · rw [exhausted_break (u := s.joined a w p) hpolicy, joined_address] at hdecide
    obtain ⟨t, ht, hentries, hpages, hspec⟩ := arrive_guarded_issued (slots := ((s.joined a w p).broken x).slots)
      (wp := ((s.joined a w p).broken x).wp) (mgmt := ((s.joined a w p).broken x).mgmt) h' hsettled hmem hgood' rfl
      (decidePageWith_left (k := 128) joined_parity joined_head joined_listed hkind hdecide)
    refine ⟨t, congrArg _ ht, ?_, hpages, fun q => ?_, ?_⟩
    · subst ha
      exact hentries
    · rw [hspec]
      exact Table.get_set ..
    · have hslots : t.slots = ((s.joined a w p).broken x).slots := by rw [hspec]
      rw [hslots]
      subst ha
      exact hspec
  · rw [exhausted_wait (u := s.joined a w p) hpolicy] at hdecide
    have hstays : (s.joined a w p).decidePage p = ((s.joined a w p).frameWaits a.tag.toNat).pressureCheck :=
      decidePageWith_stays joined_parity joined_head joined_listed hkind hdecide
    have hidle : ((s.joined a w p).frameWaits a.tag.toNat).ArbiterIdle :=
      ArbiterIdle.congr hsettled.arbiter rfl rfl rfl rfl rfl
    have hentry : ∀ m, ((s.joined a w p).frameWaits a.tag.toNat).entry m = if m = a.tag.toNat then
        { s.joinedEntry a w p with state := .frameWait, heldOn := none } else s.entry m := fun m => by
      refine (Table.get_set ..).trans ?_
      show (if m = a.tag.toNat then { (s.joined a w p).entry a.tag.toNat with state := .frameWait, heldOn := none }
        else (s.joined a w p).entry m) = _
      rw [joined_self, joined_entry]
      split <;> rfl
    rw [arrive_guarded h' hgood', hstays, finish_pressureCheck hidle hsettled.due h'.accepts.2.2.1
      (by rw [hentry, if_pos rfl]; exact nofun)]
    refine ⟨_, rfl, ?_, ?_, ?_⟩
    · subst ha
      exact hentry
    · intro j
      refine (joined_page (w := w) (a := a) s j).trans ?_
      rw [page_with_parity h.parity, ← ha]
    · subst ha
      rfl

end Sys2Proof.Proofs
end

section
/-! A copy job as a channel starts it, and the arbiter with one job to give (R127, R130). -/

namespace Sys2Proof.Machine.State

variable {s : State} {c : Nat} {j : Job}

/-- The memory port after it has taken requests on the tags of a list. -/
def taken (m : MemoryPort) (l : List Nat) : MemoryPort :=
  { m with takeList := m.takeList ++ l, sendQueue := m.sendQueue ++ l }

/-- The tag of a chunk's read that the memory port takes now. -/
def chunkTag (s : State) (j : Job) (i : Nat) : TagRecord :=
  ⟨.queued, .read, addrAt j.source (i * 256), 4, [], [], 0, some (s.now + orMax s.mem.responseTimeout)⟩

theorem chunkRead_first {k m : Nat} (hup : s.mem.up = true) (hchan : s.chan c = ⟨.running, some j, m, 0⟩) :
    s.chunkRead c k = { s with
      channels := s.channels.set .reset c ⟨.running, some j, m + 1, 0⟩
      copyTags := s.copyTags.set .reset k { s.copyTag k with use := .read m }
      tags := s.tags.set .idle k (s.chunkTag j m)
      mem := taken s.mem [k] } := by
  rw [chunkRead_up hup (by rw [hchan]), hchan]
  rfl

/-- The first chunk reads of a job, on each of a list of tags in turn. -/
theorem foldl_chunkRead {l : List Nat} {m : Nat} (hnodup : l.Nodup) (hup : s.mem.up = true)
    (hchan : s.chan c = ⟨.running, some j, m, 0⟩) : ∃ channels copyTags tags,
    l.foldl (fun s t => s.chunkRead c t) s = { s with
      channels := channels, copyTags := copyTags, tags := tags, mem := taken s.mem l } ∧
    (∀ d, channels.get .reset d = if d = c then ⟨.running, some j, m + l.length, 0⟩ else s.chan d) ∧
    (∀ k, k ∉ l → copyTags.get .reset k = s.copyTag k ∧ tags.get .idle k = s.tag k) ∧
    ∀ i k, l[i]? = some k → copyTags.get .reset k = { s.copyTag k with use := .read (m + i) } ∧
      tags.get .idle k = s.chunkTag j (m + i) := by
  induction l generalizing s m with
  | nil =>
    refine ⟨s.channels, s.copyTags, s.tags, ?_, fun d => ?_, fun _ _ => ⟨rfl, rfl⟩, fun i k h => by cases h⟩
    · unfold taken
      rw [List.append_nil, List.append_nil]
      rfl
    · show s.chan d = _
      split
      next hd => rw [hd, hchan]; rfl
      · rfl
  | cons x l ih =>
    obtain ⟨hx, hnodup⟩ := List.nodup_cons.1 hnodup
    have hone := chunkRead_first (k := x) hup hchan
    generalize hu : ({ s with
      channels := s.channels.set .reset c ⟨.running, some j, m + 1, 0⟩
      copyTags := s.copyTags.set .reset x { s.copyTag x with use := .read m }
      tags := s.tags.set .idle x (s.chunkTag j m), mem := taken s.mem [x] } : State) = u at hone
    have hchanu : ∀ d, u.chan d = if d = c then ⟨.running, some j, m + 1, 0⟩ else s.chan d := by
      rw [← hu]
      exact fun d => Table.get_set ..
    have hcopy : ∀ k, u.copyTag k = if k = x then { s.copyTag x with use := .read m } else s.copyTag k := by
      rw [← hu]
      exact fun k => Table.get_set ..
    have htag : ∀ k, u.tag k = if k = x then s.chunkTag j m else s.tag k := by
      rw [← hu]
      exact fun k => Table.get_set ..
    have hmem : u.mem = taken s.mem [x] := by rw [← hu]
    have htaken : taken u.mem l = taken s.mem (x :: l) := by
      rw [hmem]
      unfold taken
      dsimp only
      rw [List.append_assoc, List.append_assoc, List.singleton_append]
    obtain ⟨channels, copyTags, tags, hfold, hchannels, hother, hread⟩ :=
      ih hnodup (s := u) (m := m + 1) (by rw [hmem]; exact hup) (by rw [hchanu, if_pos rfl])
    refine ⟨channels, copyTags, tags, ?_, fun d => ?_, fun k hk => ?_, fun i k hik => ?_⟩
    · rw [List.foldl_cons, hone, hfold, htaken]
      subst hu
      rfl
    · rw [hchannels, hchanu, List.length_cons]
      split
      · rw [Nat.add_assoc, Nat.add_comm 1]
      · rfl
    · have hkx : k ≠ x := fun h => hk (h ▸ List.mem_cons_self ..)
      have hkl : k ∉ l := fun h => hk (List.mem_cons_of_mem _ h)
      rw [(hother k hkl).1, (hother k hkl).2, hcopy, htag, if_neg hkx, if_neg hkx]
      exact ⟨rfl, rfl⟩
    · cases i with
      | zero =>
        obtain rfl : x = k := Option.some.inj hik
        rw [(hother x hx).1, (hother x hx).2, hcopy, htag, if_pos rfl, if_pos rfl]
        exact ⟨rfl, rfl⟩
      | succ i =>
        have hik : l[i]? = some k := hik
        have hkx : k ≠ x := fun hkx => hx (hkx ▸ List.mem_of_getElem? hik)
        obtain ⟨hcopyk, htagk⟩ := hread i k hik
        have hnow : u.now = s.now := by rw [← hu]
        have htimeout : u.mem.responseTimeout = s.mem.responseTimeout := by rw [hmem]; rfl
        rw [hcopyk, htagk, hcopy, if_neg hkx, Nat.add_assoc, Nat.add_comm 1 i]
        refine ⟨rfl, ?_⟩
        unfold chunkTag
        rw [hnow, htimeout]

/-- The FREE tags of channel `c`, lowest first. -/
def freeTags (s : State) (c : Nat) : List Nat := (chanTags c).filter fun t => (s.copyTag t).use == .free

theorem nodup_chanTags (c : Nat) : (chanTags c).Nodup := by
  simp [chanTags]

/-- A job started by a channel with some FREE tag, the memory port's link being up. -/
theorem startJob_spec (hup : s.mem.up = true) (hfree : s.freeTags c ≠ []) : ∃ t, s.startJob c j = t ∧
    jobStarted s t c j (s.freeTags c) ∧
    t = { s with channels := t.channels, copyTags := t.copyTags, tags := t.tags, mem := t.mem } := by
  have hchan : (s.setChan c ⟨.running, some j, 0, 0⟩).chan c = ⟨.running, some j, 0, 0⟩ := Table.get_set_same ..
  have hnodup : (s.freeTags c).Nodup := List.Nodup.filter _ (nodup_chanTags c)
  obtain ⟨channels, copyTags, tags, hfold, hchannels, hother, hread⟩ :=
    foldl_chunkRead (s := s.setChan c ⟨.running, some j, 0, 0⟩) (l := s.freeTags c) hnodup hup hchan
  have hstart : s.startJob c j = State.settleChan c { s.setChan c ⟨.running, some j, 0, 0⟩ with
      channels := channels, copyTags := copyTags, tags := tags, mem := taken s.mem (s.freeTags c) } :=
    congrArg (State.settleChan c) hfold
  have hsettle : ∀ t : State, (t.chan c).job = some j → (∃ k, k ∈ chanTags c ∧ (t.copyTag k).use.busy = true) →
      t.settleChan c = t := by
    intro t hjob hbusy
    unfold State.settleChan
    rw [hjob]
    exact if_pos (List.any_eq_true.2 hbusy)
  rw [hstart, hsettle]
  · refine ⟨_, rfl, ⟨fun d => (hchannels d).trans ?_, hother, fun i k hik => ?_, rfl⟩, rfl⟩
    · rw [Nat.zero_add]
      split
      · rfl
      next hd => exact Table.get_set_other _ _ _ hd
    · obtain ⟨hcopy, htag⟩ := hread i k hik
      rw [Nat.zero_add] at hcopy htag
      exact ⟨hcopy, htag⟩
  · refine (congrArg Channel.job (hchannels c)).trans ?_
    rw [if_pos rfl]
  · obtain ⟨k, l, hl⟩ := List.exists_cons_of_ne_nil hfree
    have hk : (s.freeTags c)[0]? = some k := by rw [hl]; rfl
    refine ⟨k, List.mem_of_mem_filter (List.mem_of_getElem? hk), ?_⟩
    show (copyTags.get .reset k).use.busy = true
    rw [(hread 0 k hk).1]
    rfl

end Sys2Proof.Machine.State
end

section
/-! The arbiter with one job to give (R130). -/

namespace Sys2Proof.Machine.State

variable {s t : State} {c n : Nat} {j : Job}

/-- An IDLE channel that the arbiter can use has a FREE tag. -/
theorem freeTags_of_idleChannel (h : s.idleChannel = some c) : s.freeTags c ≠ [] := by
  have hfound := List.find?_some h
  rw [Bool.and_eq_true] at hfound
  obtain ⟨k, hk, hfree⟩ := List.any_eq_true.1 hfound.2
  exact List.ne_nil_of_mem (List.mem_filter.2 ⟨hk, hfree⟩)

theorem idleChannel_lt (h : s.idleChannel = some c) : c < 4 := mem_chanIds.1 (List.mem_of_find?_eq_some h)

/-- With one queued job and nothing else to give, the arbiter starts that job in the idle channel. -/
theorem arbitrate_oneJob (hidle : s.idleChannel = some c) (hup : s.mem.up = true) (hqueue : s.wp.queue = [j])
    (hbacklog : s.wp.backlog = []) (hdemand : s.sweep.demand = []) (hoffer : s.sweep.offer = none) :
    ∃ t, s.arbitrate = t ∧ jobStarted s t c j (s.freeTags c) ∧
      t = { s with
        channels := t.channels, copyTags := t.copyTags, tags := t.tags, mem := t.mem
        wp := { s.wp with queue := [] } } := by
  obtain ⟨t, hstart, hjob, ht⟩ := startJob_spec (s := { s with wp := { s.wp with queue := [], backlog := [] } })
    (c := c) (j := j) hup (freeTags_of_idleChannel hidle)
  have htake : s.takePreservation c j [] = t := by
    unfold State.takePreservation
    rw [hbacklog]
    exact hstart
  have hquiet : t.ArbiterIdle := by
    rw [ht]
    exact arbiterIdle_of_empty rfl hdemand hoffer
  have hone : ∀ k, arbitrateFrom (k + 1) s = arbitrateFrom k (s.takePreservation c j []) := fun k => by
    rw [arbitrateFrom, hidle, hdemand, hqueue]
  have hwp : ({ s.wp with queue := [] } : WritePath) = { s.wp with queue := [], backlog := [] } := by rw [← hbacklog]
  refine ⟨t, ?_, hjob, ?_⟩
  · unfold State.arbitrate State.arbiterRounds
    rw [show s.wp.queue.length + s.wp.backlog.length + s.sweep.demand.length + 513 =
      (s.wp.queue.length + s.wp.backlog.length + s.sweep.demand.length + 512) + 1 from rfl, hone, htake,
      arbitrateFrom_idle hquiet]
  · rw [hwp]
    exact ht

/-- The end of a step that has made one job, an entry being in use. -/
theorem finish_oneJob (hidle : s.idleChannel = some c) (hup : s.mem.up = true) (hqueue : s.wp.queue = [j])
    (hbacklog : s.wp.backlog = []) (hdemand : s.sweep.demand = []) (hoffer : s.sweep.offer = none)
    (hdue : s.port.due = 0) (hn : n < 128) (hbusy : (s.entry n).state ≠ .free) :
    ∃ t, s.finish = t ∧ jobStarted s t c j (s.freeTags c) ∧
      t = { s with
        channels := t.channels, copyTags := t.copyTags, tags := t.tags, mem := t.mem
        wp := { s.wp with queue := [] } } := by
  obtain ⟨t, harbitrate, hjob, ht⟩ := arbitrate_oneJob hidle hup hqueue hbacklog hdemand hoffer
  have hfinish : t.finish = t := by
    rw [ht]
    exact finish_busy (by exact arbiterIdle_of_empty rfl hdemand hoffer) hdue hn hbusy
  have hquiet : t.arbitrate = t := by
    rw [ht]
    exact arbitrateFrom_idle (by exact arbiterIdle_of_empty rfl hdemand hoffer) _
  refine ⟨t, ?_, hjob, ht⟩
  unfold State.finish at hfinish ⊢
  rw [harbitrate]
  rw [hquiet] at hfinish
  exact hfinish

end Sys2Proof.Machine.State
end

section
/-! An allocation for a page whose records are all of older marks (R45, R50, R53, R62). -/

namespace Sys2Proof.Machine.State

variable {s u : State} {p r n x : Nat}

/-! ## At the head of a chain (R50) -/

theorem chain_of_chainTop {y : Nat} (h : s.chainTop p = some y) : ∃ l, s.chain p = y :: l := by
  have hhead := chainTop_eq_some h
  have hlink : s.chainLink p [] (some y) = some y := by
    unfold State.chainTop at h
    rwa [hhead] at h
  unfold State.chain
  rw [hhead]
  unfold State.chainFrom
  rw [hlink]
  exact ⟨_, rfl⟩

theorem chain_of_noHead (h : (s.page p).chainHead = none) : s.chain p = [] := by
  unfold State.chain
  rw [h]
  rfl

/-- A record of a mark newer than the chain head's goes in at the head. -/
theorem chainInsert_head (h : ∀ y, (s.page p).chainHead = some y →
      s.chainTop p = some y ∧ y ≠ r ∧ s.recSeq y < s.recSeq r) : s.chainInsert p r =
    (s.putRec r { s.record r with older := (s.page p).chainHead }).putPage p
      { s.page p with chainHead := some r } := by
  unfold State.chainInsert
  cases hhead : (s.page p).chainHead with
  | none =>
    rw [chain_of_noHead hhead]
    rfl
  | some y =>
    obtain ⟨htop, hne, hlt⟩ := h y hhead
    obtain ⟨l, hl⟩ := chain_of_chainTop htop
    have hle : ¬s.recSeq r ≤ s.recSeq y := BitVec.not_le.2 hlt
    dsimp only
    rw [hl, List.takeWhile_cons_of_pos (p := fun x => x != r) (by simpa using hne),
      List.takeWhile_cons_of_neg (p := fun x => decide (s.recSeq r ≤ s.recSeq x)) (by simpa using hle),
      List.dropWhile_cons_of_neg (p := fun x => decide (s.recSeq r ≤ s.recSeq x)) (by simpa using hle)]
    rfl

/-! ## At the tail of a journal (R53) -/

theorem record_of_put {records : Table Record} {v : Record} (y : Nat) : (records.set .freed r v).get .freed y =
    if y = r then v else records.get .freed y := Table.get_set ..

theorem journalAppend_none {q : Nat} (h : (s.journalLink (s.slot q).tail).filter (fun y => y != r) = none) :
    s.journalAppend q r =
      ((s.putRec r { s.record r with slot := some q, jOlder := none, jNewer := none }).setSlot q
        { s.slot q with head := some r }).setSlot q
          { s.slot q with head := some r, tail := some r, count := (s.slot q).count + 1 } := by
  unfold State.journalAppend
  dsimp only
  rw [h]
  dsimp only
  rw [setSlot_slot, if_pos rfl]
  rfl

theorem journalAppend_some {q z : Nat} (h : (s.journalLink (s.slot q).tail).filter (fun y => y != r) = some z)
    (hz : z ≠ r) : s.journalAppend q r =
      ((s.putRec r { s.record r with slot := some q, jOlder := some z, jNewer := none }).putRec z
        { s.record z with jNewer := some r }).setSlot q
          { s.slot q with tail := some r, count := (s.slot q).count + 1 } := by
  unfold State.journalAppend
  dsimp only
  rw [h]
  dsimp only
  rw [show (State.putRec r _ s).record z = s.record z from (record_of_put z).trans (if_neg hz)]
  rfl

/-- A record goes in behind a tail that the tables bear out, or into an empty journal. -/
theorem journalAppend_spec {q : Nat} (htail : ∀ y, (s.slot q).tail = some y → y ≠ r ∧ (s.record y).state ≠ .free) :
    ∃ records slots, s.journalAppend q r = { s with records := records, slots := slots } ∧
    (∀ y, records.get .freed y = if y = r then
        { s.record r with slot := some q, jOlder := (s.slot q).tail, jNewer := none, parityOk := true }
      else if (s.slot q).tail = some y then { s.record y with jNewer := some r, parityOk := true } else s.record y) ∧
    ∀ i, slots.get .freed i = if i = q then
        { s.slot q with
          head := if (s.slot q).tail = none then some r else (s.slot q).head, tail := some r
          count := (s.slot q).count + 1 }
      else s.slot i := by
  cases hq : (s.slot q).tail with
  | none =>
    rw [journalAppend_none (by rw [hq]; rfl)]
    refine ⟨_, _, rfl, fun y => ?_, fun i => tableGet_set_set s.slots .freed q i _ _⟩
    rw [if_neg (c := none = some y) nofun]
    exact record_of_put y
  | some z =>
    obtain ⟨hzr, hz⟩ := htail z hq
    have hlink : (s.journalLink (s.slot q).tail).filter (fun y => y != r) = some z := by
      rw [hq]
      unfold State.journalLink
      dsimp only
      rw [if_pos hz]
      simp [hzr]
    rw [journalAppend_some hlink hzr]
    refine ⟨_, _, rfl, fun y => (record_of_put y).trans ?_, fun i => Table.get_set ..⟩
    by_cases hyz : y = z
    · rw [if_pos hyz, if_neg (hyz ▸ hzr), if_pos (by rw [hyz]), hyz]
    · rw [if_neg hyz, if_neg (c := some z = some y) (fun h => hyz (Option.some.inj h).symm)]
      exact record_of_put y

end Sys2Proof.Machine.State
end

section
/-! An allocation, step by step (R62). -/

namespace Sys2Proof.Machine.State

variable {s u : State} {p r n x w : Nat} {e : Entry}

/-- The record of an allocation for page `p` at mark slot `x`, before it is linked. -/
def newRecord (p x number : Nat) : Record := ⟨.copying, some p, some number, some x, none, none, none, false, true⟩

theorem putRec_record (v : Record) (y : Nat) : (s.putRec r v).record y = if y = r then { v with parityOk := true }
    else s.record y := Table.get_set ..

theorem recSeq_putRec_other {v : Record} {y : Nat} (h : y ≠ r) : (s.putRec r v).recSeq y = s.recSeq y := by
  unfold State.recSeq
  rw [putRec_record, if_neg h]
  rfl

theorem recSeq_putRec_same {v : Record} (hslot : v.slot = some x) (hx : x < 5) (hstate : (s.slot x).state ≠ .free) :
    (s.putRec r v).recSeq r = (s.slot x).seq := by
  have hof : (s.putRec r v).slotOf ((s.putRec r v).record r) = some x := by
    rw [putRec_record, if_pos rfl]
    exact Proofs.slotOf_eq (s := s.putRec r v) hslot hx hstate
  unfold State.recSeq
  rw [hof]
  rfl

theorem chainTop_of_record {t : State} {y : Nat} (h : s.chainTop p = some y) (hhead : (t.page p).chainHead = some y)
    (hrecord : t.record y = s.record y) : t.chainTop p = some y := by
  have hs := chainTop_eq_some h
  unfold State.chainTop at h ⊢
  rw [hhead]
  rw [hs] at h
  unfold State.chainLink at h ⊢
  dsimp only at h ⊢
  rw [hrecord]
  exact h

/-- What a chain's head is for a record that is to go in before it: sound in the tables, and of an older mark. -/
def OlderHead (s : State) (p x : Nat) : Prop :=
  ∀ y, (s.page p).chainHead = some y → s.chainTop p = some y ∧ s.recSeq y < (s.slot x).seq

/-- What a journal's tail is for a record that is to go in behind it. -/
def SoundTail (s : State) (r x : Nat) : Prop :=
  ∀ y, (s.slot x).tail = some y → y ≠ r ∧ (s.record y).state ≠ .free ∧ (s.record y).parityOk = true

theorem ne_of_chainTop {y : Nat} (h : s.chainTop p = some y) (hfree : (s.record r).state = .free) : y ≠ r := by
  intro hy
  have hhead := chainTop_eq_some h
  unfold State.chainTop at h
  rw [hhead] at h
  unfold State.chainLink at h
  dsimp only at h
  split at h
  next hok => exact hok.1 (hy ▸ hfree)
  · cases h

/-- FRAMES_LOW as an allocation leaves it (R58). -/
def lowFlags (s : State) : Mgmt :=
  if s.pool.free.length < s.pool.lowWater.toNat then
    { s.mgmt with flags := s.mgmt.flags ||| BitVec.twoPow 21 7 }
  else s.mgmt

theorem raise_framesLow (s : State) : (if s.pool.free.length < s.pool.lowWater.toNat then s.raise .framesLow else s) =
    { s with mgmt := s.lowFlags } := by
  unfold lowFlags
  split <;> rfl

theorem queueJob_eq (hqueue : s.wp.queue.length < 128) (hintake : s.port.intake ≠ .closed) (j : Job) :
    s.queueJob j = { s with wp := { s.wp with queue := s.wp.queue ++ [j] } } := by
  unfold State.queueJob
  refine (if_pos hqueue).trans (if_neg ?_)
  exact hintake

theorem hold_countPreserve (he : s.entry n = e) (hw : e.window = some w) :
    (s.hold n (.record r)).countPreserve (s.entry n).window = { s with
      entries := s.entries.set .freed n { e with state := .held, heldOn := some (.record r) }
      activity := counted s (some w) fun c => { c with preserves := satInc c.preserves } } := by
  have hwindow : (s.entry n).window = some w := by rw [he, hw]
  rw [hwindow]
  unfold State.hold
  rw [he]
  rfl

/-- What an allocation does behind the links: the job, the write HELD, the count. -/
theorem saveJob_eq (he : s.entry n = e) (hw : e.window = some w) (hqueue : s.wp.queue.length < 128)
    (hintake : s.port.intake ≠ .closed) (job : Job) :
    ((State.queueJob job { s with mgmt := s.lowFlags }).hold n (.record r)).countPreserve
      ((State.queueJob job { s with mgmt := s.lowFlags }).entry n).window = { s with
      entries := s.entries.set .freed n { e with state := .held, heldOn := some (.record r) }
      activity := counted s (some w) fun c => { c with preserves := satInc c.preserves }
      wp := { s.wp with queue := s.wp.queue ++ [job] }
      mgmt := s.lowFlags } := by
  rw [queueJob_eq (s := { s with mgmt := s.lowFlags }) hqueue hintake]
  exact hold_countPreserve (s := { s with mgmt := s.lowFlags, wp := { s.wp with queue := s.wp.queue ++ [job] } }) he hw

section
variable (hx : x < 5) (hlive : (s.slot x).state ≠ .free) (hfree : (s.record r).state = .free)
include hx hlive hfree

/-- The new record at the head of its page's chain. -/
theorem chainInsert_newRecord (hhead : OlderHead s p x) (number : Nat) :
    (s.putRec r (newRecord p x number)).chainInsert p r =
      ((s.putRec r (newRecord p x number)).putRec r
        { newRecord p x number with older := (s.page p).chainHead }).putPage p { s.page p with chainHead := some r } := by
  have hself : (s.putRec r (newRecord p x number)).record r = newRecord p x number := by
    rw [putRec_record, if_pos rfl]
    rfl
  rw [chainInsert_head, hself]
  · rfl
  · intro y hy
    obtain ⟨htop, hlt⟩ := hhead y hy
    have hne := ne_of_chainTop htop hfree
    refine ⟨chainTop_of_record htop hy ((putRec_record _ y).trans (if_neg hne)), hne, ?_⟩
    rw [recSeq_putRec_other hne, recSeq_putRec_same rfl hx hlive]
    exact hlt

/-- The new record in its page's chain and its mark's journal. -/
theorem linked_spec (hhead : OlderHead s p x) (htail : SoundTail s r x) (number : Nat) : ∃ records slots,
    ((s.putRec r (newRecord p x number)).chainInsert p r).journalAppend x r = { s with
      records := records, slots := slots
      pst := s.pst.set .clear p { s.page p with chainHead := some r, parityOk := true } } ∧
    (∀ y, records.get .freed y = if y = r then
        ⟨.copying, some p, some number, some x, (s.page p).chainHead, (s.slot x).tail, none, false, true⟩
      else if (s.slot x).tail = some y then { s.record y with jNewer := some r } else s.record y) ∧
    ∀ i, slots.get .freed i = if i = x then
        { s.slot x with
          head := if (s.slot x).tail = none then some r else (s.slot x).head, tail := some r
          count := (s.slot x).count + 1 }
      else s.slot i := by
  rw [chainInsert_newRecord hx hlive hfree hhead]
  generalize hu : ((s.putRec r (newRecord p x number)).putRec r
    { newRecord p x number with older := (s.page p).chainHead }).putPage p { s.page p with chainHead := some r } = u
  have hrecord : ∀ y, u.record y = if y = r then { newRecord p x number with older := (s.page p).chainHead }
      else s.record y := by
    rw [← hu]
    exact fun y => tableGet_set_set s.records .freed r y _ _
  have hslot : ∀ i, u.slot i = s.slot i := fun i => by rw [← hu]; rfl
  obtain ⟨records, slots, heq, hrecords, hslots⟩ := journalAppend_spec (s := u) (q := x) (r := r) fun y hy => by
    rw [hslot] at hy
    obtain ⟨hne, hy, -⟩ := htail y hy
    rw [hrecord, if_neg hne]
    exact ⟨hne, hy⟩
  refine ⟨records, slots, ?_, fun y => ?_, fun i => ?_⟩
  · rw [heq, ← hu]
    rfl
  · rw [hrecords, hrecord, if_pos rfl, hslot, hrecord]
    split
    · rfl
    · split
      next hy => rw [← (htail y hy).2.2]
      · rfl
  · rw [hslots, hslot, hslot]

/-- What an allocation does with record `r` for write `n`, the queue having room for its job. -/
theorem allocate_spec (hhead : OlderHead s p x) (htail : SoundTail s r x) (he : s.entry n = e) (hw : e.window = some w)
    (hqueue : s.wp.queue.length < 128) (hintake : s.port.intake ≠ .closed) : ∃ records slots,
    s.allocate r p n x = { s with
      records := records, slots := slots
      pst := s.pst.set .clear p { s.page p with chainHead := some r, parityOk := true }
      entries := s.entries.set .freed n { e with state := .held, heldOn := some (.record r) }
      activity := counted s (some w) fun c => { c with preserves := satInc c.preserves }
      wp := { s.wp with
        queue := s.wp.queue ++ [⟨.preservation, r, pageOf e.address, s.pool.base.toNat + r, false⟩] }
      mgmt := s.lowFlags } ∧
    (∀ y, records.get .freed y = if y = r then
        ⟨.copying, some p, some (pageOf e.address), some x, (s.page p).chainHead, (s.slot x).tail, none, false, true⟩
      else if (s.slot x).tail = some y then { s.record y with jNewer := some r } else s.record y) ∧
    ∀ i, slots.get .freed i = if i = x then
        { s.slot x with
          head := if (s.slot x).tail = none then some r else (s.slot x).head, tail := some r
          count := (s.slot x).count + 1 }
      else s.slot i := by
  obtain ⟨records, slots, hlinked, hspec⟩ := linked_spec hx hlive hfree hhead htail (pageOf e.address)
  refine ⟨records, slots, ?_, hspec⟩
  unfold State.allocate
  rw [he]
  dsimp only
  rw [show (⟨.copying, some p, some (pageOf e.address), some x, none, none, none, false, true⟩ : Record) =
    newRecord p x (pageOf e.address) from rfl, hlinked]
  generalize hv : ({ s with
    records := records, slots := slots
    pst := s.pst.set .clear p { s.page p with chainHead := some r, parityOk := true } } : State) = v
  rw [raise_framesLow v, saveJob_eq (s := v) (w := w) (e := e) (by rw [← hv]; exact he) hw (by rw [← hv]; exact hqueue)
    (by rw [← hv]; exact hintake) _]
  subst hv
  rfl

end

end Sys2Proof.Machine.State
end

section
/-! The first write to a page since its effective mark (O41). -/

namespace Sys2Proof.Machine.State

variable {s u : State} {p r n x w : Nat} {e : Entry} {flush : State → State}

theorem journalLink_of_ne_free {y : Nat} (h : (s.record y).state ≠ .free) : s.journalLink (some y) = some y := if_pos h

theorem rejected_sound {o : Option Nat} (h : ∀ y, o = some y → (s.record y).state ≠ .free) : s.rejected o = [] := by
  unfold State.rejected
  cases o with
  | none => rfl
  | some y =>
    exact if_neg (by rw [journalLink_of_ne_free (h y rfl)]; exact nofun)

theorem chainReads_of_noHead (h : (s.page p).chainHead = none) : s.chainReads p = [] := by
  unfold State.chainReads
  rw [h]
  rfl

theorem chainReads_of_head {y : Nat} (h : (s.page p).chainHead = some y) : ∃ l, s.chainReads p = y :: l := by
  unfold State.chainReads
  rw [h]
  unfold State.chainReadsFrom
  rw [if_neg List.not_mem_nil]
  split
  · exact ⟨[], rfl⟩
  · exact ⟨_, rfl⟩

/-- An allocation behind an older head and a sound tail reads the head alone. -/
theorem allocReads_sound (hhead : OlderHead s p x) (htail : SoundTail s r x)
    (hparity : ∀ y, (s.page p).chainHead = some y → (s.record y).parityOk = true) :
    ∀ y, y ∈ s.allocReads p x → (s.record y).parityOk = true := by
  intro y hy
  unfold State.allocReads at hy
  rw [rejected_sound fun z hz => (htail z hz).2.1, List.append_nil] at hy
  cases hz : (s.page p).chainHead with
  | none =>
    rw [chainReads_of_noHead hz] at hy
    cases hy
  | some z =>
    obtain ⟨l, hl⟩ := chainReads_of_head hz
    rw [hl, readUntil, if_pos (by simpa using (hhead z hz).2), List.mem_singleton] at hy
    rw [hy]
    exact hparity z hz

/-- A preservation takes the head of the free-frame queue. -/
theorem preserveWith_frame {rest : List Nat} (hctl : u.ctl.state ≠ .degraded) (hfree : u.pool.free = r :: rest)
    (hreads : ∀ y, y ∈ u.allocReads p x → (u.record y).parityOk = true) : preserveWith flush none p n x u =
    (.stays, State.allocate r p n x { u with pool := { u.pool with free := rest } }) := by
  unfold Machine.preserveWith
  rw [if_neg (by rw [hfree]; exact fun h => nomatch h.2), checkRecsWith_sound hreads]
  dsimp only
  rw [if_neg hctl]
  unfold State.preserve
  dsimp only
  rw [hfree]
  rfl

/-- A record of an older mark does not resolve to slot `x`. -/
theorem resolved_ne_of_recSeq_lt {y : Nat} (h : s.recSeq y < (s.slot x).seq) : s.resolved (s.record y) ≠ some x := by
  intro hx
  unfold State.resolved at hx
  unfold State.recSeq at h
  cases hq : s.slotOf (s.record y) with
  | none =>
    rw [hq] at hx
    cases hx
  | some q =>
    rw [hq] at hx h
    dsimp only at hx h
    split at hx
    · exact absurd (BitVec.lt_trans h (olderLive_some hx).2.2.1) (BitVec.lt_irrefl _)
    · cases hx
      exact absurd h (BitVec.lt_irrefl _)

end Sys2Proof.Machine.State

namespace Sys2Proof.Proofs

open Sys2Proof.Machine Sys2Proof.Machine.State

section
variable {s : State} {a : Arrival} {w p r x : Nat} {rest : List Nat}

/-- The state of a guarded write that heads its list, the head of the free-frame queue taken. -/
def granted (s : State) (a : Arrival) (w p : Nat) (rest : List Nat) : State :=
  { s.joined a w p with pool := { s.pool with free := rest } }

/-- A guarded write to a page that is to be saved takes the frame at the head of the queue. -/
theorem joined_allocates (h : GuardArrival s a.tag a.len a.address w p) (hsource : noSource s p)
    (hctl : s.ctl.state ≠ .degraded) (hx : s.effective s.stampNow = some x)
    (hhead : ∀ y, (s.page p).chainHead = some y → s.chainTop p = some y ∧ (s.record y).parityOk = true ∧
      (s.record y).state ≠ .copying ∧ s.recSeq y < (s.slot x).seq)
    (htail : SoundTail s r x) (hfree : s.pool.free = r :: rest) :
    decideWriteWith flushWaiters none p a.tag.toNat (s.joined a w p) =
      (.stays, (granted s a w p rest).allocate r p a.tag.toNat x) := by
  have hagree : Agree s (s.joined a w p) p := joined_agree s
  have htop : s.chainTop p = none ∨ ∃ y, s.chainTop p = some y ∧ (s.record y).state ≠ .copying ∧
      ¬((s.record y).state = .valid ∧ s.resolved (s.record y) = some x) := by
    cases hy : s.chainTop p with
    | none => exact .inl rfl
    | some y =>
      obtain ⟨-, -, hcopying, hlt⟩ := hhead y (chainTop_eq_some hy)
      exact .inr ⟨y, rfl, hcopying, fun hsaved => resolved_ne_of_recSeq_lt hlt hsaved.2⟩
  have hallocReads : ∀ y, y ∈ (s.joined a w p).allocReads p x → ((s.joined a w p).record y).parityOk = true := by
    rw [hagree.allocReads]
    exact allocReads_sound (fun y hy => ⟨(hhead y hy).1, (hhead y hy).2.2.2⟩) htail fun y hy => (hhead y hy).2.1
  rw [joined_decideWrite h hsource, decideMarksWith_marked (u := s.joined a w p) (x := x) hctl (joined_effective.trans hx)
    fun y hy => (hhead y (hagree.chainHead.symm.trans hy)).2.1, decideHeadWith_preserve,
    preserveWith_frame (u := s.joined a w p) hctl hfree hallocReads]
  · rfl
  · rw [hagree.chainTop]
    refine htop.imp_right fun ⟨y, hy, hcopying, hother⟩ => ⟨y, hy, hcopying, fun hsaved => hother ?_⟩
    exact ⟨hsaved.1, (resolved_congr hagree.slots _).symm.trans hsaved.2⟩

theorem granted_agree : Agree s (granted s a w p rest) p where
  records := rfl
  slots := rfl
  kind := rfl
  phase := rfl
  target := rfl
  boundary := rfl
  chainHead := (joined_agree (a := a) (w := w) s).chainHead

theorem granted_act (v : Nat) : (granted s a w p rest).act v =
    if v = w then { s.act w with running := oneMore a.kind (s.act w).running } else s.act v := act_counted s w _ v

/-- The state of a guarded write as its page is being saved into frame `r`, the job not yet given. -/
theorem granted_spec (h : GuardArrival s a.tag a.len a.address w p) (hkind : a.kind = .write)
    (hx : s.effective s.stampNow = some x)
    (hhead : ∀ y, (s.page p).chainHead = some y → s.chainTop p = some y ∧ (s.record y).parityOk = true ∧
      (s.record y).state ≠ .copying ∧ s.recSeq y < (s.slot x).seq)
    (htail : SoundTail s r x) (hrecord : (s.record r).state = .free) (hqueue : s.wp.queue.length < 128) :
    ∃ t, (granted s a w p rest).allocate r p a.tag.toNat x = t ∧
      entriesAre s t a.tag.toNat (waitingEntry s .held .write a.address (lenLines a.len) a.masks a.data w p s.stampNow
        (some (.record r))) ∧
      (∀ y, t.record y = if y = r then
          ⟨.copying, some p, some (pageOf a.address), some x, (s.page p).chainHead, (s.slot x).tail, none, false, true⟩
        else if (s.slot x).tail = some y then { s.record y with jNewer := some r } else s.record y) ∧
      (∀ j, t.page j = if j = p then
        { s.page p with chainHead := some r, waitHead := some a.tag.toNat, waitTail := some a.tag.toNat } else s.page j) ∧
      (∀ q, t.slot q = if q = x then
        { s.slot x with
          head := if (s.slot x).tail = none then some r else (s.slot x).head, tail := some r
          count := (s.slot x).count + 1 }
        else s.slot q) ∧
      (∀ v, t.act v = if v = w then
        { s.act w with running := { (s.act w).running with
          writes := satInc (s.act w).running.writes, preserves := satInc (s.act w).running.preserves } }
        else s.act v) ∧
      t = { s with
        port := arrived s.port, entries := t.entries, records := t.records, pst := t.pst, slots := t.slots
        activity := t.activity, pool := { s.pool with free := rest }
        wp := { s.wp with
          queue := s.wp.queue ++ [⟨.preservation, r, pageOf a.address, s.pool.base.toNat + r, false⟩] }
        mgmt := if rest.length < s.pool.lowWater.toNat then
            { s.mgmt with flags := s.mgmt.flags ||| BitVec.twoPow 21 7 } else s.mgmt } := by
  obtain ⟨hx5, hlive, -⟩ := effective_some hx
  have hagree : Agree s (granted s a w p rest) p := granted_agree
  have holder : OlderHead (granted s a w p rest) p x := fun y hy => by
    rw [hagree.chainHead] at hy
    obtain ⟨htop, -, -, hlt⟩ := hhead y hy
    exact ⟨hagree.chainTop.trans htop, lt_of_eq_of_lt (recSeq_congr hagree.records hagree.slots y) hlt⟩
  have hintake : (granted s a w p rest).port.intake ≠ .closed := by
    show (if s.port.intake = .closed then .closing else s.port.intake) ≠ Intake.closed
    split
    · exact nofun
    next hne => exact hne
  obtain ⟨records, slots, heq, hrecords, hslots⟩ := allocate_spec (s := granted s a w p rest) (p := p) (r := r) (x := x)
    (n := a.tag.toNat) (w := w) (e := s.joinedEntry a w p) hx5 (by show (s.slot x).state ≠ _; rw [hlive]; exact nofun)
    hrecord holder htail joined_self rfl hqueue hintake
  refine ⟨_, heq, fun m => ?_, fun y => (hrecords y).trans ?_, fun j => ?_, fun q => hslots q, fun v => ?_, ?_⟩
  · refine (Table.get_set ..).trans ?_
    show (if m = a.tag.toNat then { s.joinedEntry a w p with state := .held, heldOn := some (.record r) }
      else (s.joined a w p).entry m) = _
    rw [joined_entry, ← hkind]
    split <;> rfl
  · rw [hagree.chainHead]
    rfl
  · refine (Table.get_set ..).trans ?_
    show (if j = p then { (s.joined a w p).page p with chainHead := some r, parityOk := true }
      else (s.joined a w p).page j) = _
    rw [joined_page, joined_page, if_pos rfl]
    split
    · rw [← h.parity]
    · rfl
  · refine (act_counted (granted s a w p rest) w _ v).trans ?_
    rw [granted_act, granted_act, if_pos rfl, hkind]
    split <;> rfl
  · rfl

end

/-- Settles O41: the allocation behind the older records, and then the arbiter with the one job. -/
theorem firstWriteStartsAPreservation : Obligations.FirstWriteStartsAPreservation := by
  intro s tag len addr masks data w p x r rest job h hsource hgood hctl hx hhead hfree hqueue hrecord htail hjob hidle
  generalize ha : (⟨tag, .write, len, addr, masks, data, payloadOk len masks data⟩ : Arrival) = a
  have hgood' : a.payloadGood = true := by rw [← ha]; exact hgood
  have h' : GuardArrival s a.tag a.len a.address w p := by rw [← ha]; exact h
  have hkind : ((s.joined a w p).entry a.tag.toNat).kind = .write := by rw [joined_kind, ← ha]
  have hexec : exec (.write tag len addr masks data) s = .next (s.arrive a) := by rw [← ha]; rfl
  have hstays := decidePageWith_stays (k := 128) joined_parity joined_head joined_listed hkind
    (joined_allocates h' hsource hctl hx hhead htail hfree)
  have hdecided := (arrive_guarded h' hgood').trans (congrArg State.finish hstays)
  obtain ⟨t, ht, hentries, hrecords, hpages, hslots, hacts, hspec⟩ := granted_spec (rest := rest) h' (by rw [← ha]) hx
    hhead htail hrecord hqueue
  rw [ht] at hdecided
  have hchannel : t.idleChannel = s.idleChannel := by
    rw [hspec]
    exact idleChannel_congr rfl rfl
  have hdue : t.port.due = 0 := by
    rw [hspec]
    exact h.due
  have hbusy : (t.entry a.tag.toNat).state ≠ .free := by
    rw [hentries, if_pos rfl]
    exact nofun
  have hself := (hrecords r).trans (if_pos rfl)
  have hothers := fun y hy => (hrecords y).trans (if_neg hy)
  have hjob' : job = ⟨.preservation, r, pageOf a.address, s.pool.base.toNat + r, false⟩ := by rw [hjob, ← ha]
  rw [← hjob'] at hspec
  rw [hexec, hdecided]
  obtain hnone | ⟨hsome, hup, hempty, hbacklog, hdemand, hoffer⟩ := hidle
  · rw [finish_busy (.inl (hchannel.trans hnone)) hdue h'.accepts.2.2.1 hbusy]
    subst ha
    refine ⟨t, rfl, hentries, hself, hothers, hpages, hslots, hacts, ?_, fun _ => ?_, fun c free hc => ?_⟩
    · rw [show t.channels = s.channels by rw [hspec], show t.copyTags = s.copyTags by rw [hspec],
        show t.tags = s.tags by rw [hspec], show t.mem = s.mem by rw [hspec],
        show t.wp = { s.wp with queue := s.wp.queue ++ [job] } by rw [hspec]]
      exact hspec
    · exact ⟨by rw [hspec], by rw [hspec], by rw [hspec], by rw [hspec], by rw [hspec]⟩
    · rw [hnone] at hc
      cases hc
  · obtain ⟨c, hc⟩ := Option.ne_none_iff_exists'.1 hsome
    have hqueued : t.wp = { s.wp with queue := [job] } := by
      rw [hspec, hempty]
      rfl
    obtain ⟨v, hv, hstarted, hvspec⟩ := finish_oneJob (s := t) (j := job) (c := c) (hchannel.trans hc)
      (by rw [hspec]; exact hup) (by rw [hqueued]) (by rw [hqueued]; exact hbacklog)
      (by rw [hspec]; exact hdemand) (by rw [hspec]; exact hoffer) hdue h'.accepts.2.2.1 hbusy
    have hwp : v.wp = s.wp := by
      rw [hvspec, hqueued, ← hempty]
    have hrecord : v.record = t.record := by rw [hvspec]; rfl
    rw [hv]
    subst ha
    refine ⟨v, rfl, ?_, ?_, ?_, ?_, ?_, ?_, ?_, fun hnone => absurd hnone hsome, fun c' free hc' hfree => ⟨hwp, ?_⟩⟩
    · rw [hvspec]
      exact hentries
    · rw [hrecord, hself]
    · rw [hrecord]
      exact hothers
    · rw [hvspec]
      exact hpages
    · rw [hvspec]
      exact hslots
    · rw [hvspec]
      exact hacts
    · have hwp' : ({ s.wp with queue := [] } : WritePath) = s.wp := by rw [← hempty]
      rw [hwp, ← hwp', show v.entries = t.entries by rw [hvspec], show v.records = t.records by rw [hvspec],
        show v.pst = t.pst by rw [hvspec], show v.slots = t.slots by rw [hvspec],
        show v.activity = t.activity by rw [hvspec]]
      conv_lhs => rw [hvspec, hspec]
    · obtain rfl : c = c' := Option.some.inj (hc.symm.trans hc')
      rw [hfree]
      rw [hspec] at hstarted
      exact hstarted

end Sys2Proof.Proofs
end

section
/-! Wait lists as the next links bear them out, and what a removal from the middle leaves (R12). -/

namespace Sys2Proof.Machine.State

variable {s t : State} {n x p : Nat} {o : Option Nat} {l : List Nat}

/-- The list `l` is the one that begins at `o` and goes on along the next links to its end. -/
def Linked (s : State) : Option Nat → List Nat → Prop
  | o, [] => o = none
  | o, x :: l => o = some x ∧ s.Linked (s.entry x).next l

theorem waitFrom_of_linked {k : Nat} (h : s.Linked o l) (hk : l.length < k) : s.waitFrom k o = l := by
  induction l generalizing o k with
  | nil =>
    obtain rfl : o = none := h
    cases k <;> rfl
  | cons x l ih =>
    obtain ⟨rfl, h⟩ := h
    cases k with
    | zero => cases hk
    | succ k => exact congrArg (x :: ·) (ih h (Nat.lt_of_succ_lt_succ hk))

theorem linked_waitFrom {k : Nat} (h : (s.waitFrom k o).length < k) : s.Linked o (s.waitFrom k o) := by
  induction k generalizing o with
  | zero => cases h
  | succ k ih =>
    cases o with
    | none => rfl
    | some x => exact ⟨rfl, ih (Nat.lt_of_succ_lt_succ h)⟩

/-- A wait list within its bound is linked from the page's head. -/
theorem linked_waitList (h : (s.waitList p).length ≤ 128) : s.Linked (s.page p).waitHead (s.waitList p) :=
  linked_waitFrom (Nat.lt_succ_of_le h)

theorem waitList_of_linked (h : s.Linked (s.page p).waitHead l) (hl : l.length ≤ 128) : s.waitList p = l :=
  waitFrom_of_linked h (Nat.lt_succ_of_le hl)

theorem Linked.congr (h : s.Linked o l) (hnext : ∀ m, m ∈ l → (t.entry m).next = (s.entry m).next) : t.Linked o l := by
  induction l generalizing o with
  | nil => exact h
  | cons x l ih =>
    obtain ⟨ho, h⟩ := h
    refine ⟨ho, ?_⟩
    rw [hnext x (List.mem_cons_self ..)]
    exact ih h fun m hm => hnext m (List.mem_cons_of_mem _ hm)

/-- A list's head has no entry before it, and every other has one in the list. -/
theorem before_of_mem {y : Nat} (hn : n ∈ l) (hy : y ≠ n) : ∃ x, before n (y :: l) = some x ∧ x ∈ y :: l := by
  induction l generalizing y with
  | nil => cases hn
  | cons z l ih =>
    unfold before
    split
    next hz => exact ⟨y, rfl, List.mem_cons_self ..⟩
    next hz =>
      obtain ⟨x, hx, hmem⟩ := ih ((List.mem_cons.1 hn).resolve_left fun h => hz h.symm) hz
      exact ⟨x, hx, List.mem_cons_of_mem _ hmem⟩

theorem before_ne (hnodup : l.Nodup) (hx : before n l = some x) : x ≠ n := by
  induction l with
  | nil => cases hx
  | cons y l ih =>
    cases l with
    | nil => cases hx
    | cons z l =>
      obtain ⟨hy, hnodup⟩ := List.nodup_cons.1 hnodup
      unfold before at hx
      split at hx
      next hz =>
        obtain rfl : y = x := Option.some.inj hx
        exact fun h => hy (by rw [h, ← hz]; exact List.mem_cons_self ..)
      · exact ih hnodup hx

/-- The entry before `n` linked past it, the list goes on without `n`. -/
theorem Linked.without {y : Nat} (h : s.Linked o (y :: l)) (hnodup : (y :: l).Nodup) (hn : n ∈ l)
    (hx : before n (y :: l) = some x)
    (hnext : ∀ m, m ≠ n → (t.entry m).next = if m = x then (s.entry n).next else (s.entry m).next) :
    t.Linked o ((y :: l).filter (· != n)) := by
  induction l generalizing y o with
  | nil => cases hn
  | cons z l ih =>
    obtain ⟨ho, hyz⟩ := h
    obtain ⟨hynot, hnodup⟩ := List.nodup_cons.1 hnodup
    have hyn : y ≠ n := fun h => hynot (h ▸ hn)
    rw [List.filter_cons_of_pos (by simpa using hyn)]
    refine ⟨ho, ?_⟩
    unfold before at hx
    split at hx
    next hz =>
      subst hz
      obtain rfl : y = x := Option.some.inj hx
      obtain ⟨hnot, -⟩ := List.nodup_cons.1 hnodup
      rw [hnext y hyn, if_pos rfl, List.filter_cons_of_neg (by simp),
        List.filter_eq_self.2 fun m hm => by simpa using fun h : m = z => hnot (h ▸ hm)]
      refine Linked.congr hyz.2 fun m hm => ?_
      rw [hnext m (fun h => hnot (h ▸ hm)), if_neg fun h : m = y => hynot (h ▸ List.mem_cons_of_mem _ hm)]
    next hz =>
      have hnl : n ∈ l := (List.mem_cons.1 hn).resolve_left fun h => hz h.symm
      have hxmem : x ∈ z :: l := by
        obtain ⟨x', hx', hmem⟩ := before_of_mem hnl hz
        rw [hx] at hx'
        exact Option.some.inj hx' ▸ hmem
      rw [hnext y hyn, if_neg fun h : y = x => hynot (h ▸ hxmem)]
      exact ih hyz hnodup hnl hx

end Sys2Proof.Machine.State
end

section
/-! The hold timeout (R118). -/

namespace Sys2Proof.Machine.State

variable {s t u : State} {n x p d : Nat} {e : Entry}

theorem holdExpired_eq (he : s.entry n = e) : s.holdExpired n =
    State.refuse n .holdTimeout { s with mgmt := reported s.mgmt 11 .timeout (some n) (some e.address) e.window } := by
  unfold State.holdExpired State.captureEntry
  rw [capture_raise, raise_entry, he]
  rfl

section
variable (hdeadline : (s.entry n).deadline = some d) (hd : d ≤ s.now)
include hdeadline hd

theorem exec_holdTimeout_parked (h : (s.entry n).state = .parked) :
    exec (.holdTimeout n) s = .next (s.holdParked n).finish := by
  show execHoldTimeout n s = _
  unfold execHoldTimeout
  rw [hdeadline, if_pos (show s.expired (some d) = true from decide_eq_true hd), h]

theorem exec_holdTimeout_listed (h : s.isListed n = true) (hpst : (s.entry n).pst = some p) :
    exec (.holdTimeout n) s = .next (s.holdListed p n).finish := by
  show execHoldTimeout n s = _
  unfold execHoldTimeout
  rw [hdeadline, if_pos (show s.expired (some d) = true from decide_eq_true hd), hpst]
  unfold State.isListed at h
  simp only [Bool.or_eq_true, beq_iff_eq] at h
  obtain (h | h) | h := h <;> rw [h]

end

/-- A listed entry as it times out, its page's entry sound. -/
theorem holdListed_eq (hparity : (s.page p).parityOk = true) (hlisted : s.isListed n = true) : s.holdListed p n =
    if (s.page p).waitHead = some n then
      ((State.waitRemove p n { s with pool := { s.pool with wait := s.pool.wait.filter (· != n) } }).holdExpired n).decidePage p
    else (State.waitRemove p n { s with pool := { s.pool with wait := s.pool.wait.filter (· != n) } }).holdExpired n := by
  unfold State.holdListed
  rw [checkPage_sound hparity]
  dsimp only
  rw [if_neg (by simp [hlisted])]
  by_cases hhead : (s.page p).waitHead = some n
  · rw [if_pos hhead, if_pos (by simp [hhead])]
    rfl
  · rw [if_neg hhead, if_neg (by simp [hhead])]
    rfl

theorem waitRemove_head (h : (s.page p).waitHead = some n) : s.waitRemove p n = s.popHead p n := if_pos h

/-- A removal from the middle: the entry before `n` is linked past it, and is the tail where `n` was. -/
theorem waitRemove_behind (hhead : (s.page p).waitHead ≠ some n) (hx : before n (s.waitList p) = some x) (hne : x ≠ n) :
    ∃ pst, s.waitRemove p n = { s with
      entries := (s.entries.set .freed x { s.entry x with next := (s.entry n).next }).set .freed n
        { s.entry n with next := none }
      pst := pst } ∧
    (pst.get .clear p).waitHead = (s.page p).waitHead ∧ ∀ j, j ≠ p → pst.get .clear j = s.page j := by
  have hself : (s.setEntry x { s.entry x with next := (s.entry n).next }).entry n = s.entry n :=
    Table.get_set_other _ _ _ hne.symm
  unfold State.waitRemove
  rw [if_neg hhead, hx]
  dsimp only
  rw [hself]
  split
  · refine ⟨_, rfl, ?_, fun j hj => Table.get_set_other _ _ _ hj⟩
    refine (congrArg PstEntry.waitHead (Table.get_set_same ..)).trans ?_
    rfl
  · exact ⟨s.pst, rfl, rfl, fun _ _ => rfl⟩

theorem popHead_eq (he : s.entry n = e) : s.popHead p n =
    (s.setEntry n { e with next := none }).putPage p
      { s.page p with waitHead := e.next, waitTail := if e.next = none then none else (s.page p).waitTail } := by
  unfold State.popHead
  rw [he]

theorem earnCredit_eq (hup : s.port.up = true) (hdue : s.port.due = 0) : s.earnCredit = { s with
    port := { s.port with
      due := if s.port.intake = .opened then 1 else 0
      owed := if s.port.intake = .opened then s.port.owed else s.port.owed + 1 } } := by
  unfold State.earnCredit
  rw [if_neg (by simp [hup])]
  split
  · rw [hdue]
    rfl
  · rw [← hdue]
    rfl

/-- A refusal within a step that owes no credit yet. -/
theorem refuse_eq (he : s.entry n = e) (hbusy : e.state ≠ .free) (hup : s.port.up = true) (reason : Reason) :
    s.refuse n reason = State.earnCredit { s with
      entries := s.entries.set .freed n .freed
      activity := counted s e.window fun c => { c with refusals := satInc c.refusals }
      port := { s.port with sent := s.port.sent ++ [.completion n .refused reason []] }
      sweep := { s.sweep with drainSet := s.sweep.drainSet.filter (· != n) } } := by
  unfold State.refuse State.countRefusal
  rw [countRunning_eq, he, complete_eq (by exact hup) (by rw [← he] at hbusy; exact hbusy)]

end Sys2Proof.Machine.State
end

section
/-! The hold timeout's outcomes (O43). -/

namespace Sys2Proof.Machine.State

variable {s t u : State} {n m x p d : Nat} {e : Entry}

theorem holdExpired_spec (he : s.entry n = e) (hbusy : e.state ≠ .free) (hup : s.port.up = true)
    (hdue : s.port.due = 0) : s.holdExpired n = { s with
      entries := s.entries.set .freed n .freed
      port := { s.port with
        sent := s.port.sent ++ [.completion n .refused .holdTimeout []]
        due := if s.port.intake = .opened then 1 else 0
        owed := if s.port.intake = .opened then s.port.owed else s.port.owed + 1 }
      sweep := { s.sweep with drainSet := s.sweep.drainSet.filter (· != n) }
      activity := counted s e.window fun c => { c with refusals := satInc c.refusals }
      mgmt := reported s.mgmt 11 .timeout (some n) (some e.address) e.window } := by
  rw [holdExpired_eq he, refuse_eq (by exact he) hbusy (by exact hup), earnCredit_eq (by exact hup) (by exact hdue)]
  rfl

/-- What passes at the head of a list whose page has no rollback source: a read, a write in DEGRADED, one without an effective
mark. -/
def Passes (s : State) (m : Nat) : Prop :=
  (s.entry m).kind = .read ∨ s.ctl.state = .degraded ∨ s.effective (s.entry m).stamp = none

/-- A page without a rollback source is read at the address itself. -/
theorem readAddress_noSource (hsource : noSource u p) (a : Addr) : readAddress u p a = a := by
  unfold readAddress
  split
  next hrestoring =>
    unfold State.oldestSource
    rw [hsource hrestoring]
    rfl
  · rfl

section
variable (hparity : (u.page p).parityOk = true) (hhead : (u.page p).waitHead = some m) (hlisted : u.isListed m = true)
  (hsource : noSource u p)
  (hreads : u.restoring = true → ∀ y, y ∈ u.sourceReads p → (u.record y).parityOk = true) (hpasses : u.Passes m)
include hparity hhead hlisted hsource hreads hpasses

/-- A head that passes is issued, and the next one is decided. -/
theorem decidePageWith_passes {flush : State → State} {k : Nat} : decidePageWith flush p (k + 1) u =
    decidePageWith flush p k (u.issueHead p m (u.entry m).address) := by
  cases hkind : (u.entry m).kind with
  | read =>
    rw [decidePageWith_read hparity hhead hlisted hkind, issueReadWith_sound hreads, readAddress_noSource hsource]
  | write =>
    refine decidePageWith_left hparity hhead hlisted hkind ?_
    rw [decideWriteWith_noSource hsource hreads]
    exact decideMarksWith_unmarked (hpasses.resolve_left (by rw [hkind]; exact nofun))

/-- A list's only entry, which passes, is issued, and its list is empty. -/
theorem decidePage_issues (he : u.entry m = e) (hnext : e.next = none) (hmem : u.mem.up = true) : ∃ entries pst,
    u.decidePage p = { u with
      entries := entries, pst := pst
      tags := u.tags.set .idle m
        ⟨.queued, e.kind, e.address, e.lines, e.masks, e.data, 0, some (u.now + orMax u.mem.responseTimeout)⟩
      mem := { u.mem with takeList := u.mem.takeList ++ [m], sendQueue := u.mem.sendQueue ++ [m] } } ∧
    (∀ x, entries.get .freed x = if x = m then issuedAt e e.address else u.entry x) ∧
    ∀ j, pst.get .clear j = if j = p then { u.page p with waitHead := none, waitTail := none, parityOk := true }
      else u.page j := by
  obtain ⟨entries, pst, hissue, hentries, hpst⟩ := issueHead_single (p := p) he hnext hmem e.address
  have hone : u.decidePage p = decidePageWith flushWaiters p 128 (u.issueHead p m (u.entry m).address) :=
    decidePageWith_passes hparity hhead hlisted hsource hreads hpasses
  refine ⟨entries, pst, ?_, hentries, hpst⟩
  rw [hone, he, hissue]
  have hself : pst.get .clear p = _ := (hpst p).trans (if_pos rfl)
  refine decidePageWith_none ?_ ?_
  · exact congrArg PstEntry.parityOk hself
  · exact congrArg PstEntry.waitHead hself

end

end Sys2Proof.Machine.State

namespace Sys2Proof.Proofs

open Sys2Proof.Machine Sys2Proof.Machine.State

section
variable {s : State} {n m p : Nat}

theorem isListed_iff : s.isListed n = true ↔
    (s.entry n).state = .waiting ∨ (s.entry n).state = .held ∨ (s.entry n).state = .frameWait := by
  unfold State.isListed
  simp only [Bool.or_eq_true, beq_iff_eq, or_assoc]

theorem busy_of_isListed (h : s.isListed n = true) : (s.entry n).state ≠ .free := by
  obtain h | h | h := isListed_iff.1 h <;> rw [h] <;> exact nofun

/-- The state of a list's head as it leaves its list for a hold timeout. -/
def unheaded (s : State) (n p : Nat) : State :=
  { s with
    entries := s.entries.set .freed n { s.entry n with next := none }
    pst := s.pst.set .clear p { s.page p with
      waitHead := (s.entry n).next, waitTail := if (s.entry n).next = none then none else (s.page p).waitTail
      parityOk := true }
    pool := { s.pool with wait := s.pool.wait.filter (· != n) } }

theorem unheaded_entry (x : Nat) : (unheaded s n p).entry x =
    if x = n then { s.entry n with next := none } else s.entry x := Table.get_set ..

theorem unheaded_self : (unheaded s n p).entry n = { s.entry n with next := none } := Table.get_set_same ..

theorem unheaded_page (hparity : (s.page p).parityOk = true) (j : Nat) : (unheaded s n p).page j = if j = p then
    { s.page p with
      waitHead := (s.entry n).next, waitTail := if (s.entry n).next = none then none else (s.page p).waitTail }
    else s.page j := by
  refine (Table.get_set ..).trans ?_
  rw [← hparity]
  rfl

/-- A list's head as it times out. -/
theorem holdListed_head (hparity : (s.page p).parityOk = true) (hlisted : s.isListed n = true)
    (hhead : (s.page p).waitHead = some n) : s.holdListed p n = ((unheaded s n p).holdExpired n).decidePage p := by
  rw [holdListed_eq hparity hlisted, if_pos hhead, waitRemove_head (by exact hhead), popHead_eq rfl]
  rfl

end

section
variable {s u : State} {n x p : Nat} {e : Entry}

/-- The end of a step in which an entry has timed out. -/
theorem finish_holdExpired (he : s.entry n = e) (hbusy : e.state ≠ .free) (hup : s.port.up = true)
    (hdue : s.port.due = 0) (hidle : s.ArbiterIdle) :
    ∃ t, (s.holdExpired n).finish = t ∧ entriesAre s t n .freed ∧ t = { s with
      entries := t.entries
      port := credited s t [.completion n .refused .holdTimeout []]
      sweep := { s.sweep with drainSet := s.sweep.drainSet.filter (· != n) }
      activity := counted s e.window fun c => { c with refusals := satInc c.refusals }
      mgmt := quiesced s t (reported s.mgmt 11 .timeout (some n) (some e.address) e.window) } := by
  rw [holdExpired_eq he]
  exact finish_reported_refuse he hbusy hup hdue hidle .holdTimeout _

/-- A hold timeout leaves a page whose list is empty as it is. -/
theorem decidePage_holdExpired (he : s.entry n = e) (hbusy : e.state ≠ .free) (hup : s.port.up = true)
    (hparity : (s.page p).parityOk = true) (hhead : (s.page p).waitHead = none) :
    (s.holdExpired n).decidePage p = s.holdExpired n := by
  rw [holdExpired_eq he]
  generalize reported s.mgmt 11 .timeout (some n) (some e.address) e.window = m
  have hbusy' : (({ s with mgmt := m } : State).entry n).state ≠ .free := by rw [← he] at hbusy; exact hbusy
  unfold State.decidePage
  exact decidePageWith_refused (k := 128) (u := { s with mgmt := m }) (by exact hup) hbusy' (by exact hparity) (by exact hhead)
    .holdTimeout

/-- The list that a removal from its middle leaves, the entry before `n` linked past it. -/
theorem waitList_without (hnodup : (s.waitList p).Nodup) (hlength : (s.waitList p).length ≤ 128)
    (hmem : n ∈ s.waitList p) (hhead : (s.page p).waitHead ≠ some n) :
    ∃ x, before n (s.waitList p) = some x ∧ x ≠ n ∧
      ∀ t : State, (t.page p).waitHead = (s.page p).waitHead →
        (∀ m, m ≠ n → (t.entry m).next = if m = x then (s.entry n).next else (s.entry m).next) →
        t.waitList p = (s.waitList p).filter (· != n) := by
  have hlinked := linked_waitList hlength
  generalize s.waitList p = l at hnodup hlength hmem hlinked
  cases l with
  | nil => cases hmem
  | cons y l =>
    have hyn : y ≠ n := fun h => hhead (by rw [hlinked.1, h])
    have hnl : n ∈ l := (List.mem_cons.1 hmem).resolve_left fun h => hyn h.symm
    obtain ⟨x, hx, -⟩ := before_of_mem hnl hyn
    refine ⟨x, hx, before_ne hnodup hx, fun t ht hnext => waitList_of_linked ?_ ?_⟩
    · rw [ht]
      exact hlinked.without hnodup hnl hx hnext
    · exact (List.length_filter_le ..).trans hlength

theorem waitList_congr {t : State} (hlength : (s.waitList p).length ≤ 128)
    (hhead : (t.page p).waitHead = (s.page p).waitHead) (hnext : ∀ m, (t.entry m).next = (s.entry m).next) :
    t.waitList p = s.waitList p := by
  refine waitList_of_linked ?_ hlength
  rw [hhead]
  exact (linked_waitList hlength).congr fun m _ => hnext m


/-- An entry behind its list's head, as it leaves the list for a hold timeout. -/
theorem holdListed_behind (hparity : (s.page p).parityOk = true) (hlisted : s.isListed n = true)
    (hlength : (s.waitList p).length ≤ 128) (hhead : (s.page p).waitHead ≠ some n)
    (hx : before n (s.waitList p) = some x) (hxn : x ≠ n) : ∃ v : State, s.holdListed p n = v.holdExpired n ∧
    v.entry n = { s.entry n with next := none } ∧
    (∀ m, m ≠ n → v.entry m = if m = x then { s.entry x with next := (s.entry n).next } else s.entry m) ∧
    (v.page p).waitHead = (s.page p).waitHead ∧ (∀ j, j ≠ p → v.page j = s.page j) ∧
    v = { s with
      entries := v.entries, pst := v.pst, pool := { s.pool with wait := s.pool.wait.filter (· != n) } } := by
  have hlist : ({ s with pool := { s.pool with wait := s.pool.wait.filter (· != n) } } : State).waitList p =
    s.waitList p := waitList_congr hlength rfl fun _ => rfl
  obtain ⟨pst, hremove, hwaitHead, hpages⟩ := waitRemove_behind (p := p) (n := n)
    (s := { s with pool := { s.pool with wait := s.pool.wait.filter (· != n) } }) hhead (by rw [hlist]; exact hx) hxn
  rw [holdListed_eq hparity hlisted, if_neg hhead, hremove]
  exact ⟨_, rfl, Table.get_set_same .., fun m hm => (Table.get_set_other _ _ _ hm).trans (Table.get_set ..), hwaitHead,
    hpages, rfl⟩

/-- The state of a list's head as its hold timeout has completed it, the next head still to be decided. -/
def timedOut (s : State) (n p : Nat) : State :=
  { unheaded s n p with
    entries := (unheaded s n p).entries.set .freed n .freed
    port := { s.port with
      sent := s.port.sent ++ [.completion n .refused .holdTimeout []]
      due := if s.port.intake = .opened then 1 else 0
      owed := if s.port.intake = .opened then s.port.owed else s.port.owed + 1 }
    sweep := { s.sweep with drainSet := s.sweep.drainSet.filter (· != n) }
    activity := counted s (s.entry n).window fun c => { c with refusals := satInc c.refusals }
    mgmt := reported s.mgmt 11 .timeout (some n) (some (s.entry n).address) (s.entry n).window }

theorem holdExpired_unheaded (hbusy : (s.entry n).state ≠ .free) (hup : s.port.up = true) (hdue : s.port.due = 0) :
    (unheaded s n p).holdExpired n = timedOut s n p := by
  rw [holdExpired_spec unheaded_self hbusy hup hdue]
  rfl

theorem timedOut_entries : entriesAre s (timedOut s n p) n .freed :=
  entriesAre_of_set unheaded_entry fun _ => Table.get_set ..

theorem timedOut_page (hparity : (s.page p).parityOk = true) (j : Nat) : (timedOut s n p).page j = if j = p then
    { s.page p with
      waitHead := (s.entry n).next, waitTail := if (s.entry n).next = none then none else (s.page p).waitTail }
    else s.page j := unheaded_page hparity j

end

section
variable {s : State} {n d : Nat} (hsettled : s.Settled) (hup : s.port.up = true)
  (hdeadline : (s.entry n).deadline = some d) (hd : d ≤ s.now)
include hsettled

theorem arbiterIdle_of_unchanged {u : State} (hchan : u.channels = s.channels) (htag : u.copyTags = s.copyTags)
    (hdemand : u.sweep.demand = s.sweep.demand) (hoffer : u.sweep.offer = s.sweep.offer) (hwp : u.wp = s.wp) :
    u.ArbiterIdle := ArbiterIdle.congr hsettled.arbiter hchan htag hdemand hoffer (congrArg _ hwp)

include hup hdeadline hd

/-- The hold timeout of an entry behind its list's head. -/
theorem holdTimeout_behind {p : Nat} (hwaiting : (s.entry n).state = .waiting) (hpst : (s.entry n).pst = some p)
    (hparity : (s.page p).parityOk = true) (hnodup : (s.waitList p).Nodup) (hlength : (s.waitList p).length ≤ 128)
    (hmem : n ∈ s.waitList p) (hhead : (s.page p).waitHead ≠ some n) :
    ∃ t, exec (.holdTimeout n) s = .next t ∧ t.entry n = .freed ∧
      t.waitList p = (s.waitList p).filter (· != n) ∧
      (∀ m, m ≠ n → t.entry m = { s.entry m with next := (t.entry m).next }) ∧
      (∀ j, j ≠ p → t.page j = s.page j) ∧
      t = { s with
        entries := t.entries, pst := t.pst
        port := credited s t [.completion n .refused .holdTimeout []]
        pool := { s.pool with wait := s.pool.wait.filter (· != n) }
        sweep := { s.sweep with drainSet := s.sweep.drainSet.filter (· != n) }
        activity := counted s (s.entry n).window fun c => { c with refusals := satInc c.refusals }
        mgmt := quiesced s t
          (reported s.mgmt 11 .timeout (some n) (some (s.entry n).address) (s.entry n).window) } := by
  have hlisted : s.isListed n = true := isListed_iff.2 (.inl hwaiting)
  obtain ⟨x, hx, hxn, hwithout⟩ := waitList_without hnodup hlength hmem hhead
  obtain ⟨v, hlist, hself, hother, hwaitHead, hpages, hv⟩ := holdListed_behind hparity hlisted hlength hhead hx hxn
  have hport : v.port = s.port := by rw [hv]
  have hidle : v.ArbiterIdle := by
    rw [hv]
    exact arbiterIdle_of_unchanged hsettled rfl rfl rfl rfl rfl
  obtain ⟨t, ht, hentries, hspec⟩ := finish_holdExpired (s := v) hself (busy_of_isListed hlisted)
    (by rw [hport]; exact hup) (by rw [hport]; exact hsettled.due) hidle
  have hentry : ∀ m, m ≠ n → t.entry m =
      if m = x then { s.entry x with next := (s.entry n).next } else s.entry m := fun m hm => by
    rw [hentries m, if_neg hm, hother m hm]
  have hpst' : t.pst = v.pst := by rw [hspec]
  have hpage : ∀ j, t.page j = v.page j := fun j => by
    unfold State.page
    rw [hpst']
  rw [exec_holdTimeout_listed hdeadline hd hlisted hpst, hlist]
  refine ⟨t, congrArg _ ht, (hentries n).trans (if_pos rfl), hwithout t ?_ fun m hm => ?_, fun m hm => ?_,
    fun j hj => (hpage j).trans (hpages j hj), ?_⟩
  · rw [hpage, hwaitHead]
  · rw [hentry m hm]
    split <;> rfl
  · rw [hentry m hm]
    split
    next hmx => rw [hmx]
    · rfl
  · rw [hpst']
    rw [hv] at hspec
    exact hspec

end

theorem credited_behind {s t w : State} {m : UpMessage} (hempty : t.emptyCondition = w.emptyCondition)
    (hport : w.port = { s.port with sent := s.port.sent ++ [m] }) : credited w w [] = credited s t [m] := by
  unfold credited intakeAfter
  rw [hempty, hport]
  dsimp only
  rw [List.append_nil]

/-- The credit of an earlier completion, at the end of a step that leaves an entry busy. -/
theorem finish_earnCredit_busy {s w : State} {n : Nat} {m : UpMessage} (hup : w.port.up = true) (hdue : w.port.due = 0)
    (hidle : w.ArbiterIdle) (hn : n < 128) (hbusy : (w.entry n).state ≠ .free)
    (hport : w.port = { s.port with sent := s.port.sent ++ [m] }) :
    ∃ t, w.earnCredit.finish = t ∧ t = { w with port := credited s t [m] } := by
  rw [finish_earnCredit hup hdue hidle]
  refine ⟨_, rfl, ?_⟩
  have hempty : w.emptyCondition = false := emptyCondition_busy hn hbusy
  have hempty' : ({ w with port := credited w w [], mgmt := quiesced w w w.mgmt } : State).emptyCondition = false :=
    emptyCondition_busy hn (by exact hbusy)
  have hquiesced : quiesced w w w.mgmt = w.mgmt := if_neg fun h => by simp [hempty] at h
  have hcredited := credited_behind (hempty'.trans hempty.symm) hport
  rw [← hcredited, hquiesced]

/-- Settles O43, by the entry's state and its place in its page's list. -/
theorem holdTimeoutRefusesAndKeepsOrder : Obligations.HoldTimeoutRefusesAndKeepsOrder := by
  intro s n d hsettled hup hn hdeadline hd
  refine ⟨fun hparked => ?_, fun p hwaiting hpst hparity hnodup hlength hmem hhead =>
      holdTimeout_behind hsettled hup hdeadline hd hwaiting hpst hparity hnodup hlength hmem hhead,
    fun p hstate hpst hparity hhead htail hnext => ?_, fun p m hstate hpst hparity hhead hnext hmn => ?_⟩
  · rw [exec_holdTimeout_parked hdeadline hd hparked]
    obtain ⟨t, ht, hspec⟩ := finish_holdExpired (n := n) (e := s.entry n)
      (s := { s with sweep := { s.sweep with park := s.sweep.park.filter fun x => x != n } }) rfl
      (by rw [hparked]; exact nofun) hup hsettled.due (arbiterIdle_of_unchanged hsettled rfl rfl rfl rfl rfl)
    exact ⟨t, congrArg _ ht, hspec⟩
  · have hlisted : s.isListed n = true := isListed_iff.2 (.inr hstate)
    have hpage := unheaded_page (n := n) hparity
    have hbusy : (s.entry n).state ≠ .free := busy_of_isListed hlisted
    obtain ⟨t, ht, hentries, hspec⟩ := finish_holdExpired (s := unheaded s n p) unheaded_self hbusy hup hsettled.due
      (arbiterIdle_of_unchanged hsettled rfl rfl rfl rfl rfl)
    rw [exec_holdTimeout_listed hdeadline hd hlisted hpst, holdListed_head hparity hlisted hhead,
      decidePage_holdExpired unheaded_self hbusy hup (by rw [hpage, if_pos rfl]; exact hparity)
        (by rw [hpage, if_pos rfl]; exact hnext)]
    refine ⟨t, congrArg _ ht, entriesAre_of_set unheaded_entry hentries, fun j => ?_, ?_⟩
    · have hj : t.page j = (unheaded s n p).page j := by rw [hspec]; rfl
      rw [hj, hpage, hnext]
      rfl
    · rw [show t.pst = (unheaded s n p).pst by rw [hspec]]
      exact hspec
  · have hlisted : s.isListed n = true := isListed_iff.2 (.inr hstate)
    have hbusy : (s.entry n).state ≠ .free := busy_of_isListed hlisted
    have hpage : ∀ j, (timedOut s n p).page j = if j = p then { s.page p with waitHead := some m } else s.page j := fun j => by
      rw [timedOut_page hparity, hnext]
      rfl
    rw [exec_holdTimeout_listed hdeadline hd hlisted hpst, holdListed_head hparity hlisted hhead,
      holdExpired_unheaded hbusy hup hsettled.due]
    refine ⟨⟨timedOut s n p, rfl, timedOut_entries, hpage, rfl⟩,
      fun hm hmwaiting hmnext hmtail hrestoring hmem hpasses => ?_⟩
    have hentrym : (timedOut s n p).entry m = s.entry m := (timedOut_entries m).trans (if_neg hmn)
    have hne : ¬(timedOut s n p).restoring = true := fun h => by
      rw [show (timedOut s n p).restoring = s.restoring from rfl, hrestoring] at h
      cases h
    obtain ⟨entries, pst, hdecide, hentries, hpst⟩ := decidePage_issues (u := timedOut s n p) (m := m) (p := p)
      (by rw [hpage, if_pos rfl]; exact hparity) (by rw [hpage, if_pos rfl])
      (isListed_iff.2 (.inl (by rw [hentrym]; exact hmwaiting))) (fun h => absurd h hne) (fun h => absurd h hne)
      (by unfold Passes; rw [hentrym, effective_congr (s := s) (t := timedOut s n p) rfl]; exact hpasses) hentrym hmnext hmem
    generalize hw : ({ s with
      entries := entries, pst := pst, tags := s.tags.set .idle m (queuedAgain s m)
      mem := { s.mem with takeList := s.mem.takeList ++ [m], sendQueue := s.mem.sendQueue ++ [m] }
      port := { s.port with sent := s.port.sent ++ [.completion n .refused .holdTimeout []] }
      pool := { s.pool with wait := s.pool.wait.filter (· != n) }
      sweep := { s.sweep with drainSet := s.sweep.drainSet.filter (· != n) }
      activity := counted s (s.entry n).window fun c => { c with refusals := satInc c.refusals }
      mgmt := reported s.mgmt 11 .timeout (some n) (some (s.entry n).address) (s.entry n).window } : State) = w
    have hport : w.port = { s.port with sent := s.port.sent ++ [.completion n .refused .holdTimeout []] } := by rw [← hw]
    have hentry : ∀ x, w.entry x = if x = m then issuedAt (s.entry m) (s.entry m).address
        else (timedOut s n p).entry x := by
      rw [← hw]
      exact hentries
    have hearned : ((timedOut s n p).decidePage p) = w.earnCredit := by
      rw [hdecide, earnCredit_eq (by rw [hport]; exact hup) (by rw [hport]; exact hsettled.due), ← hw]
      rfl
    have hidle : w.ArbiterIdle := by
      rw [← hw]
      exact arbiterIdle_of_unchanged hsettled rfl rfl rfl rfl rfl
    obtain ⟨t, ht, hspec⟩ := finish_earnCredit_busy (s := s) (w := w) (by rw [hport]; exact hup)
      (by rw [hport]; exact hsettled.due) hidle hm (by rw [hentry, if_pos rfl]; exact nofun) hport
    rw [hearned]
    refine ⟨t, congrArg _ ht, fun x => ?_, fun j => ?_, ?_⟩
    · have hx : t.entry x = w.entry x := by rw [hspec]; rfl
      rw [hx, hentry, timedOut_entries x]
      by_cases hxn : x = n
      · rw [if_pos hxn, if_pos hxn, if_neg fun h : x = m => hmn (h.symm.trans hxn)]
      · rw [if_neg hxn, if_neg hxn]
        rfl
    · have hj : t.page j = pst.get .clear j := by rw [hspec, ← hw]; rfl
      rw [hj, hpst j, hpage, hpage, if_pos rfl]
      split
      · rw [← hparity]
      · rfl
    · rw [show t.entries = entries by rw [hspec, ← hw], show t.pst = pst by rw [hspec, ← hw]]
      subst hw
      exact hspec

end Sys2Proof.Proofs
end

section
/-! Requests that leave their lists one after another and are issued to their own addresses (R12, R112). -/

namespace Sys2Proof.Machine.State

variable {s t u v : State} {n m p : Nat} {e : Entry} {l : List Nat}

/-- The requests of a list have been issued to their own addresses, in order: their entries, their tags and the memory
port's queues, and page entries as `t` has them. -/
structure Passed (s t : State) (l : List Nat) : Prop where
  entry : ∀ m, t.entry m = if m ∈ l then issuedAgain (s.entry m) else s.entry m
  tag : ∀ m, t.tag m = if m ∈ l then queuedAgain s m else s.tag m
  rest : t = { s with entries := t.entries, tags := t.tags, pst := t.pst, mem := taken s.mem l }

namespace Passed

theorem refl (s : State) : Passed s s [] where
  entry m := (if_neg List.not_mem_nil).symm
  tag m := (if_neg List.not_mem_nil).symm
  rest := by
    unfold taken
    rw [List.append_nil, List.append_nil]

theorem entry_of_not_mem (h : Passed s t l) (hm : m ∉ l) : t.entry m = s.entry m := (h.entry m).trans (if_neg hm)

theorem tagAgain (h : Passed s t l) (hm : m ∉ l) : queuedAgain t m = queuedAgain s m := by
  have hnow : t.now = s.now := by rw [h.rest]
  have htimeout : t.mem.responseTimeout = s.mem.responseTimeout := by rw [h.rest]; rfl
  unfold queuedAgain
  rw [h.entry_of_not_mem hm, hnow, htimeout]

theorem trans {l' : List Nat} (h : Passed s t l) (h' : Passed t u l') (hdisjoint : l.Disjoint l') :
    Passed s u (l ++ l') where
  entry m := by
    rw [h'.entry]
    by_cases hm : m ∈ l'
    · rw [if_pos hm, if_pos (List.mem_append_right _ hm), h.entry_of_not_mem fun hl => hdisjoint hl hm]
    · rw [if_neg hm, h.entry]
      exact if_congr ⟨List.mem_append_left _, fun h => (List.mem_append.1 h).resolve_right hm⟩ rfl rfl
  tag m := by
    rw [h'.tag]
    by_cases hm : m ∈ l'
    · rw [if_pos hm, if_pos (List.mem_append_right _ hm), h.tagAgain fun hl => hdisjoint hl hm]
    · rw [if_neg hm, h.tag]
      exact if_congr ⟨List.mem_append_left _, fun h => (List.mem_append.1 h).resolve_right hm⟩ rfl rfl
  rest := by
    have hmem : taken t.mem l' = taken s.mem (l ++ l') := by
      rw [h.rest]
      unfold taken
      dsimp only
      rw [List.append_assoc, List.append_assoc]
    have hrest := h'.rest
    rw [hmem] at hrest
    conv_lhs => rw [hrest, h.rest]

theorem agree (h : Passed s t l) (hchain : (t.page p).chainHead = (s.page p).chainHead) : Agree s t p where
  records := by rw [h.rest]
  slots := by rw [h.rest]
  kind := by rw [h.rest]
  phase := by rw [h.rest]
  target := by rw [h.rest]
  boundary := by rw [h.rest]
  chainHead := hchain

end Passed

/-- A list's head leaves it and is issued to its own address. -/
theorem issueHead_passed (he : s.entry n = e) (hup : s.mem.up = true) : Passed s (s.issueHead p n e.address) [n] ∧
    ∀ j, (s.issueHead p n e.address).page j = if j = p then
      { s.page p with
        waitHead := e.next, waitTail := if e.next = none then none else (s.page p).waitTail, parityOk := true }
      else s.page j := by
  have hself : (s.popHead p n).entry n = { e with next := none } := by
    rw [popHead_eq he]
    exact Table.get_set_same ..
  have hissue : s.issueHead p n e.address = { s.popHead p n with
      entries := (s.popHead p n).entries.set .freed n (issuedAt { e with next := none } e.address)
      tags := s.tags.set .idle n
        ⟨.queued, e.kind, e.address, e.lines, e.masks, e.data, 0, some (s.now + orMax s.mem.responseTimeout)⟩
      mem := taken s.mem [n] } := by
    unfold State.issueHead
    rw [issueTo_up (by rw [popHead_eq he]; exact hup), hself, popHead_eq he]
    rfl
  rw [hissue, popHead_eq he]
  refine ⟨⟨fun m => ?_, fun m => ?_, rfl⟩, fun j => Table.get_set ..⟩
  · refine (tableGet_set_set s.entries .freed n m _ _).trans ?_
    rw [if_congr List.mem_singleton rfl rfl]
    split
    next hm => rw [hm, he]; rfl
    · rfl
  · refine (Table.get_set ..).trans ?_
    rw [if_congr List.mem_singleton rfl rfl]
    split
    next hm => rw [hm]; unfold queuedAgain; rw [he]
    · rfl

/-- What a page's list is in DEGRADED for its requests to pass: sound, without a rollback source to look up in vain. -/
structure PassesAll (u : State) (p : Nat) : Prop where
  degraded : u.ctl.state = .degraded
  up : u.mem.up = true
  parity : (u.page p).parityOk = true
  source : noSource u p
  records : u.restoring = true → ∀ y, (u.record y).parityOk = true

theorem PassesAll.congr (h : PassesAll s p) (hpassed : Passed s t l) (hchain : (t.page p).chainHead = (s.page p).chainHead)
    (hparity : (t.page p).parityOk = true) : PassesAll t p := by
  have hagree := hpassed.agree hchain
  refine ⟨?_, ?_, hparity, fun hrestoring => ?_, fun hrestoring y => ?_⟩
  · rw [hpassed.rest]
    exact h.degraded
  · rw [hpassed.rest]
    exact h.up
  · rw [hagree.restoring] at hrestoring
    rw [hagree.sources]
    exact h.source hrestoring
  · rw [hagree.restoring] at hrestoring
    rw [record_congr hagree.records]
    exact h.records hrestoring y

theorem emptied_eq {v : PstEntry} (hhead : v.waitHead = none) (htail : v.waitTail = none) :
    { v with waitHead := none, waitTail := none } = v := by
  cases v
  subst hhead htail
  rfl

/-- In DEGRADED the requests of a list are issued in order, and the list is empty. -/
theorem decidePageWith_passed {flush : State → State} {k : Nat} (h : PassesAll u p) (hlinked : u.Linked (u.page p).waitHead l)
    (hlisted : ∀ m, m ∈ l → u.isListed m = true) (hnodup : l.Nodup) (hempty : l = [] → (u.page p).waitTail = none)
    (hk : l.length < k) : ∃ v, decidePageWith flush p k u = v ∧ Passed u v l ∧
      ∀ j, v.page j = if j = p then { u.page p with waitHead := none, waitTail := none } else u.page j := by
  induction l generalizing u k with
  | nil =>
    obtain ⟨k, rfl⟩ : ∃ k', k = k' + 1 := ⟨k - 1, by simp at hk; omega⟩
    have hhead : (u.page p).waitHead = none := hlinked
    refine ⟨u, decidePageWith_none h.parity hhead, .refl u, fun j => ?_⟩
    rw [emptied_eq hhead (hempty rfl)]
    split
    next hj => rw [hj]
    · rfl
  | cons m l ih =>
    obtain ⟨k, rfl⟩ : ∃ k', k = k' + 1 := ⟨k - 1, by simp at hk; omega⟩
    obtain ⟨hhead, hlinked⟩ := hlinked
    obtain ⟨hml, hnodup⟩ := List.nodup_cons.1 hnodup
    obtain ⟨hone, hpage⟩ := issueHead_passed (p := p) (s := u) (n := m) rfl h.up
    rw [decidePageWith_passes h.parity hhead (hlisted m (List.mem_cons_self ..)) h.source
      (fun hrestoring y _ => h.records hrestoring y) (.inr (.inl h.degraded))]
    generalize u.issueHead p m (u.entry m).address = w at hone hpage
    have hself := (hpage p).trans (if_pos rfl)
    have hother : ∀ x, x ∈ l → w.entry x = u.entry x := fun x hx =>
      hone.entry_of_not_mem fun h => hml (List.mem_singleton.1 h ▸ hx)
    obtain ⟨v, hv, hpassed, hpages⟩ := ih (u := w) (k := k) (h.congr hone (by rw [hself]) (by rw [hself]))
      (by rw [hself]; exact hlinked.congr fun x hx => by rw [hother x hx])
      (fun x hx => by
        unfold State.isListed
        rw [hother x hx]
        exact hlisted x (List.mem_cons_of_mem _ hx))
      hnodup (fun hl => by
        subst hl
        rw [hself, show (u.entry m).next = none from hlinked]
        rfl)
      (Nat.lt_of_succ_lt_succ hk)
    refine ⟨v, hv, hone.trans hpassed fun x hx hxl => hml (List.mem_singleton.1 hx ▸ hxl), fun j => ?_⟩
    rw [hpages, hself]
    split
    · rw [← h.parity]
    next hj => rw [hpage, if_neg hj]

end Sys2Proof.Machine.State
end

section
/-! The writes in FRAME_WAIT as the entry to DEGRADED issues them (R148, step 3). -/

namespace Sys2Proof.Machine.State

variable {s t u v : State} {n m p : Nat} {l : List Nat} {flush : State → State}

/-- Write `n` in FRAME_WAIT heads page `p`'s list, before the requests `l`. -/
structure Waiter (u : State) (n p : Nat) (l : List Nat) : Prop where
  pst : (u.entry n).pst = some p
  passes : PassesAll u p
  linked : u.Linked (u.page p).waitHead (n :: l)
  listed : ∀ m, m ∈ l → u.isListed m = true
  short : l.length < 129

theorem isListed_congr (h : t.entry m = s.entry m) : t.isListed m = s.isListed m := by
  unfold State.isListed
  rw [h]

/-- A waiter of another page stands while other requests are issued. -/
theorem Waiter.congr {k : List Nat} (h : Waiter s n p l) (hpassed : Passed s t k) (hpage : t.page p = s.page p)
    (hdisjoint : k.Disjoint (n :: l)) : Waiter t n p l := by
  have hentry : ∀ m, m ∈ n :: l → t.entry m = s.entry m := fun m hm =>
    hpassed.entry_of_not_mem fun hk => hdisjoint hk hm
  refine ⟨?_, h.passes.congr hpassed (by rw [hpage]) (by rw [hpage]; exact h.passes.parity), ?_, fun m hm => ?_, h.short⟩
  · rw [hentry n (List.mem_cons_self ..)]
    exact h.pst
  · rw [hpage]
    exact h.linked.congr fun m hm => by rw [hentry m hm]
  · rw [isListed_congr (hentry m (List.mem_cons_of_mem _ hm))]
    exact h.listed m hm

/-- A waiter and the requests behind it are issued, in order. -/
theorem Waiter.issued (h : Waiter u n p l) (hnodup : (n :: l).Nodup) : ∃ v,
    decidePageWith flush p listRounds (u.issueHead p n (u.entry n).address) = v ∧ Passed u v (n :: l) ∧
    ∀ j, v.page j = if j = p then { u.page p with waitHead := none, waitTail := none } else u.page j := by
  obtain ⟨hnl, hnodup⟩ := List.nodup_cons.1 hnodup
  obtain ⟨hone, hpage⟩ := issueHead_passed (p := p) (s := u) (n := n) rfl h.passes.up
  generalize u.issueHead p n (u.entry n).address = w at hone hpage
  have hself := (hpage p).trans (if_pos rfl)
  have hother : ∀ m, m ∈ l → w.entry m = u.entry m := fun m hm =>
    hone.entry_of_not_mem fun h => hnl (List.mem_singleton.1 h ▸ hm)
  obtain ⟨v, hv, hpassed, hpages⟩ := decidePageWith_passed (flush := flush) (u := w) (l := l) (k := listRounds)
    (h.passes.congr hone (by rw [hself]) (by rw [hself]))
    (by rw [hself]; exact h.linked.2.congr fun x hx => by rw [hother x hx])
    (fun m hm => (isListed_congr (hother m hm)).trans (h.listed m hm)) hnodup
    (fun hl => by
      have hnext := h.linked.2
      subst hl
      rw [hself, show (u.entry n).next = none from hnext]
      rfl)
    h.short
  refine ⟨v, hv, hone.trans hpassed fun x hx hxl => hnl (List.mem_singleton.1 hx ▸ hxl), fun j => ?_⟩
  rw [hpages, hself]
  split
  · rw [← h.passes.parity]
  next hj => rw [hpage, if_neg hj]

theorem Passed.withPool (h : Passed s t l) (q : Pool) : Passed { s with pool := q } { t with pool := q } l where
  entry := h.entry
  tag := h.tag
  rest := by conv_lhs => rw [h.rest]

theorem Waiter.withPool (h : Waiter u n p l) (q : Pool) : Waiter { u with pool := q } n p l where
  pst := h.pst
  passes :=
    have hagree : Agree u { u with pool := q } p := ⟨rfl, rfl, rfl, rfl, rfl, rfl, rfl⟩
    ⟨h.passes.degraded, h.passes.up, h.passes.parity,
      fun hrestoring => hagree.sources.trans (h.passes.source hrestoring), h.passes.records⟩
  linked := h.linked.congr fun _ _ => rfl
  listed := h.listed
  short := h.short

/-- The requests of waiters, in order: each write, and those behind it. -/
def waitersList (ws : List (Nat × Nat × List Nat)) : List Nat := ws.flatMap fun w => w.1 :: w.2.2

theorem flushWaitersWith_cons {rest : List Nat} {k : Nat} (hwait : u.pool.wait = n :: rest)
    (hpst : (u.entry n).pst = some p) (hparity : (u.page p).parityOk = true)
    (hu : { u with pool := { u.pool with wait := rest } } = v) :
    flushWaitersWith flush (k + 1) u =
      flushWaitersWith flush k (decidePageWith flush p listRounds (v.issueHead p n (v.entry n).address)) := by
  have hset : u.setPool { u.pool with wait := rest } = v := hu
  have hpst' : (v.entry n).pst = some p := by rw [← hu]; exact hpst
  rw [flushWaitersWith, hwait]
  dsimp only
  rw [hset, hpst']
  dsimp only
  rw [checkPageWith_sound (by rw [← hu]; exact hparity)]

/-- The flush of the writes in FRAME_WAIT. -/
theorem flushWaitersWith_passed {ws : List (Nat × Nat × List Nat)} {k : Nat}
    (hwaiters : ∀ w, w ∈ ws → Waiter u w.1 w.2.1 w.2.2) (hwait : u.pool.wait = ws.map (·.1))
    (hnodup : (waitersList ws).Nodup) (hk : ws.length < k) : ∃ v, flushWaitersWith flush k u = v ∧
    Passed { u with pool := { u.pool with wait := [] } } v (waitersList ws) ∧
    ∀ j, v.page j = if j ∈ ws.map (·.2.1) then { u.page j with waitHead := none, waitTail := none } else u.page j := by
  induction ws generalizing u k with
  | nil =>
    obtain ⟨k, rfl⟩ : ∃ k', k = k' + 1 := ⟨k - 1, by simp at hk; omega⟩
    refine ⟨u, ?_, ?_, fun j => (if_neg List.not_mem_nil).symm⟩
    · unfold Machine.flushWaitersWith
      rw [hwait]
      rfl
    · have hpool : ({ u with pool := { u.pool with wait := [] } } : State) = u := by
        rw [← show u.pool.wait = [] from hwait]
      rw [hpool]
      exact .refl u
  | cons w ws ih =>
    obtain ⟨k, rfl⟩ : ∃ k', k = k' + 1 := ⟨k - 1, by simp at hk; omega⟩
    obtain ⟨n, p, l⟩ := w
    have hfirst : Waiter u n p l := hwaiters _ (List.mem_cons_self ..)
    obtain ⟨hnl, hrest, hdisjoint⟩ := List.nodup_append'.1 (show ((n :: l) ++ waitersList ws).Nodup from hnodup)
    generalize hu : ({ u with pool := { u.pool with wait := ws.map (·.1) } } : State) = u'
    have hfirst' : Waiter u' n p l := by rw [← hu]; exact hfirst.withPool _
    obtain ⟨v', hv', hpassed', hpages'⟩ := hfirst'.issued (flush := flush) hnl
    have hpage' : ∀ j, u'.page j = u.page j := fun j => by rw [← hu]; rfl
    have hstep : flushWaitersWith flush (k + 1) u = flushWaitersWith flush k v' := by
      rw [flushWaitersWith_cons hwait hfirst.pst hfirst.passes.parity hu, hv']
    have hlater : ∀ w, w ∈ ws → w.2.1 ≠ p ∧ Waiter v' w.1 w.2.1 w.2.2 := by
      intro w hw
      have hwaiter := hwaiters w (List.mem_cons_of_mem _ hw)
      have hsub : ∀ m, m ∈ w.1 :: w.2.2 → m ∈ waitersList ws := fun m hm => List.mem_flatMap.2 ⟨w, hw, hm⟩
      have hne : w.2.1 ≠ p := by
        intro hp
        have hhead := hwaiter.linked.1
        rw [hp, hfirst.linked.1] at hhead
        exact hdisjoint (List.mem_cons_self ..) (hsub n (by rw [Option.some.inj hhead]; exact List.mem_cons_self ..))
      refine ⟨hne, Waiter.congr (s := u') (by rw [← hu]; exact hwaiter.withPool _) hpassed' ?_ fun m hm hmw =>
        hdisjoint hm (hsub m hmw)⟩
      rw [hpages', if_neg hne]
    have hpool' : v'.pool = { u.pool with wait := ws.map (·.1) } := by rw [hpassed'.rest, ← hu]
    obtain ⟨v, hv, hpassed, hpages⟩ := ih (u := v') (k := k) (fun w hw => (hlater w hw).2) (by rw [hpool'])
      hrest (Nat.lt_of_succ_lt_succ hk)
    refine ⟨v, hstep.trans hv, ?_, fun j => ?_⟩
    · have hboth := (hpassed'.withPool { v'.pool with wait := [] }).trans hpassed hdisjoint
      rw [← hu, hpool'] at hboth
      exact hboth
    · rw [hpages, hpages', hpage', hpage', List.map_cons]
      by_cases hj : j = p
      · subst hj
        rw [if_pos rfl, if_neg fun hmem => ?_, if_pos (List.mem_cons_self ..)]
        obtain ⟨w, hw, hp⟩ := List.mem_map.1 hmem
        exact (hlater w hw).1 hp
      · rw [if_neg hj]
        exact if_congr ⟨List.mem_cons_of_mem _, fun h => (List.mem_cons.1 h).resolve_left hj⟩ rfl rfl

end Sys2Proof.Machine.State
end

section
/-! DEGRADE (O29). -/

namespace Sys2Proof.Laws

open Sys2Proof.Machine

/-- DEGRADED, once entered with cause COMMAND, stays so (R143). -/
theorem closed_degraded : Closed fun s => s.ctl.state = .degraded ∧ s.ctl.causeCommand = true where
  raise _ _ h := h
  capture _ _ _ _ _ h := by rwa [State.capture_ctl]
  act _ _ _ h := h
  page _ _ _ h := h
  slot _ _ _ _ h := h
  record _ _ _ h := h
  entry _ _ _ h := h
  chan _ _ _ _ h := h
  copyTag _ _ _ h := h
  pool _ _ _ _ _ h := h
  wp _ _ _ _ h := h
  sweep _ _ _ _ h := h
  fault _ _ h := by rwa [State.appendFault_eq]
  port _ _ _ _ h := h
  take _ _ _ _ _ _ _ _ h := h
  ctl s v hgrows _ h := by
    obtain hstate | ⟨hguarding, -⟩ := hgrows.state
    · exact ⟨hstate.trans h.1, hgrows.command h.2⟩
    · exact absurd (h.1.symm.trans hguarding) (by decide)

/-- The result of a command stands while its step ends (R172). -/
theorem closed_result (r : ResultWord) : Closed fun s => s.mgmt.result = r where
  raise _ _ h := h
  capture _ _ _ _ _ h := by
    unfold State.capture
    split <;> exact h
  act _ _ _ h := h
  page _ _ _ h := h
  slot _ _ _ _ h := h
  record _ _ _ h := h
  entry _ _ _ h := h
  chan _ _ _ _ h := h
  copyTag _ _ _ h := h
  pool _ _ _ _ _ h := h
  wp _ _ _ _ h := h
  sweep _ _ _ _ h := h
  fault _ _ h := by rwa [State.appendFault_eq]
  port _ _ _ _ h := h
  take _ _ _ _ _ _ _ _ h := h
  ctl _ _ _ _ h := h

end Sys2Proof.Laws

namespace Sys2Proof.Machine.State

variable {s t u v : State} {n m p : Nat} {l : List Nat} {flush : State → State}

/-! ## What the damage of slots leaves (R27) -/

/-- Slots that differ in their damage alone. -/
structure SameMarks (s t : State) : Prop where
  records : t.records = s.records
  sweep : t.sweep = s.sweep
  pst : t.pst = s.pst
  state : ∀ q, (t.slot q).state = (s.slot q).state
  seq : ∀ q, (t.slot q).seq = (s.slot q).seq
  head : ∀ q, (t.slot q).head = (s.slot q).head

namespace SameMarks

variable (h : SameMarks s t)
include h

theorem slotOf (r : Record) : t.slotOf r = s.slotOf r := by
  unfold State.slotOf
  simp only [h.state]

theorem journal (q : Nat) : t.journal q = s.journal q := by
  unfold State.journal
  rw [journalFrom_congr h.records, h.head, h.records]

theorem isSource (r : Nat) : t.isSource r = s.isSource r := by
  unfold State.isSource
  rw [h.slotOf, record_congr h.records, h.sweep]
  simp only [h.state, h.journal]

theorem belowTarget (r : Nat) : t.belowTarget r = s.belowTarget r := by
  unfold State.belowTarget State.recSeq
  rw [h.slotOf, record_congr h.records, h.sweep]
  simp only [h.seq]

theorem sources (p : Nat) : t.sources p = s.sources p := by
  have hchain : t.chain p = s.chain p := by
    unfold State.chain State.page
    rw [chainFrom_congr h.records, h.records, h.pst]
  unfold State.sources State.sinceTarget
  rw [hchain, funext h.belowTarget, funext h.isSource]

theorem noSource (hsource : noSource s p) : noSource t p := by
  intro hrestoring
  rw [h.sources]
  unfold State.restoring at hrestoring
  rw [h.sweep] at hrestoring
  exact hsource hrestoring

end SameMarks

/-! ## The writes in FRAME_WAIT (R148) -/

theorem length_le_of_lt {b : Nat} (hnodup : l.Nodup) (hlt : ∀ m, m ∈ l → m < b) : l.length ≤ b := by
  have h := (hnodup.subperm fun m hm => List.mem_range.2 (hlt m hm)).length_le
  rwa [List.length_range] at h

/-- The requests behind write `n` in the list of its page. -/
def behind (s : State) (n : Nat) : Nat × List Nat :=
  match (s.entry n).pst with
  | none => (0, [])
  | some x => (x, (s.waitList x).tail)

/-- The writes in FRAME_WAIT with their pages and the requests behind them. -/
def waiters (s : State) : List (Nat × Nat × List Nat) := s.pool.wait.map fun n => (n, s.behind n)

theorem waiters_heads (s : State) : s.waiters.map (·.1) = s.pool.wait := by
  unfold waiters
  rw [List.map_map]
  exact List.map_id _

section
variable (h : WaitersStand s)
include h

theorem waiter_of_mem (hn : n ∈ s.pool.wait) : ∃ x, (s.entry n).pst = some x ∧ s.waitList x = n :: (s.behind n).2 ∧
    (s.behind n).1 = x ∧ s.Linked (s.page x).waitHead (n :: (s.behind n).2) ∧ (s.page x).parityOk = true ∧
    noSource s x ∧ ∀ m, m ∈ n :: (s.behind n).2 → m ∈ waitersIssued s := by
  obtain ⟨-, x, hx, hhead, hparity, hsource⟩ := h.heads n hn
  have hsub : ∀ m, m ∈ s.waitList x → m ∈ waitersIssued s := fun m hm =>
    List.mem_flatMap.2 ⟨n, hn, by rw [hx]; exact hm⟩
  have hnodup : (s.waitList x).Nodup := by
    have hn' := (List.nodup_flatMap.1 h.once).1 n hn
    rwa [hx] at hn'
  have hlinked := linked_waitList (length_le_of_lt hnodup fun m hm => (h.listed m (hsub m hm)).1)
  have hlist : s.waitList x = n :: (s.waitList x).tail := by
    cases hl : s.waitList x with
    | nil =>
      rw [hl, hhead] at hlinked
      cases hlinked
    | cons y l =>
      rw [hl] at hlinked
      rw [Option.some.inj (hhead.symm.trans hlinked.1)]
      rfl
  have hbehind : s.behind n = (x, (s.waitList x).tail) := by
    unfold behind
    rw [hx]
  rw [hbehind]
  refine ⟨x, hx, hlist, rfl, ?_, hparity, hsource, ?_⟩
  · rw [← hlist]
    exact hlinked
  · rw [← hlist]
    exact hsub

theorem waitersList_waiters : waitersList s.waiters = waitersIssued s := by
  unfold waitersList waiters waitersIssued
  rw [List.flatMap_map]
  refine List.flatMap_congr fun n hn => ?_
  obtain ⟨x, hx, hlist, -⟩ := waiter_of_mem h hn
  rw [hx]
  exact hlist.symm

theorem waitersPage_eq (y : Nat) : waitersPage s y = if y ∈ s.waiters.map (·.2.1) then
    { s.page y with waitHead := none, waitTail := none } else s.page y := by
  unfold waitersPage
  refine if_congr ?_ rfl rfl
  rw [List.any_eq_true, List.mem_map]
  constructor
  · rintro ⟨n, hn, hy⟩
    obtain ⟨x, hx, -, hbehind, -⟩ := waiter_of_mem h hn
    rw [hx, beq_iff_eq, Option.some.injEq] at hy
    exact ⟨_, List.mem_map_of_mem hn, hbehind.trans hy⟩
  · rintro ⟨w, hw, hy⟩
    obtain ⟨n, hn, rfl⟩ := List.mem_map.1 hw
    obtain ⟨x, hx, -, hbehind, -⟩ := waiter_of_mem h hn
    refine ⟨n, hn, ?_⟩
    rw [hx, beq_iff_eq, ← hbehind]
    exact congrArg some hy

theorem waiters_nodup : (waitersList s.waiters).Nodup := by
  rw [waitersList_waiters h]
  exact h.once

theorem waiters_short : s.waiters.length < listRounds := by
  have hheads := List.length_le_sum_of_one_le (s.waiters.map fun w => (w.1 :: w.2.2).length) fun i hi => by
    obtain ⟨w, -, rfl⟩ := List.mem_map.1 hi
    exact Nat.succ_pos _
  have hissued := length_le_of_lt h.once fun m hm => (h.listed m hm).1
  rw [← waitersList_waiters h] at hissued
  unfold waitersList at hissued
  rw [List.length_map] at hheads
  rw [List.length_flatMap] at hissued
  exact Nat.lt_of_le_of_lt (hheads.trans hissued) (by decide)

/-- A write in FRAME_WAIT and those behind it, in a state that differs from `s` in the operating state and the damage of
marks. -/
theorem waiters_stand (hsame : SameMarks s t) (hentries : t.entries = s.entries) {w : Nat × Nat × List Nat}
    (hw : w ∈ s.waiters) : (t.entry w.1).pst = some w.2.1 ∧ t.Linked (t.page w.2.1).waitHead (w.1 :: w.2.2) ∧
    (t.page w.2.1).parityOk = true ∧ noSource t w.2.1 ∧ (t.restoring = true → ∀ y, (t.record y).parityOk = true) ∧
    (∀ m, m ∈ w.2.2 → t.isListed m = true) ∧ w.2.2.length < 129 := by
  have hentry : t.entry = s.entry := by
    unfold State.entry
    rw [hentries]
  have hpage : t.page = s.page := by
    unfold State.page
    rw [hsame.pst]
  obtain ⟨n, hn, rfl⟩ := List.mem_map.1 hw
  obtain ⟨x, hx, hlist, hbehind, hlinked, hparity, hsource, hsub⟩ := waiter_of_mem h hn
  have hnodup : (n :: (s.behind n).2).Nodup := (List.nodup_flatMap.1 (waiters_nodup h)).1 _ hw
  have hlength := length_le_of_lt hnodup fun m hm => (h.listed m (hsub m hm)).1
  dsimp only
  rw [hbehind, hpage]
  refine ⟨by rw [hentry]; exact hx, hlinked.congr fun _ _ => by rw [hentry], hparity, hsame.noSource hsource, ?_,
    fun m hm => ?_, ?_⟩
  · intro hrestoring y
    unfold State.restoring at hrestoring
    rw [hsame.sweep] at hrestoring
    rw [record_congr hsame.records]
    exact h.records hrestoring y
  · rw [isListed_congr (s := s) (by rw [hentry]), Proofs.isListed_iff]
    obtain hstate | hstate := (h.listed m (hsub m (List.mem_cons_of_mem _ hm))).2
    · exact .inr (.inr hstate)
    · exact .inl hstate
  · exact Nat.lt_of_lt_of_le (Nat.lt_of_succ_le hlength) (by decide)

/-- The flush of the writes in FRAME_WAIT in such a state. -/
theorem flushWaiters_stands (hsame : SameMarks s t) (hdegraded : t.ctl.state = .degraded) (hup : t.mem.up = true)
    (hentries : t.entries = s.entries) (hpool : t.pool = s.pool) : ∃ v, flushWaiters t = v ∧
    Passed { t with pool := { s.pool with wait := [] } } v (waitersIssued s) ∧ ∀ y, v.page y = waitersPage s y := by
  have hwaiters : ∀ w, w ∈ s.waiters → Waiter t w.1 w.2.1 w.2.2 := fun w hw => by
    obtain ⟨hpst, hlinked, hparity, hsource, hrecords, hlisted, hshort⟩ := waiters_stand h hsame hentries hw
    exact ⟨hpst, ⟨hdegraded, hup, hparity, hsource, hrecords⟩, hlinked, hlisted, hshort⟩
  obtain ⟨v, hv, hpassed, hpages⟩ := flushWaitersWith_passed (flush := id) hwaiters
    (by rw [hpool]; exact s.waiters_heads.symm) (waiters_nodup h) (waiters_short h)
  rw [waitersList_waiters h, hpool] at hpassed
  refine ⟨v, hv, hpassed, fun y => ?_⟩
  rw [hpages, waitersPage_eq h]
  unfold State.page
  rw [hsame.pst]

end

end Sys2Proof.Machine.State
end

section
namespace Sys2Proof.Proofs

open Sys2Proof.Machine Sys2Proof.Machine.State

/-- The state at which DEGRADE enters DEGRADED, before the flush. -/
def entering (s : State) : State := { s with ctl := { s.ctl with state := .degraded, causeCommand := true } }

theorem exec_degrade_guarding {s : State} (h : s.ctl.state = .guarding) : exec .degrade s =
    .next (State.finish ((State.raise .degraded (flushWaiters (entering s).damageLive)).answer 9#8 (.plain .done))) := by
  show execDegrade s = _
  unfold execDegrade State.command State.degradeCommand
  rw [h]
  rfl

/-- The flags and the result of a DEGRADE that is done. -/
theorem degrade_mgmt (m : Mgmt) :
    { m with
      cmdCount := m.cmdCount + 1#32, result := ⟨9#8, .done, .none, 0#12⟩
      flags := m.flags ||| BitVec.twoPow 21 17 ||| BitVec.twoPow 21 0 } =
    { answered m 9#8 .done with flags := m.flags ||| 1#21 ||| BitVec.twoPow 21 17 } := by
  have hflags : m.flags ||| BitVec.twoPow 21 17 ||| BitVec.twoPow 21 0 = m.flags ||| 1#21 ||| BitVec.twoPow 21 17 := by
    rw [BitVec.or_assoc, BitVec.or_comm (BitVec.twoPow 21 17), ← BitVec.or_assoc]
    rfl
  rw [hflags]
  rfl

section
variable {s : State}

/-- What stands of DEGRADED at the end of any step that enters it by command. -/
theorem degrade_holds (u : State) (hu : u.ctl.state = .degraded ∧ u.ctl.causeCommand = true) (t : State)
    (ht : t = State.finish ((State.raise .degraded (flushWaiters u.damageLive)).answer 9#8 (.plain .done))) :
    t.ctl.state = .degraded ∧ t.ctl.causeCommand = true ∧ t.flag .degraded = true ∧ t.flag .cmdDone = true ∧
      t.mgmt.result = ⟨9#8, .done, .none, 0#12⟩ := by
  have hctl := Laws.closed_degraded
  have hflushed := hctl.flushWaiters _ (hctl.damageLive hu)
  have hend := hctl.finish (s := (State.raise .degraded (flushWaiters u.damageLive)).answer 9#8 (.plain .done)) hflushed
  subst ht
  refine ⟨hend.1, hend.2, ?_, ?_, ?_⟩
  · refine (Laws.commandClosed_flag .degraded).finish (raise_keeps_flag _ ?_)
    show (State.raise .degraded (flushWaiters u.damageLive)).flag .degraded = true
    rw [raise_flag, Bool.or_eq_true]
    exact .inr (by decide)
  · refine (Laws.commandClosed_flag .cmdDone).finish ?_
    unfold State.answer
    rw [raise_flag, Bool.or_eq_true]
    exact .inr (by decide)
  · exact (Laws.closed_result _).finish (by rfl)

/-- DEGRADE with no write in FRAME_WAIT. -/
theorem degrade_quiet (hsettled : s.Settled) (hwait : s.pool.wait = []) (t : State)
    (ht : t = State.finish ((State.raise .degraded (flushWaiters (entering s).damageLive)).answer 9#8 (.plain .done))) :
    t = { s with
      ctl := { s.ctl with state := .degraded, causeCommand := true }
      slots := t.slots
      mgmt := { answered s.mgmt 9#8 .done with flags := s.mgmt.flags ||| 1#21 ||| BitVec.twoPow 21 17 } } ∧
    ∀ q, t.slot q = if q < 5 ∧ (s.slot q).state = .live then { s.slot q with damaged := true } else s.slot q := by
  obtain ⟨slots, hdamage, hslots⟩ := (entering s).damageLive_spec
  rw [flushWaiters_none (by rw [damageLive_pool]; exact hwait), hdamage] at ht
  generalize hz : State.answer 9#8 (.plain .done) (State.raise .degraded ({ entering s with slots := slots } : State)) = z at ht
  have hz' : z.Settled := by
    rw [← hz]
    exact hsettled.congr rfl (fun _ => rfl) rfl rfl rfl rfl rfl
  rw [finish_settled hz'] at ht
  subst hz
  subst ht
  refine ⟨?_, hslots⟩
  rw [← degrade_mgmt]
  rfl

/-- DEGRADE with writes in FRAME_WAIT. -/
theorem degrade_waiters (hsettled : s.Settled) (hup : s.mem.up = true) (h : WaitersStand s) (t : State)
    (ht : t = State.finish ((State.raise .degraded (flushWaiters (entering s).damageLive)).answer 9#8 (.plain .done))) :
    (∀ m, t.entry m = if m ∈ waitersIssued s then issuedAgain (s.entry m) else s.entry m) ∧
    (∀ m, t.tag m = if m ∈ waitersIssued s then queuedAgain s m else s.tag m) ∧
    (∀ y, t.page y = waitersPage s y) ∧
    (∀ q, t.slot q = if q < 5 ∧ (s.slot q).state = .live then { s.slot q with damaged := true } else s.slot q) ∧
    t = { s with
      ctl := { s.ctl with state := .degraded, causeCommand := true }
      slots := t.slots, entries := t.entries, pst := t.pst, tags := t.tags, pool := { s.pool with wait := [] }
      mem := taken s.mem (waitersIssued s)
      mgmt := { answered s.mgmt 9#8 .done with flags := s.mgmt.flags ||| 1#21 ||| BitVec.twoPow 21 17 } } := by
  obtain ⟨slots, hdamage, hslots⟩ := (entering s).damageLive_spec
  have hsame : SameMarks s { entering s with slots := slots } := by
    have hslot : ∀ q, ({ entering s with slots := slots } : State).slot q = _ := hslots
    refine ⟨rfl, rfl, rfl, fun q => ?_, fun q => ?_, fun q => ?_⟩ <;> rw [hslot] <;> split <;> rfl
  obtain ⟨v, hv, hpassed, hpages⟩ := flushWaiters_stands (t := { entering s with slots := slots }) h hsame rfl hup rfl rfl
  rw [hdamage, hv] at ht
  have hrest := hpassed.rest
  generalize hz : State.answer 9#8 (.plain .done) (State.raise .degraded v) = z at ht
  have hspec : z = { s with
      ctl := { s.ctl with state := .degraded, causeCommand := true }
      slots := slots, entries := v.entries, pst := v.pst, tags := v.tags, pool := { s.pool with wait := [] }
      mem := taken s.mem (waitersIssued s)
      mgmt := { answered s.mgmt 9#8 .done with flags := s.mgmt.flags ||| 1#21 ||| BitVec.twoPow 21 17 } } := by
    rw [← hz, ← degrade_mgmt]
    conv_lhs => rw [hrest]
    rfl
  have hentry : ∀ m, z.entry m = if m ∈ waitersIssued s then issuedAgain (s.entry m) else s.entry m := by
    rw [← hz]
    exact hpassed.entry
  have hidle : z.ArbiterIdle := by
    rw [hspec]
    exact arbiterIdle_of_unchanged hsettled rfl rfl rfl rfl rfl
  have hclosing : z.port.intake = .closing → z.emptyCondition = false := by
    intro hclosing
    cases hissued : waitersIssued s with
    | nil =>
      rw [hspec] at hclosing
      rw [← hsettled.intake hclosing]
      refine emptyCondition_congr (fun m => ?_) ?_ ?_ ?_ ?_
      · rw [hentry, hissued, if_neg List.not_mem_nil]
      all_goals rw [hspec]
    | cons m l =>
      have hm : m ∈ waitersIssued s := by rw [hissued]; exact List.mem_cons_self ..
      refine emptyCondition_busy (h.listed m hm).1 ?_
      rw [hentry, if_pos hm]
      exact nofun
  have hdue : z.port.due = 0 := by
    rw [hspec]
    exact hsettled.due
  rw [finish_eq hidle hclosing, sendCredits_none hdue] at ht
  subst ht
  refine ⟨hentry, ?_, ?_, ?_, ?_⟩
  · rw [← hz]
    exact hpassed.tag
  · rw [← hz]
    exact hpages
  · rw [hspec]
    exact hslots
  · rw [show t.slots = slots by rw [hspec], show t.entries = v.entries by rw [hspec], show t.pst = v.pst by rw [hspec],
      show t.tags = v.tags by rw [hspec]]
    exact hspec

end

/-- Settles O29, in each operating state. -/
theorem degradeEntersDegraded : Obligations.DegradeEntersDegraded := by
  intro s
  refine ⟨fun hguarding => ?_, fun hsettled hdegraded => ?_, fun hsettled hstate => ?_⟩
  · obtain ⟨t, ht⟩ : ∃ t, t = State.finish
      ((State.raise .degraded (flushWaiters (entering s).damageLive)).answer 9#8 (.plain .done)) := ⟨_, rfl⟩
    obtain ⟨hstate, hcause, hdegraded, hdone, hresult⟩ := degrade_holds (entering s) ⟨rfl, rfl⟩ t ht
    refine ⟨t, (exec_degrade_guarding hguarding).trans (congrArg _ ht.symm), hstate, hcause, hdegraded, hdone, hresult,
      fun hsettled hwait => degrade_quiet hsettled hwait t ht, fun hsettled hup hstands => ?_⟩
    exact degrade_waiters hsettled hup hstands t ht
  · have hexec : exec .degrade s = .next ((s.addCause .command).answer 9#8 (.plain .done)).finish := by
      show execDegrade s = _
      unfold execDegrade State.command State.degradeCommand
      rw [hdegraded]
    rw [hexec, finish_settled]
    · rfl
    · exact hsettled.congr rfl (fun _ => rfl) rfl rfl rfl rfl rfl
  · have hexec : exec .degrade s = .next (s.answer 9#8 (.plain .badState)).finish := by
      show execDegrade s = _
      unfold execDegrade State.command State.degradeCommand
      obtain h | h := hstate <;> rw [h] <;> rfl
    rw [hexec, finish_settled]
    · rfl
    · exact hsettled.congr rfl (fun _ => rfl) rfl rfl rfl rfl rfl

end Sys2Proof.Proofs
end

section
/-! A commit's completion step (O57). -/

namespace Sys2Proof.Machine.State

variable {s t : State}

/-- A pressure check leaves a settled step settled. -/
theorem Settled.pressureCheck (h : s.Settled) : s.pressureCheck.Settled := by
  obtain ⟨hdemand, hoffer⟩ := s.pressureCheck_copies
  obtain ⟨slots, sweep, mgmt, heq⟩ := s.pressureCheck_frame
  rw [heq] at hdemand hoffer ⊢
  exact h.congr rfl (fun _ => rfl) rfl rfl hdemand hoffer rfl

theorem finish_pressureCheck_settled (h : s.Settled) : s.pressureCheck.finish = s.pressureCheck :=
  finish_settled h.pressureCheck

/-- A commit's completion where no record is left over and the PST is sound. -/
theorem commitComplete_spec (hentries : s.entries.canonical .freed = true) (hpages : s.pst.canonical .clear = true)
    (h : ∀ p, (s.page p).parityOk = true) (hleft : s.leftRecords = []) : ∃ slots entries pst,
    (∀ t : State, t = { s with
      slots := slots, nextSeq := 1#32, entries := entries, pst := pst, sweep := idleSweep s.sweep
      mgmt := { s.mgmt with flags := s.mgmt.flags ||| BitVec.twoPow 21 1 } } →
      s.commitComplete = (if (s.sweep.cause == some .recover) = true then t.recoverComplete else t).pressureCheck) ∧
    (∀ q, slots.get .freed q = if q < 5 ∧ (s.slot q).state = .retiring then .freed else s.slot q) ∧
    (∀ n, entries.get .freed n = { s.entry n with stamp := 0#32 }) ∧
    ∀ p, pst.get .clear p = { s.page p with touch := 0#32, chainHead := none } := by
  obtain ⟨slots, entries, pst, hrestart, hspec⟩ := restarted_spec hentries hpages h hleft
  refine ⟨slots, entries, pst, fun t ht => ?_, hspec⟩
  subst ht
  unfold State.commitComplete
  dsimp only
  rw [hrestart]
  rfl

theorem recoverComplete_sound (h : s.ctl.spoiled = false) : s.recoverComplete = { s with ctl := { s.ctl with
    state := .guarding, causeLink := false, causeTable := false, causeCommand := false, tableFault := false
    spoiled := false, faultDuring := false, linkLost := false } } := by
  unfold State.recoverComplete
  dsimp only
  rw [if_pos h]
  rfl

/-- A recovery that was spoiled ends in DEGRADED. -/
theorem recoverComplete_spoiled (h : s.ctl.spoiled = true) (hwait : s.pool.wait = []) : ∃ slots,
    s.recoverComplete = { s with
      ctl := { s.ctl with
        state := .degraded, causeLink := s.ctl.linkLost, causeTable := s.ctl.faultDuring, causeCommand := false
        tableFault := s.ctl.faultDuring && s.ctl.tableFault, spoiled := false, faultDuring := false, linkLost := false }
      slots := slots
      mgmt := { s.mgmt with flags := s.mgmt.flags ||| BitVec.twoPow 21 17 } } ∧
    ∀ q, slots.get .freed q =
      if q < 5 ∧ (s.slot q).state = .live then { s.slot q with damaged := true } else s.slot q := by
  obtain ⟨slots, hdamage, hslots⟩ := damageLive_spec { s with ctl := { s.ctl with
    state := .degraded, causeLink := s.ctl.linkLost, causeTable := s.ctl.faultDuring, causeCommand := false
    tableFault := s.ctl.faultDuring && s.ctl.tableFault } }
  refine ⟨slots, ?_, hslots⟩
  unfold State.recoverComplete
  dsimp only
  rw [if_neg (by simp [h]), enterDegradedWith_quiet (by exact hwait)]
  exact congrArg (fun v : State => (v.raise .degraded).setCtl
    { (v.raise .degraded).ctl with spoiled := false, faultDuring := false, linkLost := false }) hdamage

end Sys2Proof.Machine.State

namespace Sys2Proof.Proofs

open Sys2Proof.Machine Sys2Proof.Machine.State

theorem exec_commitWalkStep_done {s : State} (hkind : s.sweep.kind = .commit) (hwaiting : s.sweep.waitingOn = none)
    (hcursor : s.sweep.cursor = none) : exec .commitWalkStep s = .next s.commitComplete.finish := by
  show execCommitWalkStep s = _
  unfold execCommitWalkStep
  rw [if_pos ⟨hkind, hwaiting⟩, hcursor]

/-- Settles O57: the tables' restart, and state control after a RECOVER. -/
theorem commitCompletionRestartsTheSequence : Obligations.CommitCompletionRestartsTheSequence := by
  intro s hsettled hcanonical hkind hwaiting hcursor hleft hparity hwait
  obtain ⟨slots, entries, pst, hcomplete, hslots, hentries, hpages⟩ := commitComplete_spec
    (tablesCanonical_iff.1 hcanonical).entries (tablesCanonical_iff.1 hcanonical).pst hparity hleft
  generalize ht : ({ s with
    slots := slots, nextSeq := 1#32, entries := entries, pst := pst, sweep := idleSweep s.sweep
    mgmt := { s.mgmt with flags := s.mgmt.flags ||| BitVec.twoPow 21 1 } } : State) = t
  have hcomplete := hcomplete t ht.symm
  have htsettled : t.Settled := by
    rw [← ht]
    refine hsettled.congr rfl (fun n => ?_) rfl rfl rfl rfl rfl
    show (entries.get .freed n).state = _
    rw [hentries]
  have hdone : ∀ u : State, (if (s.sweep.cause == some .recover) = true then t.recoverComplete else t) = u → u.Settled →
      exec .commitWalkStep s = .next u.pressureCheck := by
    rintro u rfl hu
    rw [exec_commitWalkStep_done hkind hwaiting hcursor, hcomplete, finish_pressureCheck_settled hu]
  by_cases hcause : s.sweep.cause = some .recover
  · rw [if_pos (by rw [hcause]; rfl)] at hdone
    cases hspoiled : s.ctl.spoiled with
    | false =>
      have hexec := hdone _ (recoverComplete_sound (by rw [← ht]; exact hspoiled))
        (htsettled.congr rfl (fun _ => rfl) rfl rfl rfl rfl rfl)
      subst ht
      refine ⟨_, hexec, fun q => (hslots q).trans ?_, hentries, hpages, ?_, fun h => absurd hcause h, fun _ _ => ?_,
        fun _ h => nomatch h⟩
      · rw [if_neg (c := s.sweep.cause = some .recover ∧ false = true ∧ _) fun h => nomatch h.2.1]
      · have hflags : s.mgmt.flags ||| BitVec.twoPow 21 1 |||
            (if s.sweep.cause = some .recover ∧ false = true then BitVec.twoPow 21 17 else 0#21) =
            s.mgmt.flags ||| BitVec.twoPow 21 1 := by
          rw [if_neg fun h => nomatch h.2]
          exact BitVec.or_zero
        rw [hflags]
      · rw [← hspoiled]
    | true =>
      obtain ⟨slots', hrecover, hslots'⟩ := recoverComplete_spoiled (s := t) (by rw [← ht]; exact hspoiled)
        (by rw [← ht]; exact hwait hcause hspoiled)
      have hexec := hdone _ hrecover (htsettled.congr rfl (fun _ => rfl) rfl rfl rfl rfl rfl)
      have hslot : ∀ q, t.slot q = if q < 5 ∧ (s.slot q).state = .retiring then .freed else s.slot q := by
        rw [← ht]
        exact hslots
      subst ht
      refine ⟨_, hexec, fun q => (hslots' q).trans ?_, hentries, hpages, ?_, fun h => absurd hcause h,
        fun _ h => (nomatch h), fun _ _ => rfl⟩
      · rw [hslot]
        by_cases hretiring : q < 5 ∧ (s.slot q).state = .retiring
        · rw [if_pos hretiring, if_pos hretiring]
          exact if_neg fun h => nomatch h.2
        · rw [if_neg hretiring, if_neg hretiring]
          exact if_congr ⟨fun h => ⟨hcause, rfl, h⟩, fun h => h.2.2⟩ rfl rfl
      · rw [if_pos ⟨hcause, rfl⟩]
  · rw [if_neg (by simpa using hcause)] at hdone
    have hexec := hdone t rfl htsettled
    subst ht
    refine ⟨_, hexec, fun q => (hslots q).trans ?_, hentries, hpages, ?_, fun _ => rfl, fun h => absurd h hcause,
      fun h => absurd h hcause⟩
    · rw [if_neg (c := s.sweep.cause = some .recover ∧ _) fun h => hcause h.1]
    · rw [if_neg fun h => hcause h.1, BitVec.or_zero]

end Sys2Proof.Proofs
end

section
/-! The end of the restore phase (O60). -/

namespace Sys2Proof.Machine.State

variable {s t : State} {q : Nat}

theorem latest_congr_on {l : List Nat} (h : ∀ i, i ∈ l → (t.slot i).seq = (s.slot i).seq) : t.latest l = s.latest l := by
  induction l with
  | nil => rfl
  | cons i l ih =>
    unfold State.latest
    rw [ih fun j hj => h j (List.mem_cons_of_mem _ hj)]
    cases hj : s.latest l with
    | none => rfl
    | some j =>
      dsimp only
      rw [h i (List.mem_cons_self ..), h j (List.mem_cons_of_mem _ (latest_spec hj).1)]

/-- The older mark is the same where the LIVE slots and slot `q`'s sequence are. -/
theorem olderLive_congr_live (hlive : ∀ i, (t.slot i).state = .live ↔ (s.slot i).state = .live)
    (hseq : ∀ i, i = q ∨ (s.slot i).state = .live → (t.slot i).seq = (s.slot i).seq) : t.olderLive q = s.olderLive q := by
  have hslots : t.liveSlots = s.liveSlots := by
    unfold State.liveSlots
    refine List.filter_congr fun i _ => ?_
    rw [Bool.eq_iff_iff, beq_iff_eq, beq_iff_eq]
    exact hlive i
  have hmem : ∀ i, i ∈ s.liveSlots → (t.slot i).seq = (s.slot i).seq := fun i hi =>
    hseq i (.inr (mem_liveSlots_iff.1 hi).2)
  unfold State.olderLive
  rw [hslots, hseq q (.inl rfl)]
  rw [List.filter_congr fun i hi => by rw [hmem i hi]]
  exact latest_congr_on fun i hi => hmem i (List.mem_of_mem_filter hi)

theorem freeSlots_spec {l : List Nat} (hnodup : l.Nodup) (s : State) : ∃ slots,
    s.freeSlots l = { s with slots := slots } ∧
    ∀ q, slots.get .freed q = if q ∈ l then .freed else s.slot q := foldl_setSlot (fun _ => .freed) hnodup s

/-- The UNWINDING slots freed. -/
theorem freeUnwinding_spec (s : State) : ∃ slots, s.freeSlots (s.slotsIn .unwinding) = { s with slots := slots } ∧
    ∀ q, slots.get .freed q = if q < 5 ∧ (s.slot q).state = .unwinding then .freed else s.slot q := by
  obtain ⟨slots, hfree, hslots⟩ := freeSlots_spec (nodup_slotsIn s .unwinding) s
  exact ⟨slots, hfree, fun q => (hslots q).trans (if_congr mem_slotsIn rfl rfl)⟩

/-- A rollback's completion, but for the pressure check. -/
theorem endSweep_rollbackDone (s : State) : s.endSweep .rollbackDone = State.pressureCheck { s with
    sweep := idleSweep s.sweep
    mgmt := { s.mgmt with flags := s.mgmt.flags ||| BitVec.twoPow 21 2 } } := rfl

/-- The damage of slot `q` as it passes on, slot `q` then freed. -/
theorem passDamage_spec {p : Option Nat} (hp : p ≠ some q) : ∃ slots,
    (s.passDamage q p).freeSlots [q] = { s with slots := slots } ∧
    ∀ j, slots.get .freed j = if j = q then .freed
      else if p = some j ∧ (s.slot q).damaged = true then { s.slot j with damaged := true } else s.slot j := by
  have hfree : ∀ u : State, u.freeSlots [q] = { u with slots := u.slots.set .freed q .freed } := fun _ => rfl
  rw [hfree]
  unfold State.passDamage
  cases p with
  | none =>
    refine ⟨_, rfl, fun j => (Table.get_set ..).trans ?_⟩
    rw [if_neg (c := none = some j ∧ _) fun h => nomatch h.1]
    rfl
  | some p =>
    dsimp only
    by_cases hdamaged : (s.slot q).damaged = true
    · rw [if_pos hdamaged]
      refine ⟨_, rfl, fun j => (Table.get_set ..).trans (if_congr Iff.rfl rfl ((Table.get_set ..).trans ?_))⟩
      by_cases hj : j = p
      · rw [if_pos hj, if_pos ⟨by rw [hj], hdamaged⟩, hj]
      · rw [if_neg hj, if_neg fun h => hj (Option.some.inj h.1).symm]
        rfl
    · rw [if_neg hdamaged]
      refine ⟨_, rfl, fun j => (Table.get_set ..).trans ?_⟩
      rw [if_neg (c := some p = some j ∧ _) fun h => hdamaged h.2]
      rfl

end Sys2Proof.Machine.State

namespace Sys2Proof.Proofs

open Sys2Proof.Machine Sys2Proof.Machine.State

variable {s : State} {q : Nat}

theorem exec_restorePhaseEnd_waits (h : ¬restoreEnded s) : exec .restorePhaseEnd s = .next s :=
  if_neg fun hover => h (restoreOver_iff.1 hover.2)

theorem exec_restorePhaseEnd (hkind : s.sweep.kind = .rollback) (hphase : s.sweep.phase = .restore)
    (h : restoreEnded s) : exec .restorePhaseEnd s = .next s.endRestore.finish :=
  if_pos ⟨by unfold State.restoring; rw [hkind, hphase]; rfl, restoreOver_iff.2 h⟩

/-- The state as MERGE begins, the UNWINDING slots freed. -/
def merging (t : State) (q : Nat) (slots : Table Slot) : State :=
  { t with
    slots := slots
    sweep := { t.sweep with
      phase := .merge, retiring := some q, predecessor := t.olderLive q, order := [(q, (t.slot q).head)]
      cursor := (t.slot q).head, walkSlot := some q, walked := [], waitingOn := none, boundary := none } }

theorem beginMerge_eq (t : State) : t.beginMerge q =
    if (t.slot q).head = none then
      (merging t q (t.slots.set .freed q { t.slot q with state := .retiring })).mergeComplete
    else merging t q (t.slots.set .freed q { t.slot q with state := .retiring }) := by
  have hslot : (t.setSlotStates .retiring [q]).slot q = { t.slot q with state := .retiring } := Table.get_set_same ..
  have hhead : ((t.setSlotStates .retiring [q]).slot q).head = (t.slot q).head := by rw [hslot]
  unfold State.beginMerge
  dsimp only
  rw [hhead]
  rfl

theorem endRestore_merge {slots : Table Slot} (hdrop : s.sweep.drop = true) (htarget : s.sweep.target = some q)
    (hfree : s.freeSlots (s.slotsIn .unwinding) = { s with slots := slots }) :
    s.endRestore = State.beginMerge q { s with slots := slots } := by
  unfold State.endRestore
  rw [hfree]
  dsimp only
  rw [hdrop, htarget]

/-- Settles O60: the UNWINDING slots freed, and with DROP the MERGE phase, which completes at once on an empty journal. -/
theorem restorePhaseEnds : Obligations.RestorePhaseEnds := by
  intro s q hsettled hkind hphase htarget hq hlive
  obtain ⟨slots, hfree, hslots⟩ := freeUnwinding_spec s
  generalize hv : ({ s with slots := slots } : State) = v
  have hvslot : ∀ j, v.slot j = if j < 5 ∧ (s.slot j).state = .unwinding then .freed else s.slot j := by
    rw [← hv]
    exact hslots
  have hvq : v.slot q = s.slot q := (hvslot q).trans (if_neg fun h => by rw [hlive] at h; cases h.2)
  have holder : v.olderLive q = s.olderLive q := by
    refine olderLive_congr_live (fun i => ?_) fun i hi => ?_
    · rw [hvslot]
      split
      next h => rw [h.2]; exact ⟨nofun, nofun⟩
      · rfl
    · obtain rfl | hi := hi
      · rw [hvq]
      · rw [hvslot, if_neg fun h => by rw [hi] at h; cases h.2]
  refine ⟨exec_restorePhaseEnd_waits, fun hended hdrop => ?_, fun hended hdrop hhead => ?_, fun r hended hdrop hhead => ?_⟩
  · have hend : s.endRestore = State.endSweep .rollbackDone v := by
      unfold State.endRestore
      rw [hfree, hv]
      dsimp only
      rw [show v.sweep.drop = false by rw [← hv]; exact hdrop]
    rw [exec_restorePhaseEnd hkind hphase hended, hend, endSweep_rollbackDone, finish_pressureCheck_settled]
    · refine ⟨_, rfl, hvslot, ?_⟩
      subst hv
      rfl
    · subst hv
      exact hsettled.congr rfl (fun _ => rfl) rfl rfl rfl rfl rfl
  · have hne : s.olderLive q ≠ some q := fun h => absurd (olderLive_some h).2.2.1 (BitVec.lt_irrefl _)
    generalize hm : merging v q (v.slots.set .freed q { v.slot q with state := .retiring }) = m
    have hmslot : ∀ j, m.slot j = if j = q then { s.slot q with state := .retiring } else v.slot j := fun j => by
      rw [← hvq, ← hm]
      exact Table.get_set ..
    obtain ⟨slots', hpass, hslots'⟩ := passDamage_spec (s := m) hne
    have hend : s.endRestore = State.endSweep .rollbackDone { m with slots := slots' } := by
      rw [endRestore_merge hdrop htarget hfree, hv, beginMerge_eq, hvq, if_pos hhead, ← hvq, hm, ← hpass]
      unfold State.mergeComplete
      rw [← hm, ← holder]
      rfl
    have hsettled' : State.Settled { m with
        slots := slots', sweep := idleSweep m.sweep
        mgmt := { m.mgmt with flags := m.mgmt.flags ||| BitVec.twoPow 21 2 } } := by
      subst hm hv
      exact hsettled.congr rfl (fun _ => rfl) rfl rfl rfl rfl rfl
    rw [exec_restorePhaseEnd hkind hphase hended, hend, endSweep_rollbackDone]
    refine ⟨_, congrArg Host.Outcome.next (finish_pressureCheck_settled hsettled'), fun j => (hslots' j).trans ?_, ?_⟩
    · rw [hmslot, hmslot, if_pos rfl, hvslot]
      by_cases hj : j = q
      · rw [if_pos hj, if_pos (.inl hj)]
      · rw [if_neg hj, if_neg hj]
        by_cases hunwinding : j < 5 ∧ (s.slot j).state = .unwinding
        · rw [if_pos hunwinding, if_pos (c := j = q ∨ _) (.inr hunwinding)]
          refine if_neg fun h => ?_
          have hjlive := (olderLive_some h.1).2.1
          rw [hunwinding.2] at hjlive
          cases hjlive
        · rw [if_neg hunwinding, if_neg (c := j = q ∨ _) fun h => h.elim hj hunwinding]
    · subst hm hv
      rfl
  · have hend : s.endRestore = merging v q (v.slots.set .freed q { v.slot q with state := .retiring }) := by
      rw [endRestore_merge hdrop htarget hfree, hv, beginMerge_eq, hvq, if_neg (by rw [hhead]; exact nofun)]
    rw [exec_restorePhaseEnd hkind hphase hended, hend, finish_settled]
    · refine ⟨_, rfl, fun j => (Table.get_set ..).trans ?_, ?_⟩
      · show (if j = q then { v.slot q with state := .retiring } else v.slot j) = _
        rw [hvq, hvslot]
      · unfold merging
        rw [holder, hvq, hhead, ← hv]
    · subst hv
      exact hsettled.congr rfl (fun _ => rfl) rfl rfl rfl rfl rfl

end Sys2Proof.Proofs
end

section
/-! The start of the restore phase (O58). -/

namespace Sys2Proof.Machine.State

variable {s t u : State} {q n p z : Nat} {e : Entry}

/-- Some damage among the LIVE marks at and above slot `q` (R28). -/
def damagedFrom (s : State) (q : Nat) : Bool :=
  (List.range 5).any fun i => (s.slot i).state == .live && decide ((s.slot q).seq ≤ (s.slot i).seq) && (s.slot i).damaged

theorem liveFrom_damaged (s : State) (q : Nat) : (s.liveFrom q).any (fun i => (s.slot i).damaged) = s.damagedFrom q := by
  rw [Bool.eq_iff_iff, Proofs.liveFrom_damaged_iff]
  unfold damagedFrom
  simp only [List.any_eq_true, List.mem_range, Bool.and_eq_true, beq_iff_eq, decide_eq_true_eq, and_assoc]

/-- The target takes the damage of the marks above it. -/
theorem inherit_spec (s : State) (q : Nat) : ∃ slots,
    (if (s.liveFrom q).any (fun i => (s.slot i).damaged) = true then s.damage q else s) = { s with slots := slots } ∧
    ∀ j, slots.get .freed j = if j = q then { s.slot q with damaged := (s.slot q).damaged || s.damagedFrom q }
      else s.slot j := by
  rw [liveFrom_damaged]
  cases s.damagedFrom q with
  | true =>
    refine ⟨_, rfl, fun j => (Table.get_set ..).trans ?_⟩
    rw [Bool.or_true]
    rfl
  | false =>
    refine ⟨s.slots, rfl, fun j => ?_⟩
    rw [Bool.or_false]
    split
    next hj => rw [hj]; rfl
    · rfl

/-- The marks as the restore phase to slot `q` starts (R28, R91). -/
theorem unwind_spec (s : State) (hne : ∀ j, j < 5 → j ≠ q → (s.slot j).state = .live → (s.slot j).seq ≠ (s.slot q).seq) :
    ∃ slots, s.unwind q = { s with slots := slots } ∧
    ∀ j, slots.get .freed j =
      if j = q then { s.slot q with damaged := (s.slot q).damaged || s.damagedFrom q }
      else if j < 5 ∧ (s.slot j).state = .live ∧ (s.slot q).seq < (s.slot j).seq then
        { s.slot j with state := .unwinding } else s.slot j := by
  obtain ⟨slots, hinherit, hslots⟩ := inherit_spec s q
  generalize hu : ({ s with slots := slots } : State) = u at hinherit
  have huslot : ∀ j, u.slot j = if j = q then { s.slot q with damaged := (s.slot q).damaged || s.damagedFrom q }
      else s.slot j := by
    rw [← hu]
    exact hslots
  have hnodup : ((u.liveFrom q).filter fun i => i != q).Nodup := (u.nodup_liveSlots.filter _).filter _
  obtain ⟨slots', hfold, hslots'⟩ := foldl_setSlot (fun v => { v with state := .unwinding }) hnodup u
  refine ⟨slots', ?_, fun j => ?_⟩
  · unfold State.unwind
    rw [hinherit]
    refine hfold.trans ?_
    rw [← hu]
  · have hmem : j ∈ (u.liveFrom q).filter (fun i => i != q) ↔
        j ≠ q ∧ j < 5 ∧ (s.slot j).state = .live ∧ (s.slot q).seq < (s.slot j).seq := by
      unfold State.liveFrom
      simp only [List.mem_filter, mem_liveSlots_iff, decide_eq_true_eq, bne_iff_ne]
      rw [huslot, huslot, if_pos rfl]
      constructor
      · rintro ⟨⟨⟨hj, hlive⟩, hle⟩, hjq⟩
        rw [if_neg hjq] at hlive hle
        exact ⟨hjq, hj, hlive, BitVec.lt_of_le_ne hle fun h => hne j hj hjq hlive h.symm⟩
      · rintro ⟨hjq, hj, hlive, hlt⟩
        rw [if_neg hjq]
        exact ⟨⟨⟨hj, hlive⟩, BitVec.le_of_lt hlt⟩, hjq⟩
    rw [hslots', huslot]
    by_cases hj : j = q
    · rw [if_neg fun h => (hmem.1 h).1 hj, if_pos hj, if_pos hj]
    · rw [if_neg hj, if_neg hj]
      exact if_congr (hmem.trans (and_iff_right hj)) rfl rfl

/-! ## Unparking (R91) -/

theorem unpark_eq (hpst : (u.entry n).pst = some p) : u.unpark n = u.joinList p n := by
  unfold State.unpark
  rw [hpst]

/-- A request that joins behind the tail of its page's list. -/
theorem joinList_behind {h : Nat} (hparity : (u.page p).parityOk = true) (hhead : (u.page p).waitHead = some h)
    (htail : (u.page p).waitTail = some z) (hzn : z ≠ n) : ∃ entries pst,
    u.joinList p n = { u with
      entries := entries, pst := pst
      activity := counted u (u.entry n).window (oneMore (u.entry n).kind) } ∧
    (∀ m, entries.get .freed m = if m = n then u.waited (u.entry n)
      else if m = z then { u.entry z with next := some n } else u.entry m) ∧
    ∀ j, pst.get .clear j = if j = p then { u.page p with waitTail := some n } else u.page j := by
  rw [joinList_sound rfl hparity, if_neg (by rw [hhead]; exact nofun),
    waitAppend_some (s := u.setEntry n (u.waited (u.entry n))) htail, countRequest_eq]
  have hz : (u.setEntry n (u.waited (u.entry n))).entry z = u.entry z := Table.get_set_other _ _ _ hzn
  rw [hz]
  refine ⟨_, _, rfl, fun m => ?_, fun j => (Table.get_set ..).trans ?_⟩
  · refine (Table.get_set ..).trans ?_
    show (if m = z then _ else (u.setEntry n (u.waited (u.entry n))).entry m) = _
    by_cases hm : m = n
    · rw [if_neg fun h : m = z => hzn (h.symm.trans hm), if_pos hm, hm]
      exact Table.get_set_same ..
    · rw [if_neg hm]
      exact if_congr Iff.rfl rfl (Table.get_set_other _ _ _ hm)
  · rw [← hparity]
    rfl

/-- A request that joins an empty list is to be decided. -/
theorem joinList_first (hparity : (u.page p).parityOk = true) (hhead : (u.page p).waitHead = none)
    (htail : (u.page p).waitTail = none) : u.joinList p n = State.decidePage p { u with
      entries := u.entries.set .freed n (u.waited (u.entry n))
      pst := u.pst.set .clear p { u.page p with waitHead := some n, waitTail := some n, parityOk := true }
      activity := counted u (u.entry n).window (oneMore (u.entry n).kind) } := by
  rw [joinList_sound rfl hparity, if_pos (by rw [hhead]; rfl),
    waitAppend_none (s := u.setEntry n (u.waited (u.entry n))) htail, countRequest_eq]
  rfl

/-! ## The walk order (R91) -/

theorem tailReads_sound (h : ∀ y, (s.record y).parityOk = true) : s.checkRecs (s.tailReads q) none = s :=
  checkRecs_sound fun y _ => h y

/-- The sweep engine's fields as a restore to slot `q` begins. -/
theorem enterRestore_eq (s : State) (q : Nat) : s.enterRestore q = { s with sweep := { s.sweep with
    phase := .restore, order := s.restoreOrder q, cursor := (firstPlace (s.restoreOrder q)).map (·.2)
    walkSlot := (firstPlace (s.restoreOrder q)).map (·.1), walked := []
    boundary := s.journalLink (s.slot q).tail, park := [] } } := rfl

theorem beginRestore_eq (h : ∀ y, (s.record y).parityOk = true) (hunwind : s.unwind q = t)
    (ht : t.records = s.records) (hpark : t.sweep.park = s.sweep.park) :
    s.beginRestore q = s.sweep.park.foldl (fun s n => s.unpark n) (t.enterRestore q) := by
  unfold State.beginRestore
  dsimp only
  rw [hunwind, tailReads_sound (s := t) fun y => by rw [record_congr ht]; exact h y, hpark]

/-- The slots of the walk order but the last: the UNWINDING ones, newest first. -/
def unwindingOrder (t : State) : List Nat := (t.bySeq (t.slotsIn .unwinding)).reverse

theorem restoreOrder_eq (t : State) (q : Nat) : t.restoreOrder q =
    t.unwindingOrder.map (fun i => (i, t.journalLink (t.slot i).tail)) ++ [(q, t.journalLink (t.slot q).tail)] := by
  unfold State.restoreOrder
  rw [List.map_append]
  rfl

theorem restoreOrder_dropLast (t : State) (q : Nat) : (t.restoreOrder q).dropLast.map (·.1) = t.unwindingOrder := by
  rw [restoreOrder_eq, List.dropLast_concat, List.map_map]
  exact List.map_id _

theorem restoreOrder_fst (t : State) (q : Nat) : (t.restoreOrder q).map (·.1) = t.unwindingOrder ++ [q] := by
  unfold State.restoreOrder
  rw [List.map_map]
  exact List.map_id _

theorem mem_unwindingOrder {j : Nat} : j ∈ t.unwindingOrder ↔ j < 5 ∧ (t.slot j).state = .unwinding := by
  unfold unwindingOrder
  rw [List.mem_reverse, mem_bySeq, mem_slotsIn]

theorem unwindingOrder_sorted (t : State) : (t.unwindingOrder.map fun i => (t.slot i).seq).Pairwise (· ≥ ·) := by
  unfold unwindingOrder
  rw [List.map_reverse, List.pairwise_reverse]
  exact t.bySeq_sorted _

theorem mem_restoreOrder {j : Nat} {o : Option Nat} (h : (j, o) ∈ t.restoreOrder q) : o = t.journalLink (t.slot j).tail := by
  unfold State.restoreOrder at h
  obtain ⟨i, -, hi⟩ := List.mem_map.1 h
  cases hi
  rfl

end Sys2Proof.Machine.State

namespace Sys2Proof.Proofs

open Sys2Proof.Machine Sys2Proof.Machine.State

theorem exec_restorePhaseStart_waits {s : State} (h : ¬drainEnded s) : exec .restorePhaseStart s = .next s :=
  if_neg fun hstart => h (drained_iff.1 hstart.2.2)

theorem exec_restorePhaseStart {s : State} {q : Nat} (hkind : s.sweep.kind = .rollback) (hphase : s.sweep.phase = .drain)
    (htarget : s.sweep.target = some q) (h : drainEnded s) :
    exec .restorePhaseStart s = .next (s.beginRestore q).finish := by
  refine (if_pos ⟨hkind, hphase, drained_iff.2 h⟩).trans ?_
  rw [htarget]

/-- Settles O58: the marks unwound, the walk order over them, and each parked request's return to its list. -/
theorem restorePhaseUnwindsTheNewerMarks : Obligations.RestorePhaseUnwindsTheNewerMarks := by
  intro s q hsettled hkind hphase htarget hq hlive hnone hne hparity
  refine ⟨exec_restorePhaseStart_waits, fun hended => ?_, fun u n p e hpst hparity he => ?_⟩
  · obtain ⟨slots, hunwind, hslots⟩ := unwind_spec s hne
    generalize hv : ({ s with slots := slots } : State) = v at hunwind
    have hvslot : ∀ j, v.slot j = if j = q then { s.slot q with damaged := (s.slot q).damaged || s.damagedFrom q }
        else if j < 5 ∧ (s.slot j).state = .live ∧ (s.slot q).seq < (s.slot j).seq then
          { s.slot j with state := .unwinding } else s.slot j := by
      rw [← hv]
      exact hslots
    have hseq : ∀ j, (v.slot j).seq = (s.slot j).seq := fun j => by
      rw [hvslot]
      split
      next h => rw [h]
      · split <;> rfl
    have htail : ∀ j, (v.slot j).tail = (s.slot j).tail := fun j => by
      rw [hvslot]
      split
      next h => rw [h]
      · split <;> rfl
    have hlink : ∀ o, v.journalLink o = s.journalLink o := journalLink_congr (by rw [← hv])
    have hunwinding : ∀ j, j ∈ v.unwindingOrder ↔
        j < 5 ∧ (s.slot j).state = .live ∧ (s.slot q).seq < (s.slot j).seq := fun j => by
      rw [mem_unwindingOrder, hvslot]
      by_cases hj : j = q
      · rw [if_pos hj, hj]
        exact ⟨fun h => absurd (hlive.symm.trans h.2) (by decide), fun h => absurd h.2.2 (BitVec.lt_irrefl _)⟩
      · rw [if_neg hj]
        split
        next h => exact ⟨fun _ => h, fun h => ⟨h.1, rfl⟩⟩
        next h => exact ⟨fun hj => absurd hj.2 (hnone j hj.1), fun hj => absurd hj h⟩
    have hexec : exec .restorePhaseStart s = .next ((s.sweep.park.foldl (fun u n => u.unpark n) (v.enterRestore q)).finish) := by
      rw [exec_restorePhaseStart hkind hphase htarget hended, beginRestore_eq hparity hunwind (by rw [← hv]) (by rw [← hv])]
    have hfinish : (v.enterRestore q).finish = v.enterRestore q := by
      rw [enterRestore_eq, ← hv]
      exact finish_settled (hsettled.congr rfl (fun _ => rfl) rfl rfl rfl rfl rfl)
    refine ⟨v.enterRestore q, hexec, fun hpark => ?_, hvslot, ?_, fun j => ?_, ?_, fun j o h => ?_, map_firstPlace _, ?_⟩
    · rw [hexec, hpark]
      exact congrArg _ hfinish
    · show (v.restoreOrder q).map (·.1) = _ ++ [q]
      rw [restoreOrder_fst]
      exact congrArg (· ++ [q]) (restoreOrder_dropLast v q).symm
    · rw [← hunwinding, ← restoreOrder_dropLast v q]
      rfl
    · have hmap : (v.restoreOrder q).map (fun e => (s.slot e.1).seq) =
          v.unwindingOrder.map (fun i => (v.slot i).seq) ++ [(s.slot q).seq] := by
        show (v.restoreOrder q).map ((fun i => (s.slot i).seq) ∘ Prod.fst) = _
        rw [← List.map_map, restoreOrder_fst, List.map_append]
        simp only [hseq]
        rfl
      show ((v.restoreOrder q).map fun e => (s.slot e.1).seq).Pairwise (· ≥ ·)
      rw [hmap, List.pairwise_append]
      refine ⟨unwindingOrder_sorted v, List.pairwise_singleton .., fun a ha b hb => ?_⟩
      obtain ⟨i, hi, rfl⟩ := List.mem_map.1 ha
      rw [List.mem_singleton.1 hb, hseq]
      exact BitVec.le_of_lt ((hunwinding i).1 hi).2.2
    · rw [mem_restoreOrder (t := v) h, hlink, htail]
    · rw [enterRestore_eq, hlink, htail]
      subst hv
      rfl
  · have he' : u.waited (u.entry n) = e := he.symm
    rw [unpark_eq hpst]
    refine ⟨fun h z hhead htail hzn => ?_, fun hhead htail => ?_⟩
    · obtain ⟨entries, pst, hjoin, hentries, hpages⟩ := joinList_behind hparity hhead htail hzn
      rw [hjoin]
      rw [he'] at hentries
      exact ⟨hentries, hpages, rfl⟩
    · rw [joinList_first hparity hhead htail, he']
      refine ⟨_, rfl, fun m => Table.get_set .., fun j => (Table.get_set ..).trans ?_, rfl⟩
      rw [← hparity]
      rfl

end Sys2Proof.Proofs
end

section
/-! Where a walk's cursor goes, and that walks of journals and chains read states and links alone. -/

namespace Sys2Proof.Machine.State

variable {s t : State} {r p q : Nat} {o : Option Nat}

/-! ## The cursor (R81, R85, R92) -/

theorem laterSlots_eq (s : State) : s.laterSlots = (s.sweep.order.dropWhile fun e => s.sweep.walkSlot != some e.1).drop 1 := by
  unfold State.laterSlots
  cases s.sweep.walkSlot with
  | none =>
    have hall : s.sweep.order.dropWhile (fun e => none != some e.1) = [] := List.dropWhile_eq_nil_iff.2 fun _ _ => rfl
    rw [hall]
    rfl
  | some q =>
    have hpred : (fun e : Nat × Option Nat => e.1 != q) = fun e => some q != some e.1 := by
      funext e
      rw [Bool.eq_iff_iff, bne_iff_ne, bne_iff_ne]
      exact ⟨fun h hq => h (Option.some.inj hq).symm, fun h hq => h (congrArg some hq.symm)⟩
    dsimp only
    unfold slotsAfter
    rw [hpred]

theorem nextJournal_cursor (s : State) : s.nextJournal.sweep.cursor = nextStart s := by
  show (firstPlace (s.laterSlots.map fun e => (e.1, s.walkStart e))).map (·.2) = _
  rw [map_firstPlace, List.findSome?_map, laterSlots_eq]
  rfl

/-- The link that a walk takes from record `r`, where the tables bear it out. -/
theorem walkTo_eq_some {y : Nat} : s.walkTo r = some y ↔
    s.walkNext r = some y ∧ (s.record y).state ≠ .free ∧ y ≠ r ∧ y ∉ s.sweep.walked := by
  unfold State.walkTo
  rw [walkLink_eq_some, List.mem_cons, not_or]

theorem walkPast_of_none (h : s.walkTo r = none) : s.walkPast r = s.nextJournal := by
  unfold State.walkPast
  rw [h]

theorem walkPast_of_some {y : Nat} (h : s.walkTo r = some y) :
    s.walkPast r = s.setSweep { s.sweep with cursor := some y, walked := r :: s.sweep.walked } := by
  unfold State.walkPast
  rw [h]

theorem walkPast_cursor (s : State) (r : Nat) : (s.walkPast r).sweep.cursor = cursorAfter s r := by
  have hnext : cursorAfter s r = match s.walkNext r with
      | none => nextStart s
      | some x => if (s.record x).state = .free ∨ x = r ∨ x ∈ s.sweep.walked then nextStart s else some x := rfl
  rw [hnext]
  cases hto : s.walkTo r with
  | none =>
    rw [walkPast_of_none hto, nextJournal_cursor]
    cases hlink : s.walkNext r with
    | none => rfl
    | some x =>
      refine (if_pos ?_).symm
      by_contra hx
      simp only [not_or] at hx
      rw [walkTo_eq_some.2 ⟨hlink, hx⟩] at hto
      cases hto
  | some y =>
    obtain ⟨hlink, hfree, hne, hwalked⟩ := walkTo_eq_some.1 hto
    rw [walkPast_of_some hto, hlink]
    exact (if_neg (by simp [hfree, hne, hwalked])).symm

/-! ## The removal's effect on the sweep (R82, R91, R93) -/

/-- The records that the walk of record `r`'s journal meets before it. -/
def metBefore (s : State) (r : Nat) : List Nat :=
  match s.slotOf (s.record r) with
  | none => []
  | some q => (s.journal q).takeWhile (fun x => x != r)

theorem leaveNewer_metBefore (s : State) (r : Nat) :
    s.leaveNewer r = s.walkLink (r :: s.metBefore r) (s.record r).jNewer := rfl

theorem mem_metBefore {y : Nat} : y ∈ s.metBefore r ↔
    (s.slotOf (s.record r)).any (fun q => ((s.journal q).takeWhile (· != r)).contains y) = true := by
  unfold metBefore
  cases s.slotOf (s.record r) with
  | none => simp
  | some q => simp

theorem leaveNewer_eq (s : State) (r : Nat) : s.leaveNewer r = newerLink s r := by
  unfold newerLink
  cases hlink : (s.record r).jNewer with
  | none =>
    rw [leaveNewer_metBefore, hlink]
    rfl
  | some y =>
    dsimp only
    rw [leaveNewer_metBefore, hlink]
    by_cases h : (s.record y).state = .free ∨ y = r ∨
      (s.slotOf (s.record r)).any (fun q => ((s.journal q).takeWhile (· != r)).contains y) = true
    · rw [if_pos h]
      refine Option.eq_none_iff_forall_ne_some.2 fun z hz => ?_
      obtain ⟨hzy, hfree, hnot⟩ := walkLink_eq_some.1 hz
      obtain rfl := Option.some.inj hzy
      rw [List.mem_cons, not_or, mem_metBefore] at hnot
      exact h.elim hfree fun h => h.elim hnot.1 hnot.2
    · rw [if_neg h]
      simp only [not_or] at h
      refine walkLink_eq_some.2 ⟨rfl, h.1, ?_⟩
      rw [List.mem_cons, not_or, mem_metBefore]
      exact h.2

theorem leaveOlder_eq (s : State) (r : Nat) : s.leaveOlder r = olderLink s r := by
  unfold olderLink
  rw [← leaveNewer_eq]
  cases hlink : (s.record r).jOlder with
  | none =>
    unfold State.leaveOlder
    rw [hlink]
    rfl
  | some y =>
    dsimp only
    split
    next h =>
      refine Option.eq_none_iff_forall_ne_some.2 fun z hz => ?_
      obtain ⟨hzy, hfree, hne, hnewer⟩ := leaveOlder_eq_some.1 hz
      rw [hlink] at hzy
      obtain rfl := Option.some.inj hzy
      exact h.elim hfree fun h => h.elim hne hnewer
    next h =>
      simp only [not_or] at h
      exact leaveOlder_eq_some.2 ⟨hlink, h⟩

theorem sweepPast_follows {v : State} (h : v.sweep = (s.sweepPast r).sweep) : sweepFollows s v r := by
  unfold sweepFollows
  rw [h, ← leaveOlder_eq]
  generalize hu : (if s.sweep.cursor = some r then s.walkPast r else s) = u
  have hcursor : u.sweep.cursor = if s.sweep.cursor = some r then cursorAfter s r else s.sweep.cursor := by
    rw [← hu]
    split
    · exact walkPast_cursor s r
    · rfl
  have hkept : u.sweep.phase = s.sweep.phase ∧ u.sweep.boundary = s.sweep.boundary ∧ u.sweep.order = s.sweep.order := by
    rw [← hu]
    split
    · unfold State.walkPast
      split <;> exact ⟨rfl, rfl, rfl⟩
    · exact ⟨rfl, rfl, rfl⟩
  obtain ⟨hphase, hboundary, horder⟩ := hkept
  have hpast : s.sweepPast r = if u.sweep.phase = .restore then
      u.setSweep { u.sweep with
        order := u.sweep.order.map (fun e => if e.2 = some r then (e.1, s.leaveOlder r) else e)
        boundary := if u.sweep.boundary = some r then s.leaveOlder r else u.sweep.boundary }
    else u := by
    rw [← hu]
    rfl
  rw [hpast, hphase]
  by_cases hrestore : s.sweep.phase = .restore
  · rw [if_pos hrestore]
    refine ⟨hcursor, fun h => absurd hrestore h, fun _ => ⟨?_, ?_⟩⟩
    · rw [← hboundary]
      rfl
    · rw [← horder]
      rfl
  · rw [if_neg hrestore]
    exact ⟨hcursor, fun _ => ⟨hboundary, horder⟩, fun h => absurd h hrestore⟩

end Sys2Proof.Machine.State
end

section
/-! Walks of journals and chains read states and links alone: a walk is bounded by the records in use, not by the table. -/

namespace Sys2Proof.Machine

theorem Table.mem_keys_of_get {α : Type} {d : α} {table : Table α} {i : Nat} (h : table.get d i ≠ d) :
    i ∈ table.cells.map (·.1) := by
  unfold Table.get at h
  generalize table.cells = l at h
  induction l with
  | nil => exact absurd rfl h
  | cons c l ih =>
    obtain ⟨k, v⟩ := c
    unfold Table.lookup at h
    split at h
    next hi => exact List.mem_cons.2 (.inl hi)
    · exact List.mem_cons_of_mem _ (ih h)

namespace State

variable {s t : State} {r p q : Nat} {o : Option Nat}

/-- Every record that is not FREE is in `ks`. -/
def Holds (s : State) (ks : Finset Nat) : Prop := ∀ y, (s.record y).state ≠ .free → y ∈ ks

/-- The keys that the record table lists. -/
def recordKeys (s : State) : Finset Nat := (s.records.cells.map (·.1)).toFinset

theorem holds_recordKeys (s : State) : s.Holds s.recordKeys := fun _ hy =>
  List.mem_toFinset.2 (Table.mem_keys_of_get fun h => hy (congrArg Record.state h))

theorem card_recordKeys (s : State) : s.recordKeys.card ≤ s.records.cells.length :=
  (List.toFinset_card_le _).trans_eq (List.length_map _)

theorem card_sdiff_cons_lt {ks : Finset Nat} {seen : List Nat} {y : Nat} (hy : y ∈ ks) (hseen : y ∉ seen) :
    (ks \ (y :: seen).toFinset).card < (ks \ seen.toFinset).card := by
  refine Finset.card_lt_card (Finset.ssubset_iff_subset_ne.2 ⟨?_, fun h => ?_⟩)
  · rw [List.toFinset_cons]
    exact Finset.sdiff_subset_sdiff (Finset.Subset.refl _) (Finset.subset_insert _ _)
  · have hmem : y ∈ ks \ seen.toFinset := Finset.mem_sdiff.2 ⟨hy, fun h => hseen (List.mem_toFinset.1 h)⟩
    rw [← h] at hmem
    exact (Finset.mem_sdiff.1 hmem).2 (List.mem_toFinset.2 (List.mem_cons_self ..))

/-! ## Journals -/

theorem journalLink_congr_state (h : ∀ y, (t.record y).state = (s.record y).state) (o : Option Nat) :
    t.journalLink o = s.journalLink o := by
  unfold State.journalLink
  simp only [h]

theorem journalFrom_fuel (hstate : ∀ y, (t.record y).state = (s.record y).state)
    (hnewer : ∀ y, (t.record y).jNewer = (s.record y).jNewer) {ks : Finset Nat} (hks : s.Holds ks) {k k' : Nat}
    {seen : List Nat} (hk : (ks \ seen.toFinset).card < k) (hk' : (ks \ seen.toFinset).card < k') :
    t.journalFrom k' seen o = s.journalFrom k seen o := by
  induction k generalizing k' seen o with
  | zero => cases hk
  | succ k ih =>
    cases k' with
    | zero => cases hk'
    | succ k' =>
      unfold State.journalFrom
      rw [journalLink_congr_state hstate]
      cases hlink : s.journalLink o with
      | none => rfl
      | some y =>
        dsimp only
        split
        · rfl
        next hseen =>
          have hfree : (s.record y).state ≠ .free := by
            have hw : s.walkLink [] o = some y := by
              unfold State.walkLink
              rw [hlink]
              rfl
            exact (walkLink_eq_some.1 hw).2.1
          have hlt := card_sdiff_cons_lt (hks y hfree) hseen
          rw [hnewer, ih (Nat.lt_of_lt_of_le hlt (Nat.le_of_lt_succ hk)) (Nat.lt_of_lt_of_le hlt (Nat.le_of_lt_succ hk'))]

/-- A bound for both of two states that agree in the records in use. -/
theorem holds_both (hstate : ∀ y, (t.record y).state = (s.record y).state) : ∃ ks, s.Holds ks ∧
    ks.card < s.records.cells.length + 1 ∧ ks.card < t.records.cells.length + 1 := by
  refine ⟨s.recordKeys ∩ t.recordKeys, fun y hy => Finset.mem_inter.2 ⟨holds_recordKeys s y hy, ?_⟩, ?_, ?_⟩
  · refine holds_recordKeys t y ?_
    rw [hstate]
    exact hy
  · exact Nat.lt_succ_of_le ((Finset.card_le_card Finset.inter_subset_left).trans (card_recordKeys s))
  · exact Nat.lt_succ_of_le ((Finset.card_le_card Finset.inter_subset_right).trans (card_recordKeys t))

/-- The sweep engine as a cursor on record `r` has moved past it. -/
def movedPast (s : State) (r : Nat) : State := if s.sweep.cursor = some r then s.walkPast r else s

theorem sweepPast_sweep (s : State) (r : Nat) : (s.sweepPast r).sweep =
    if (s.movedPast r).sweep.phase = .restore then { (s.movedPast r).sweep with
      order := (s.movedPast r).sweep.order.map (fun e => if e.2 = some r then (e.1, s.leaveOlder r) else e)
      boundary := if (s.movedPast r).sweep.boundary = some r then s.leaveOlder r else (s.movedPast r).sweep.boundary }
    else (s.movedPast r).sweep := by
  have hpast : s.sweepPast r = if (s.movedPast r).sweep.phase = .restore then
      (s.movedPast r).setSweep { (s.movedPast r).sweep with
        order := (s.movedPast r).sweep.order.map (fun e => if e.2 = some r then (e.1, s.leaveOlder r) else e)
        boundary := if (s.movedPast r).sweep.boundary = some r then s.leaveOlder r else (s.movedPast r).sweep.boundary }
    else s.movedPast r := rfl
  rw [hpast]
  generalize s.movedPast r = u
  split <;> rfl

/-- Records that agree in what a journal's walk and a removal from it read. -/
structure SameLinks (s t : State) : Prop where
  state : ∀ y, (t.record y).state = (s.record y).state
  slot : ∀ y, (t.record y).slot = (s.record y).slot
  newer : ∀ y, (t.record y).jNewer = (s.record y).jNewer
  older : ∀ y, (t.record y).jOlder = (s.record y).jOlder
  slots : t.slots = s.slots

namespace SameLinks

variable (h : SameLinks s t)
include h

theorem journal (q : Nat) : t.journal q = s.journal q := by
  obtain ⟨ks, hks, hs, ht⟩ := holds_both h.state
  unfold State.journal
  rw [slot_congr h.slots]
  exact journalFrom_fuel h.state h.newer hks (by rwa [List.toFinset_nil, Finset.sdiff_empty])
    (by rwa [List.toFinset_nil, Finset.sdiff_empty])

theorem slotOf (r : Nat) : t.slotOf (t.record r) = s.slotOf (s.record r) := by
  unfold State.slotOf
  rw [h.slot, slot_congr h.slots]

theorem walkLink (met : List Nat) (o : Option Nat) : t.walkLink met o = s.walkLink met o := by
  unfold State.walkLink
  rw [journalLink_congr_state h.state]

theorem leaveNewer (r : Nat) : t.leaveNewer r = s.leaveNewer r := by
  rw [leaveNewer_metBefore, leaveNewer_metBefore, h.walkLink, h.newer]
  unfold metBefore
  rw [h.slotOf]
  simp only [h.journal]

theorem leaveOlder (r : Nat) : t.leaveOlder r = s.leaveOlder r := by
  unfold State.leaveOlder
  rw [h.leaveNewer, h.walkLink, h.older]

theorem nextJournal (hsweep : t.sweep = s.sweep) : t.nextJournal.sweep = s.nextJournal.sweep := by
  have hstart : t.walkStart = s.walkStart := by
    funext e
    unfold State.walkStart
    rw [journalLink_congr_state h.state, hsweep, slot_congr h.slots]
  show ({ t.sweep with cursor := _, walkSlot := _, walked := _ } : Sweep) = _
  unfold State.laterSlots
  rw [hsweep, hstart]
  rfl

theorem walkTo (hsweep : t.sweep = s.sweep) (r : Nat) : t.walkTo r = s.walkTo r := by
  unfold State.walkTo State.walkNext
  rw [h.walkLink, hsweep, h.newer, h.older]

theorem walkPast (hsweep : t.sweep = s.sweep) (r : Nat) : (t.walkPast r).sweep = (s.walkPast r).sweep := by
  unfold State.walkPast
  rw [h.walkTo hsweep]
  split
  · rw [hsweep]
    rfl
  · exact h.nextJournal hsweep

theorem sweepPast (hsweep : t.sweep = s.sweep) (r : Nat) : (t.sweepPast r).sweep = (s.sweepPast r).sweep := by
  have hmoved : (t.movedPast r).sweep = (s.movedPast r).sweep := by
    unfold movedPast
    rw [hsweep]
    split
    · exact h.walkPast hsweep r
    · exact hsweep
  rw [sweepPast_sweep, sweepPast_sweep, hmoved, h.leaveOlder]

end SameLinks

/-! ## Chains -/

theorem chainFrom_fuel (hstate : ∀ y, (t.record y).state = (s.record y).state)
    (hpage : ∀ y, (t.record y).pageIndex = (s.record y).pageIndex)
    (holder : ∀ y, (t.record y).older = (s.record y).older) {ks : Finset Nat} (hks : s.Holds ks) {k k' : Nat}
    {seen : List Nat} (hk : (ks \ seen.toFinset).card < k) (hk' : (ks \ seen.toFinset).card < k') :
    t.chainFrom p k' seen o = s.chainFrom p k seen o := by
  induction k generalizing k' seen o with
  | zero => cases hk
  | succ k ih =>
    cases k' with
    | zero => cases hk'
    | succ k' =>
      have hlink' : t.chainLink p seen o = s.chainLink p seen o := by
        unfold State.chainLink
        simp only [hstate, hpage]
      unfold State.chainFrom
      rw [hlink']
      cases hlink : s.chainLink p seen o with
      | none => rfl
      | some y =>
        dsimp only
        have hy : (s.record y).state ≠ .free ∧ y ∉ seen := by
          unfold State.chainLink at hlink
          split at hlink
          · cases hlink
          · split at hlink
            next hok =>
              cases hlink
              exact ⟨hok.1, hok.2.2⟩
            · cases hlink
        have hlt := card_sdiff_cons_lt (hks y hy.1) hy.2
        rw [holder, ih (Nat.lt_of_lt_of_le hlt (Nat.le_of_lt_succ hk)) (Nat.lt_of_lt_of_le hlt (Nat.le_of_lt_succ hk'))]

/-- A page's chain reads its head, and states, pages and older links. -/
theorem chain_congr_links (hstate : ∀ y, (t.record y).state = (s.record y).state)
    (hpage : ∀ y, (t.record y).pageIndex = (s.record y).pageIndex)
    (holder : ∀ y, (t.record y).older = (s.record y).older) (hhead : (t.page p).chainHead = (s.page p).chainHead) :
    t.chain p = s.chain p := by
  obtain ⟨ks, hks, hs, ht⟩ := holds_both hstate
  unfold State.chain
  rw [hhead]
  exact chainFrom_fuel hstate hpage holder hks (by rwa [List.toFinset_nil, Finset.sdiff_empty])
    (by rwa [List.toFinset_nil, Finset.sdiff_empty])

end State

end Sys2Proof.Machine
end

section
/-! A record freed: out of its page's chain and its slot's journal (R46, R51, R54). -/

namespace Sys2Proof.Machine.State

variable {s t u : State} {r x q : Nat} {o n : Option Nat}

/-! ## Out of the chain (R51) -/

theorem chain_head (h : r ∈ s.chain x) : ∃ z l, s.chain x = z :: l ∧ (s.page x).chainHead = some z := by
  unfold State.chain at h ⊢
  unfold State.chainFrom at h ⊢
  cases hlink : s.chainLink x [] (s.page x).chainHead with
  | none =>
    rw [hlink] at h
    cases h
  | some z => exact ⟨z, _, rfl, chainTop_eq_some hlink⟩

theorem chainOlder_eq (s : State) (r x : Nat) : s.chainOlder x r = olderBorneOut s r x := by
  unfold olderBorneOut
  cases hlink : (s.record r).older with
  | none =>
    unfold State.chainOlder
    rw [hlink]
    rfl
  | some y =>
    dsimp only
    by_cases h : (s.record y).state = .free ∨ (s.record y).pageIndex ≠ some x ∨ y = r ∨
      y ∈ (s.chain x).takeWhile (· != r)
    · rw [if_pos h]
      refine Option.eq_none_iff_forall_ne_some.2 fun z hz => ?_
      obtain ⟨hzy, hfree, hpage, hne, hmet⟩ := chainOlder_eq_some.1 hz
      rw [hlink] at hzy
      obtain rfl := Option.some.inj hzy
      exact h.elim hfree fun h => h.elim (fun h => h hpage) fun h => h.elim hne hmet
    · rw [if_neg h]
      simp only [not_or, not_not] at h
      exact chainOlder_eq_some.2 ⟨hlink, h⟩

/-- Record `r` of page `x` has left its chain. -/
theorem chainUnlink_spec (hmem : r ∈ s.chain x) (hrecords : ∀ y, (s.record y).parityOk = true)
    (hpage : (s.page x).parityOk = true) : ∃ records pst, s.chainUnlink x r = { s with records := records, pst := pst } ∧
    (∀ y, records.get .freed y = { s.record y with
      older := if ((s.chain x).takeWhile (· != r)).getLast? = some y then olderBorneOut s r x else (s.record y).older }) ∧
    ∀ j, pst.get .clear j = if j = x then { s.page x with chainHead := headAfter s r x } else s.page j := by
  obtain ⟨z, l, hchain, hhead⟩ := chain_head hmem
  unfold State.chainUnlink headAfter
  rw [if_pos hmem, chainOlder_eq, hhead]
  cases hlast : ((s.chain x).takeWhile (· != r)).getLast? with
  | none =>
    have hzr : z = r := by
      by_contra hne
      rw [hchain, List.takeWhile_cons_of_pos (by simpa using hne)] at hlast
      cases List.getLast?_eq_none_iff.1 hlast
    refine ⟨s.records, _, rfl, fun y => ?_, fun j => (Table.get_set ..).trans ?_⟩
    · rw [if_neg nofun]
      rfl
    · rw [if_pos (congrArg some hzr), ← hpage]
      rfl
  | some y =>
    have hzr : z ≠ r := by
      rintro rfl
      rw [hchain, List.takeWhile_cons_of_neg (by simp)] at hlast
      cases hlast
    refine ⟨_, s.pst, rfl, fun m => (Table.get_set ..).trans ?_, fun j => ?_⟩
    · by_cases hm : m = y
      · rw [if_pos hm, if_pos (by rw [hm]), hm, ← hrecords y]
      · rw [if_neg hm, if_neg fun h => hm (Option.some.inj h).symm]
        rfl
    · rw [if_neg fun h => hzr (Option.some.inj h), ← hhead]
      split
      next hj => rw [hj]; rfl
      · rfl

theorem unlinkRec_spec (h : Threaded s r x q) : ∃ records pst, s.unlinkRec r = { s with records := records, pst := pst } ∧
    (∀ y, records.get .freed y = { s.record y with
      older := if ((s.chain x).takeWhile (· != r)).getLast? = some y then olderBorneOut s r x else (s.record y).older }) ∧
    ∀ j, pst.get .clear j = if j = x then { s.page x with chainHead := headAfter s r x } else s.page j := by
  unfold State.unlinkRec
  rw [h.page]
  dsimp only
  rw [checkPage_sound h.entry, checkRecs_sound fun y _ => h.records y]
  exact chainUnlink_spec h.chain h.records h.entry

/-! ## Out of the journal (R54) -/

theorem links_spec (hrecords : ∀ y, (s.record y).parityOk = true) : ∃ records,
    (s.linkNewer o n).linkOlder n o = { s with records := records } ∧
    ∀ y, records.get .freed y = { s.record y with
      jNewer := if o = some y then n else (s.record y).jNewer
      jOlder := if n = some y then o else (s.record y).jOlder } := by
  have hnewer : ∃ records, s.linkNewer o n = { s with records := records } ∧
      ∀ y, records.get .freed y = { s.record y with jNewer := if o = some y then n else (s.record y).jNewer } := by
    cases o with
    | none =>
      refine ⟨s.records, rfl, fun y => ?_⟩
      rw [if_neg nofun]
      rfl
    | some z =>
      refine ⟨_, rfl, fun y => (Table.get_set ..).trans ?_⟩
      by_cases hy : y = z
      · rw [if_pos hy, if_pos (by rw [hy]), hy, ← hrecords z]
      · rw [if_neg hy, if_neg fun h => hy (Option.some.inj h).symm]
        rfl
  obtain ⟨records, heq, hspec⟩ := hnewer
  rw [heq]
  cases n with
  | none =>
    refine ⟨records, rfl, fun y => (hspec y).trans ?_⟩
    rw [if_neg (c := none = some y) nofun]
  | some z =>
    refine ⟨_, rfl, fun y => (Table.get_set ..).trans ?_⟩
    show (if y = z then { records.get .freed z with jOlder := o, parityOk := true } else records.get .freed y) = _
    rw [hspec, hspec]
    by_cases hy : y = z
    · rw [if_pos hy, if_pos (c := some z = some y) (by rw [hy]), hy, ← hrecords z]
    · rw [if_neg hy, if_neg (c := some z = some y) fun h => hy (Option.some.inj h).symm]

end Sys2Proof.Machine.State
end

section
/-! A record freed or moved: its removal from the journal, and from the chain. -/

namespace Sys2Proof.Machine.State

variable {s t u : State} {r x q : Nat}

/-- The records after `r` has left its journal. -/
def unjournaled (s : State) (r y : Nat) : Record :=
  { s.record y with
    jNewer := if olderLink s r = some y then newerLink s r else (s.record y).jNewer
    jOlder := if newerLink s r = some y then olderLink s r else (s.record y).jOlder }

theorem sameLinks_setSweep (s : State) (w : Sweep) : SameLinks s (s.setSweep w) :=
  ⟨fun _ => rfl, fun _ => rfl, fun _ => rfl, fun _ => rfl, rfl⟩

theorem journalUnlink_eq (s : State) (q r : Nat) : s.journalUnlink q r =
    ((s.linkNewer (olderLink s r) (newerLink s r)).linkOlder (newerLink s r) (olderLink s r)).setSlot q
      { s.slot q with
        head := if (s.slot q).head = some r then newerLink s r else (s.slot q).head
        tail := if (s.slot q).tail = some r then olderLink s r else (s.slot q).tail } := by
  rw [← leaveOlder_eq, ← leaveNewer_eq]
  unfold State.journalUnlink
  simp only [linkNewer_slot, linkOlder_slot]

/-- Slot `q` as its links have been moved off record `r`, its count not yet lowered. -/
def unlinkedSlot (s : State) (r q : Nat) : Slot :=
  { s.slot q with
    head := if (s.slot q).head = some r then newerLink s r else (s.slot q).head
    tail := if (s.slot q).tail = some r then olderLink s r else (s.slot q).tail }

/-- Record `r` has left the journal of slot `q`, which holds it. -/
theorem journalRemove_spec (hslot : s.slotOf (s.record r) = some q) (hmem : r ∈ s.journal q)
    (hrecords : ∀ y, (s.record y).parityOk = true) : ∃ records slots,
    s.journalRemove r = { s with records := records, slots := slots, sweep := (s.sweepPast r).sweep } ∧
    (∀ y, records.get .freed y = unjournaled s r y) ∧
    ∀ j, slots.get .freed j = if j = q then slotAfter s r q else s.slot j := by
  have hsame := sameLinks_setSweep s (s.sweepPast r).sweep
  obtain ⟨records, hlinks, hspec⟩ :=
    links_spec (s := s.setSweep (s.sweepPast r).sweep) (o := olderLink s r) (n := newerLink s r) hrecords
  have hunlink : (s.sweepPast r).journalUnlink q r = { s with
      records := records, slots := s.slots.set .freed q (unlinkedSlot s r q), sweep := (s.sweepPast r).sweep } := by
    rw [sweepPast_eq, journalUnlink_eq, ← leaveOlder_eq, ← leaveNewer_eq, hsame.leaveOlder, hsame.leaveNewer,
      leaveOlder_eq, leaveNewer_eq, hlinks]
    rfl
  refine ⟨records, (s.slots.set .freed q (unlinkedSlot s r q)).set .freed q (slotAfter s r q), ?_, hspec,
    fun j => tableGet_set_set ..⟩
  unfold State.journalRemove
  rw [hslot]
  dsimp only
  rw [if_pos hmem, hunlink]
  generalize hv : ({ s with
      records := records, slots := s.slots.set .freed q (unlinkedSlot s r q), sweep := (s.sweepPast r).sweep } : State) = v
  have hq : v.slot q = unlinkedSlot s r q := by
    rw [← hv]
    exact Table.get_set_same ..
  rw [hq]
  subst hv
  rfl

/-- Record `r` of page `x` and slot `q` has left chain and journal: what the others hold then. -/
def detached (s : State) (r x y : Nat) : Record :=
  { unjournaled s r y with
    older := if ((s.chain x).takeWhile (· != r)).getLast? = some y then olderBorneOut s r x else (s.record y).older }

theorem slotOf_threaded (h : Threaded s r x q) : s.slotOf (s.record r) = some q := by
  unfold State.slotOf
  rw [h.slot]
  exact if_pos h.occupied

theorem leaveJournal_spec (h : Threaded s r x q) : ∃ records pst slots,
    (s.unlinkRec r).leaveJournal r =
      { s with records := records, pst := pst, slots := slots, sweep := (s.sweepPast r).sweep } ∧
    (∀ y, records.get .freed y = detached s r x y) ∧
    (∀ j, pst.get .clear j = if j = x then { s.page x with chainHead := headAfter s r x } else s.page j) ∧
    ∀ j, slots.get .freed j = if j = q then slotAfter s r q else s.slot j := by
  obtain ⟨records, pst, hunlink, hrec, hpst⟩ := unlinkRec_spec h
  rw [hunlink]
  generalize hu : ({ s with records := records, pst := pst } : State) = u
  have hrecord : ∀ y, u.record y = { s.record y with
      older := if ((s.chain x).takeWhile (· != r)).getLast? = some y then olderBorneOut s r x else (s.record y).older } := by
    rw [← hu]
    exact hrec
  have hslots : u.slots = s.slots := by rw [← hu]
  have hsweep : u.sweep = s.sweep := by rw [← hu]
  have hsame : SameLinks s u := ⟨fun y => by rw [hrecord], fun y => by rw [hrecord], fun y => by rw [hrecord],
    fun y => by rw [hrecord], hslots⟩
  have hsound : ∀ y, (u.record y).parityOk = true := fun y => by
    rw [hrecord]
    exact h.records y
  have hnewer : newerLink u r = newerLink s r := by rw [← leaveNewer_eq, ← leaveNewer_eq, hsame.leaveNewer]
  have holder : olderLink u r = olderLink s r := by rw [← leaveOlder_eq, ← leaveOlder_eq, hsame.leaveOlder]
  obtain ⟨records', slots, hremove, hrec', hslots'⟩ := journalRemove_spec (s := u) (q := q)
    ((hsame.slotOf r).trans (slotOf_threaded h)) (by rw [hsame.journal]; exact h.journal) hsound
  refine ⟨records', pst, slots, ?_, fun y => (hrec' y).trans ?_, hpst, fun j => (hslots' j).trans ?_⟩
  · unfold State.leaveJournal
    rw [checkRecs_sound fun y _ => hsound y, hremove, hsame.sweepPast hsweep]
    subst hu
    rfl
  · unfold unjournaled detached unjournaled
    rw [hnewer, holder, hrecord]
  · unfold slotAfter
    rw [hnewer, holder, slot_congr hslots]

/-- Record `r` has been freed: only its frame is not yet returned. -/
theorem freeRecord_eq (h : Threaded s r x q) (hjob : s.namesJob r = false) : ∃ records pst slots,
    s.freeRecord r =
      ({ s with records := records, pst := pst, slots := slots, sweep := (s.sweepPast r).sweep } : State).returnFrame r ∧
    (∀ y, records.get .freed y = if y = r then .freed else detached s r x y) ∧
    (∀ j, pst.get .clear j = if j = x then { s.page x with chainHead := headAfter s r x } else s.page j) ∧
    ∀ j, slots.get .freed j = if j = q then slotAfter s r q else s.slot j := by
  obtain ⟨records, pst, slots, hleave, hrec, hpst, hslots⟩ := leaveJournal_spec h
  refine ⟨records.set .freed r .freed, pst, slots, ?_, fun y => (Table.get_set ..).trans ?_, hpst, hslots⟩
  · unfold State.freeRecord
    rw [hleave, clearRec_unnamed (by exact hjob)]
    rfl
  · rw [hrec]

theorem freeRecord_spec (h : Threaded s r x q) (hjob : s.namesJob r = false) (hwait : s.pool.wait = []) :
    ∃ t, s.freeRecord r = t ∧ freedRecords s t r x ∧
    (∀ j, t.page j = if j = x then { s.page x with chainHead := headAfter s r x } else s.page j) ∧
    (∀ j, t.slot j = if j = q then slotAfter s r q else s.slot j) ∧
    t = { s with
      records := t.records, pst := t.pst, slots := t.slots
      pool := { s.pool with free := s.pool.free ++ [r] }, sweep := (s.sweepPast r).sweep } := by
  obtain ⟨records, pst, slots, hfree, hrec, hpst, hslots⟩ := freeRecord_eq h hjob
  refine ⟨_, hfree, ?_⟩
  rw [returnFrame_noWaiter (by exact h.allocated) (by exact hwait)]
  exact ⟨hrec, hpst, hslots, rfl⟩

end Sys2Proof.Machine.State
end

section
/-! The walks of a discard, a MERGE and a commit: where they wait, what they pass over, how they end (O55). -/

namespace Sys2Proof.Machine.State

variable {s : State} {r : Nat}

theorem checkRec_all (h : ∀ y, (s.record y).parityOk = true) (tag : Option Nat) : s.checkRec r tag = s :=
  checkRec_sound (h r)

theorem checkRecs_all (h : ∀ y, (s.record y).parityOk = true) (l : List Nat) (tag : Option Nat) : s.checkRecs l tag = s :=
  checkRecs_sound fun y _ => h y

/-! ## A step on the cursor's record -/

theorem onWalk_eq_false (h : (s.record r).state = .free) : s.onWalk r = false := by
  unfold State.onWalk State.walkLink
  rw [journalLink_free h]
  rfl

theorem onWalk_eq_true (h : OnWalk s r) (hstate : (s.record r).state ≠ .free) : s.onWalk r = true :=
  beq_iff_eq.2 (walkLink_eq_some.2 ⟨rfl, hstate, h.walked⟩)

theorem passOver_eq (h : ∀ y, (s.record y).parityOk = true) : s.passOver r = s.walkPast r := by
  unfold State.passOver
  rw [checkRecs_all h]

theorem endJournal_eq (h : ∀ y, (s.record y).parityOk = true) : s.endJournal = s.nextJournal := by
  unfold State.endJournal
  rw [checkRecs_all h]

theorem retireStep_free (h : OnWalk s r) (hstate : (s.record r).state = .free) : s.retireStep r = s.nextJournal := by
  unfold State.retireStep
  rw [checkRec_all h.records]
  dsimp only
  rw [if_pos (onWalk_eq_false hstate), endJournal_eq h.records]

theorem retireStep_copying (h : OnWalk s r) (hstate : (s.record r).state = .copying) :
    s.retireStep r = s.setSweep { s.sweep with waitingOn := some r } := by
  unfold State.retireStep
  rw [checkRec_all h.records]
  dsimp only
  rw [if_neg (by rw [onWalk_eq_true h (by rw [hstate]; exact nofun)]; exact nofun), hstate]
  rfl

theorem retireStep_restoring (h : OnWalk s r) (hstate : (s.record r).state = .restoring) : s.retireStep r = s.walkPast r := by
  unfold State.retireStep
  rw [checkRec_all h.records]
  dsimp only
  rw [if_neg (by rw [onWalk_eq_true h (by rw [hstate]; exact nofun)]; exact nofun), hstate]
  exact passOver_eq h.records

theorem retireStep_valid (h : OnWalk s r) (hstate : (s.record r).state = .valid) : s.retireStep r = s.retireValid r := by
  unfold State.retireStep
  rw [checkRec_all h.records]
  dsimp only
  rw [if_neg (by rw [onWalk_eq_true h (by rw [hstate]; exact nofun)]; exact nofun), hstate]

theorem commitStep_valid (h : OnWalk s r) (hstate : (s.record r).state = .valid) : s.commitStep r = s.freeRecord r := by
  unfold State.commitStep
  rw [checkRec_all h.records]
  dsimp only
  rw [if_neg (by rw [onWalk_eq_true h (by rw [hstate]; exact nofun)]; exact nofun), hstate]

/-- A commit's walk and a discard's treat alike what is not VALID. -/
theorem commitStep_eq (h : OnWalk s r) (hstate : (s.record r).state ≠ .valid) : s.commitStep r = s.retireStep r := by
  unfold State.commitStep State.retireStep
  rw [checkRec_all h.records]
  dsimp only
  split
  · rfl
  · cases hr : (s.record r).state with
    | valid => exact absurd hr hstate
    | copying => rfl
    | restoring => rfl
    | free => rfl

theorem walkPast_copies (s : State) (r : Nat) :
    (s.walkPast r).sweep.demand = s.sweep.demand ∧ (s.walkPast r).sweep.offer = s.sweep.offer := by
  unfold State.walkPast
  split <;> exact ⟨rfl, rfl⟩

theorem finish_setSweep (h : s.Settled) {w : Sweep} (hdemand : w.demand = s.sweep.demand) (hoffer : w.offer = s.sweep.offer) :
    (s.setSweep w).finish = s.setSweep w :=
  finish_settled (h.congr rfl (fun _ => rfl) rfl rfl hdemand hoffer rfl)

theorem finish_walkPast (h : s.Settled) : (s.walkPast r).finish = s.walkPast r := by
  rw [walkPast_eq]
  exact finish_setSweep h (s.walkPast_copies r).1 (s.walkPast_copies r).2

theorem finish_nextJournal (h : s.Settled) : s.nextJournal.finish = s.nextJournal := finish_setSweep h rfl rfl

end Sys2Proof.Machine.State

namespace Sys2Proof.Proofs

open Sys2Proof.Machine Sys2Proof.Machine.State

variable {s : State} {c : Instr} {r q flag : Nat}

/-- Command `c` is the walk of the sweep in hand. -/
def Walks (s : State) (c : Instr) : Prop :=
  (c = .discardWalkStep ∧ s.sweep.kind = .discard) ∨
    (c = .mergeWalkStep ∧ s.sweep.kind = .rollback ∧ s.sweep.phase = .merge) ∨
    (c = .commitWalkStep ∧ s.sweep.kind = .commit)

theorem exec_discardWalkStep (hkind : s.sweep.kind = .discard) (h : OnWalk s r) :
    exec .discardWalkStep s = .next (s.retireStep r).finish := by
  show execDiscardWalkStep s = _
  unfold execDiscardWalkStep
  rw [if_pos ⟨hkind, h.waits⟩, h.cursor]

theorem exec_mergeWalkStep (hkind : s.sweep.kind = .rollback) (hphase : s.sweep.phase = .merge) (h : OnWalk s r) :
    exec .mergeWalkStep s = .next (s.retireStep r).finish := by
  show execMergeWalkStep s = _
  unfold execMergeWalkStep
  rw [if_pos ⟨hkind, hphase, h.waits⟩, h.cursor]

theorem exec_commitWalkStep (hkind : s.sweep.kind = .commit) (h : OnWalk s r) :
    exec .commitWalkStep s = .next (s.commitStep r).finish := by
  show execCommitWalkStep s = _
  unfold execCommitWalkStep
  rw [if_pos ⟨hkind, h.waits⟩, h.cursor]

/-- While the walk waits the command has no effect. -/
theorem exec_walk_waits (hc : Walks s c) (h : s.sweep.waitingOn = some r) : exec c s = .next s := by
  rcases hc with ⟨rfl, -⟩ | ⟨rfl, -⟩ | ⟨rfl, -⟩
  · exact if_neg fun hw => by rw [h] at hw; cases hw.2
  · exact if_neg fun hw => by rw [h] at hw; cases hw.2.2
  · exact if_neg fun hw => by rw [h] at hw; cases hw.2

/-- On a record that is not VALID the three walks do the same. -/
theorem exec_walk_notValid (hc : Walks s c) (h : OnWalk s r) (hstate : (s.record r).state ≠ .valid) :
    exec c s = .next (s.retireStep r).finish := by
  rcases hc with ⟨rfl, hkind⟩ | ⟨rfl, hkind, hphase⟩ | ⟨rfl, hkind⟩
  · exact exec_discardWalkStep hkind h
  · exact exec_mergeWalkStep hkind hphase h
  · rw [exec_commitWalkStep hkind h, commitStep_eq h hstate]

/-- The end of a walk into slot `q`'s predecessor: slot `q` freed, its damage passed on, the engine idle. -/
theorem exec_walk_completes (hsettled : s.Settled)
    (hc : c = .discardWalkStep ∧ s.sweep.kind = .discard ∧ flag = 1 ∨
      c = .mergeWalkStep ∧ s.sweep.kind = .rollback ∧ s.sweep.phase = .merge ∧ flag = 2)
    (hretiring : s.sweep.retiring = some q) (hwaiting : s.sweep.waitingOn = none) (hcursor : s.sweep.cursor = none)
    {slots : Table Slot}
    (hpass : (s.passDamage q s.sweep.predecessor).freeSlots [q] = { s with slots := slots }) :
    exec c s = .next (State.pressureCheck { s with
      slots := slots, sweep := idleSweep s.sweep
      mgmt := { s.mgmt with flags := s.mgmt.flags ||| BitVec.twoPow 21 flag } }) := by
  have hfinish : ∀ m : Mgmt, (State.pressureCheck { s with slots := slots, sweep := idleSweep s.sweep, mgmt := m }).finish =
      State.pressureCheck { s with slots := slots, sweep := idleSweep s.sweep, mgmt := m } := fun m =>
    finish_pressureCheck_settled (hsettled.congr rfl (fun _ => rfl) rfl rfl rfl rfl rfl)
  rcases hc with ⟨rfl, hkind, rfl⟩ | ⟨rfl, hkind, hphase, rfl⟩
  · show execDiscardWalkStep s = _
    unfold execDiscardWalkStep State.discardComplete
    rw [if_pos ⟨hkind, hwaiting⟩, hcursor, hretiring]
    dsimp only
    rw [hpass]
    exact congrArg Host.Outcome.next (hfinish _)
  · show execMergeWalkStep s = _
    unfold execMergeWalkStep State.mergeComplete
    rw [if_pos ⟨hkind, hphase, hwaiting⟩, hcursor, hretiring]
    dsimp only
    rw [hpass]
    exact congrArg Host.Outcome.next (hfinish _)

/-- Settles O55: by the state of the cursor's record, and by the command at the end of the walk. -/
theorem discardMergeAndCommitWalks : Obligations.DiscardMergeAndCommitWalks := by
  intro s c hsettled
  refine ⟨fun hc => ⟨fun r h => exec_walk_waits hc h, fun r h => ⟨fun hstate => ?_, fun hstate => ⟨?_, walkPast_cursor s r⟩,
    fun hstate => ⟨?_, Machine.State.nextJournal_cursor s⟩⟩⟩, fun flag q p hc hretiring hpred hp hwaiting hcursor => ?_⟩
  · rw [exec_walk_notValid hc h (by rw [hstate]; exact nofun), retireStep_copying h hstate]
    exact congrArg Host.Outcome.next (finish_setSweep hsettled rfl rfl)
  · rw [exec_walk_notValid hc h (by rw [hstate]; exact nofun), retireStep_restoring h hstate, finish_walkPast hsettled]
  · rw [exec_walk_notValid hc h (by rw [hstate]; exact nofun), retireStep_free h hstate, finish_nextJournal hsettled]
  · subst hpred
    obtain ⟨slots, hpass, hslots⟩ := passDamage_spec (s := s) hp
    exact ⟨_, exec_walk_completes hsettled hc hretiring hwaiting hcursor hpass, hslots, rfl⟩

end Sys2Proof.Proofs
end

section
/-! A record behind a journal's tail, as the tables bear the tail out; and an allocation for a page without a record. -/

namespace Sys2Proof.Machine.State

variable {s v : State} {p q r n x z : Nat} {o : Option Nat} {e : Entry}

theorem putRec_sound {v : Record} (h : v.parityOk = true) (y : Nat) :
    (s.putRec r v).records.get .freed y = if y = r then v else s.record y := by
  refine (record_of_put y).trans ?_
  rw [← h]
  rfl

theorem journalAppend_link (hrecords : ∀ y, (s.record y).parityOk = true)
    (ho : (s.journalLink (s.slot q).tail).filter (fun y => y != r) = o) :
    ∃ records slots, s.journalAppend q r = { s with records := records, slots := slots } ∧
    (∀ y, records.get .freed y = if y = r then { s.record r with slot := some q, jOlder := o, jNewer := none }
      else { s.record y with jNewer := if o = some y then some r else (s.record y).jNewer }) ∧
    ∀ i, slots.get .freed i = if i = q then
        { s.slot q with
          head := if o = none then some r else (s.slot q).head, tail := some r, count := (s.slot q).count + 1 }
      else s.slot i := by
  cases o with
  | none =>
    rw [journalAppend_none ho]
    refine ⟨_, _, rfl, fun y => (record_of_put y).trans ?_, fun i => tableGet_set_set s.slots .freed q i _ _⟩
    rw [if_neg (c := none = some y) nofun, ← hrecords r]
    rfl
  | some z =>
    have hz : z ≠ r := by simpa using (Option.filter_eq_some_iff.1 ho).2
    rw [journalAppend_some ho hz]
    refine ⟨_, _, rfl, fun y => (record_of_put y).trans ?_, fun i => Table.get_set ..⟩
    by_cases hyz : y = z
    · rw [if_pos hyz, if_neg (hyz ▸ hz), if_pos (by rw [hyz]), ← hrecords z, hyz]
    · rw [if_neg hyz, if_neg (c := some z = some y) fun h => hyz (Option.some.inj h).symm]
      exact putRec_sound (by exact hrecords r) y

/-- The port as new work leaves it (R120). -/
def workNoted (s : State) : RequestPort :=
  { s.port with intake := if s.port.intake = .closed then .closing else s.port.intake }

theorem queueJob_noted (hqueue : s.wp.queue.length < 128) (j : Job) : s.queueJob j =
    { s with wp := { s.wp with queue := s.wp.queue ++ [j] }, port := s.workNoted } := by
  unfold State.queueJob
  exact (if_pos hqueue).trans (noteWork_eq _)

/-- What an allocation does behind the links: the job, the write HELD, the count. -/
theorem saveJob_noted (he : s.entry n = e) (hqueue : s.wp.queue.length < 128) (job : Job) :
    ((State.queueJob job { s with mgmt := s.lowFlags }).hold n (.record r)).countPreserve
      ((State.queueJob job { s with mgmt := s.lowFlags }).entry n).window = { s with
      entries := s.entries.set .freed n { e with state := .held, heldOn := some (.record r) }
      activity := counted s e.window fun c => { c with preserves := satInc c.preserves }
      wp := { s.wp with queue := s.wp.queue ++ [job] }
      port := s.workNoted
      mgmt := s.lowFlags } := by
  rw [queueJob_noted (s := { s with mgmt := s.lowFlags }) hqueue]
  have hentry : ({ s with
      mgmt := s.lowFlags, wp := { s.wp with queue := s.wp.queue ++ [job] }, port := s.workNoted } : State).entry n = e := he
  unfold State.hold
  refine (countRunning_eq _ _ _).trans ?_
  show ({ s with
      entries := s.entries.set .freed n { s.entry n with state := .held, heldOn := some (.record r) }
      activity := counted s (s.entry n).window fun c => { c with preserves := satInc c.preserves }
      wp := { s.wp with queue := s.wp.queue ++ [job] }
      port := s.workNoted
      mgmt := s.lowFlags } : State) = _
  rw [he]

/-- The tail of a journal that record `r`, FREE as yet, goes in behind. -/
theorem tail_of_free (hfree : (s.record r).state = .free) (hrecord : ∀ y, y ≠ r → v.record y = s.record y)
    (hslot : v.slot q = s.slot q) :
    (v.journalLink (v.slot q).tail).filter (fun y => y != r) = s.journalLink (s.slot q).tail := by
  rw [hslot]
  cases (s.slot q).tail with
  | none => rfl
  | some y =>
    by_cases hy : y = r
    · rw [hy, journalLink_free hfree, Option.filter_eq_none_iff]
      intro z hz
      have hw : v.walkLink [] (some r) = some z := by
        unfold State.walkLink
        rw [hz]
        rfl
      rw [← Option.some.inj (walkLink_eq_some.1 hw).1]
      simp
    · unfold State.journalLink
      dsimp only
      rw [hrecord y hy]
      split
      · simp [hy]
      · rfl

/-- The new record of a page that has none, in its page's chain and behind a tail `o` of its mark's journal. -/
theorem linked_headless (hrecords : ∀ y, (s.record y).parityOk = true) (hhead : (s.page p).chainHead = none)
    (number : Nat) : ∃ o records slots,
    ((s.putRec r (newRecord p x number)).chainInsert p r).journalAppend x r = { s with
      records := records, slots := slots
      pst := s.pst.set .clear p { s.page p with chainHead := some r, parityOk := true } } ∧
    ((s.record r).state = .free → o = s.journalLink (s.slot x).tail) ∧
    (∀ y, records.get .freed y = if y = r then ⟨.copying, some p, some number, some x, none, o, none, false, true⟩
      else { s.record y with jNewer := if o = some y then some r else (s.record y).jNewer }) ∧
    ∀ i, slots.get .freed i = if i = x then
        { s.slot x with
          head := if o = none then some r else (s.slot x).head, tail := some r, count := (s.slot x).count + 1 }
      else s.slot i := by
  have hinsert : (s.putRec r (newRecord p x number)).chainInsert p r =
      ((s.putRec r (newRecord p x number)).putRec r (newRecord p x number)).putPage p
        { s.page p with chainHead := some r } := by
    have hself : (s.putRec r (newRecord p x number)).record r = newRecord p x number := by
      rw [putRec_record, if_pos rfl]
      rfl
    have hnone : ((s.putRec r (newRecord p x number)).page p).chainHead = none := hhead
    rw [chainInsert_head fun y hy => (nomatch hnone.symm.trans hy), hself,
      show ((s.putRec r (newRecord p x number)).page p).chainHead = none from hhead]
    rfl
  rw [hinsert]
  generalize hu : ((s.putRec r (newRecord p x number)).putRec r (newRecord p x number)).putPage p
    { s.page p with chainHead := some r } = u
  have hrecord : ∀ y, u.record y = if y = r then newRecord p x number else s.record y := by
    rw [← hu]
    exact fun y => tableGet_set_set s.records .freed r y _ _
  have hslot : ∀ i, u.slot i = s.slot i := fun i => by rw [← hu]; rfl
  obtain ⟨records, slots, heq, hrec, hslots⟩ := journalAppend_link (s := u) (q := x) (r := r) (fun y => by
    rw [hrecord]
    split
    · rfl
    · exact hrecords y) rfl
  refine ⟨_, records, slots, ?_, fun hfree => tail_of_free hfree (fun y hy => (hrecord y).trans (if_neg hy)) (hslot x),
    fun y => (hrec y).trans ?_, fun i => (hslots i).trans ?_⟩
  · rw [heq, ← hu]
    rfl
  · rw [hrecord, if_pos rfl, hrecord]
    split <;> rfl
  · rw [hslot, hslot]

/-- What an allocation does with record `r` for write `n` on a page without a record. -/
theorem allocate_headless (hrecords : ∀ y, (s.record y).parityOk = true) (hhead : (s.page p).chainHead = none)
    (he : s.entry n = e) (hqueue : s.wp.queue.length < 128) : ∃ o records slots,
    s.allocate r p n x = { s with
      records := records, slots := slots
      pst := s.pst.set .clear p { s.page p with chainHead := some r, parityOk := true }
      entries := s.entries.set .freed n { e with state := .held, heldOn := some (.record r) }
      activity := counted s e.window fun c => { c with preserves := satInc c.preserves }
      wp := { s.wp with
        queue := s.wp.queue ++ [⟨.preservation, r, pageOf e.address, s.pool.base.toNat + r, false⟩] }
      port := s.workNoted
      mgmt := s.lowFlags } ∧
    ((s.record r).state = .free → o = s.journalLink (s.slot x).tail) ∧
    (∀ y, records.get .freed y = if y = r then
        ⟨.copying, some p, some (pageOf e.address), some x, none, o, none, false, true⟩
      else { s.record y with jNewer := if o = some y then some r else (s.record y).jNewer }) ∧
    ∀ i, slots.get .freed i = if i = x then
        { s.slot x with
          head := if o = none then some r else (s.slot x).head, tail := some r, count := (s.slot x).count + 1 }
      else s.slot i := by
  obtain ⟨o, records, slots, hlinked, hspec⟩ := linked_headless (r := r) (x := x) hrecords hhead (pageOf e.address)
  refine ⟨o, records, slots, ?_, hspec⟩
  unfold State.allocate
  rw [he]
  dsimp only
  rw [show (⟨.copying, some p, some (pageOf e.address), some x, none, none, none, false, true⟩ : Record) =
    newRecord p x (pageOf e.address) from rfl, hlinked]
  generalize hv : ({ s with
    records := records, slots := slots
    pst := s.pst.set .clear p { s.page p with chainHead := some r, parityOk := true } } : State) = v
  rw [raise_framesLow v, saveJob_noted (s := v) (e := e) (by rw [← hv]; exact he) (by rw [← hv]; exact hqueue) _]
  subst hv
  rfl

/-- The allocation of a record that reads FREE. -/
theorem allocate_fresh (hrecords : ∀ y, (s.record y).parityOk = true) (hhead : (s.page p).chainHead = none)
    (hfree : (s.record r).state = .free) (he : s.entry n = e) (hqueue : s.wp.queue.length < 128) : ∃ records slots,
    s.allocate r p n x = { s with
      records := records, slots := slots
      pst := s.pst.set .clear p { s.page p with chainHead := some r, parityOk := true }
      entries := s.entries.set .freed n { e with state := .held, heldOn := some (.record r) }
      activity := counted s e.window fun c => { c with preserves := satInc c.preserves }
      wp := { s.wp with
        queue := s.wp.queue ++ [⟨.preservation, r, pageOf e.address, s.pool.base.toNat + r, false⟩] }
      port := s.workNoted
      mgmt := s.lowFlags } ∧
    (∀ y, records.get .freed y = if y = r then
        ⟨.copying, some p, some (pageOf e.address), some x, none, s.journalLink (s.slot x).tail, none, false, true⟩
      else { s.record y with
        jNewer := if s.journalLink (s.slot x).tail = some y then some r else (s.record y).jNewer }) ∧
    ∀ i, slots.get .freed i = if i = x then
        { s.slot x with
          head := if s.journalLink (s.slot x).tail = none then some r else (s.slot x).head, tail := some r
          count := (s.slot x).count + 1 }
      else s.slot i := by
  obtain ⟨o, records, slots, halloc, ho, hspec⟩ := allocate_headless (r := r) (x := x) hrecords hhead he hqueue
  obtain rfl := ho hfree
  exact ⟨records, slots, halloc, hspec⟩

end Sys2Proof.Machine.State
end

section
/-! The frame of a freed record: it joins the free-frame queue, or first serves the write in FRAME_WAIT (R47). -/

namespace Sys2Proof.Machine.State

variable {s u v : State} {p q r n x z : Nat} {e : Entry}

/-- Marks that agree in state and sequence have the same effective ones. -/
theorem effective_congr_live (hstate : ∀ i, (v.slot i).state = (s.slot i).state) (hseq : ∀ i, (v.slot i).seq = (s.slot i).seq)
    (t : Seq) : v.effective t = s.effective t := by
  have hlive : v.liveSlots = s.liveSlots := by
    unfold State.liveSlots
    simp only [hstate]
  unfold State.effective
  simp only [hlive, hseq]
  rw [latest_congr_on fun i _ => hseq i]

/-! ## The sweep engine past a record that leaves its journal -/

theorem sweepPast_kept (s : State) (r : Nat) : (s.sweepPast r).sweep.kind = s.sweep.kind ∧
    (s.sweepPast r).sweep.phase = s.sweep.phase ∧ (s.sweepPast r).sweep.demand = s.sweep.demand ∧
    (s.sweepPast r).sweep.offer = s.sweep.offer := by
  have hmoved : (s.movedPast r).sweep.kind = s.sweep.kind ∧ (s.movedPast r).sweep.phase = s.sweep.phase ∧
      (s.movedPast r).sweep.demand = s.sweep.demand ∧ (s.movedPast r).sweep.offer = s.sweep.offer := by
    unfold movedPast State.walkPast
    split
    · split <;> exact ⟨rfl, rfl, rfl, rfl⟩
    · exact ⟨rfl, rfl, rfl, rfl⟩
  rw [sweepPast_sweep]
  split
  · exact hmoved
  · exact hmoved

/-- Outside a restore a cursor on the record moves, and nothing else. -/
theorem sweepPast_of_walk (hphase : s.sweep.phase ≠ .restore) (hcursor : s.sweep.cursor = some r) :
    (s.sweepPast r).sweep = (s.walkPast r).sweep := by
  have hmoved : s.movedPast r = s.walkPast r := if_pos hcursor
  rw [sweepPast_sweep, hmoved, if_neg]
  unfold State.walkPast
  split <;> exact hphase

/-! ## A record freed, its frame at hand -/

/-- State `v` is `s` with record `r` of page `x` and slot `q` freed, its frame not yet returned. -/
structure Freed (s v : State) (r x q : Nat) : Prop where
  records : freedRecords s v r x
  page : ∀ j, v.page j = if j = x then { s.page x with chainHead := headAfter s r x } else s.page j
  slot : ∀ j, v.slot j = if j = q then slotAfter s r q else s.slot j
  rest : v = { s with records := v.records, pst := v.pst, slots := v.slots, sweep := (s.sweepPast r).sweep }

theorem freeRecord_freed (h : Threaded s r x q) (hjob : s.namesJob r = false) :
    ∃ v, s.freeRecord r = v.returnFrame r ∧ Freed s v r x q := by
  obtain ⟨records, pst, slots, hfree, hrec, hpst, hslots⟩ := freeRecord_eq h hjob
  exact ⟨_, hfree, hrec, hpst, hslots, rfl⟩

namespace Freed

variable (h : Freed s v r x q)
include h

theorem state (i : Nat) : (v.slot i).state = (s.slot i).state := by
  rw [h.slot]
  split
  next hi => rw [hi]; rfl
  · rfl

theorem seq (i : Nat) : (v.slot i).seq = (s.slot i).seq := by
  rw [h.slot]
  split
  next hi => rw [hi]; rfl
  · rfl

theorem effective (t : Seq) : v.effective t = s.effective t := effective_congr_live h.state h.seq t

theorem sound (hrecords : ∀ y, (s.record y).parityOk = true) (y : Nat) : (v.record y).parityOk = true := by
  rw [h.records]
  split
  · rfl
  · exact hrecords y

theorem free : (v.record r).state = .free := by rw [h.records, if_pos rfl]; rfl

theorem parity (j : Nat) : (v.page j).parityOk = (s.page j).parityOk := by
  rw [h.page]
  split
  next hj => rw [hj]
  · rfl

theorem restoring : v.restoring = s.restoring := by
  obtain ⟨hkind, hphase, -, -⟩ := s.sweepPast_kept r
  unfold State.restoring
  rw [show v.sweep = (s.sweepPast r).sweep by rw [h.rest], hkind, hphase]

theorem settled (hsettled : s.Settled) : v.Settled := by
  obtain ⟨-, -, hdemand, hoffer⟩ := s.sweepPast_kept r
  rw [h.rest]
  exact hsettled.congr rfl (fun _ => rfl) rfl rfl hdemand hoffer rfl

theorem waits (hwaits : WaitsForFrame s n z) : WaitsForFrame v n z where
  queue := by rw [h.rest]; exact hwaits.queue
  number := hwaits.number
  state := by rw [h.rest]; exact hwaits.state
  kind := by rw [h.rest]; exact hwaits.kind
  next := by rw [h.rest]; exact hwaits.next
  pst := by rw [h.rest]; exact hwaits.pst
  head := by
    rw [h.page]
    split
    next hz => rw [← hz]; exact hwaits.head
    · exact hwaits.head
  tail := by
    rw [h.page]
    split
    next hz => rw [← hz]; exact hwaits.tail
    · exact hwaits.tail
  parity := (h.parity z).trans hwaits.parity

end Freed

/-! ## The write in FRAME_WAIT -/

/-- State `v` with the frame-wait queue taken. -/
def waitTaken (v : State) : State := { v with pool := { v.pool with wait := [] } }

section
variable (hwaits : WaitsForFrame v n z) (hr : r ∉ v.pool.free)
include hwaits hr

theorem returnFrame_took (hdecide : decideWriteWith flushWaiters (some r) z n (waitTaken v) = (.took, u)) :
    v.returnFrame r = u := by
  unfold State.returnFrame
  rw [if_neg hr]
  show returnFrameFrom r (128 + 1) v = _
  rw [returnFrameFrom, hwaits.queue]
  dsimp only
  rw [show ((v.setPool { v.pool with wait := [] }).entry n).pst = some z from hwaits.pst]
  dsimp only
  rw [checkPage_sound (s := v.setPool { v.pool with wait := [] }) hwaits.parity]
  rw [show v.setPool { v.pool with wait := [] } = waitTaken v from rfl, hdecide]

theorem returnFrame_left (hdecide : decideWriteWith flushWaiters (some r) z n (waitTaken v) = (.left, u)) :
    v.returnFrame r = returnFrameFrom r 128 (u.decidePage z) := by
  unfold State.returnFrame
  rw [if_neg hr]
  show returnFrameFrom r (128 + 1) v = _
  rw [returnFrameFrom, hwaits.queue]
  dsimp only
  rw [show ((v.setPool { v.pool with wait := [] }).entry n).pst = some z from hwaits.pst]
  dsimp only
  rw [checkPage_sound (s := v.setPool { v.pool with wait := [] }) hwaits.parity]
  rw [show v.setPool { v.pool with wait := [] } = waitTaken v from rfl, hdecide]

/-- The write passes on its own, in DEGRADED or without an effective mark: it is issued, and the frame joins the free-frame
queue. -/
theorem returnFrame_passes (hsource : v.restoring = false) (hup : v.mem.up = true)
    (hpasses : v.ctl.state = .degraded ∨ v.effective (v.entry n).stamp = none) : ∃ entries pst,
    v.returnFrame r = { v with
      entries := entries, pst := pst, tags := v.tags.set .idle n (queuedAgain v n)
      mem := { v.mem with takeList := v.mem.takeList ++ [n], sendQueue := v.mem.sendQueue ++ [n] }
      pool := { v.pool with free := v.pool.free ++ [r], wait := [] } } ∧
    (∀ m, entries.get .freed m = if m = n then issuedAgain (v.entry n) else v.entry m) ∧
    ∀ j, pst.get .clear j = if j = z then { v.page z with waitHead := none, waitTail := none } else v.page j := by
  have hleft : decideWriteWith flushWaiters (some r) z n (waitTaken v) =
      (.left, (waitTaken v).issueHead z n ((waitTaken v).entry n).address) := by
    unfold Machine.decideWriteWith
    rw [if_neg (by rw [show (waitTaken v).restoring = v.restoring from rfl, hsource]; exact nofun)]
    refine decideMarksWith_unmarked (hpasses.imp_right fun h => ?_)
    rw [← h]
    exact effective_congr (s := v) (t := waitTaken v) rfl _
  obtain ⟨entries, pst, hissue, hentries, hpst⟩ := issueHead_single (u := waitTaken v) (p := z) (n := n) rfl hwaits.next hup
    ((waitTaken v).entry n).address
  have hself : pst.get .clear z = { v.page z with waitHead := none, waitTail := none, parityOk := true } :=
    (hpst z).trans (if_pos rfl)
  refine ⟨entries, pst, ?_, hentries, fun j => (hpst j).trans ?_⟩
  · rw [returnFrame_left hwaits hr hleft, hissue, State.decidePage,
      show listRounds = 128 + 1 from rfl, decidePageWith_none (by exact congrArg PstEntry.parityOk hself)
        (by exact congrArg PstEntry.waitHead hself)]
    rfl
  · rw [← hwaits.parity]
    rfl

/-- The write still needs a preservation, its page having no record: it takes the frame. -/
theorem returnFrame_taken {e : Nat} (hsource : v.restoring = false) (hctl : v.ctl.state ≠ .degraded)
    (heffective : v.effective (v.entry n).stamp = some e) (hhead : (v.page z).chainHead = none)
    (hrecords : ∀ y, (v.record y).parityOk = true) : v.returnFrame r = (waitTaken v).allocate r z n e := by
  refine returnFrame_took hwaits hr ?_
  have hnone : ((waitTaken v).page z).chainHead = none := hhead
  have htop : (waitTaken v).chainTop z = none := by
    unfold State.chainTop
    rw [hnone]
    rfl
  unfold Machine.decideWriteWith
  rw [if_neg (by rw [show (waitTaken v).restoring = v.restoring from rfl, hsource]; exact nofun),
    decideMarksWith_marked (u := waitTaken v) (x := e) hctl
      ((effective_congr (s := v) (t := waitTaken v) rfl _).trans heffective) fun y hy => (nomatch hnone.symm.trans hy),
    decideHeadWith_preserve (.inl htop)]
  unfold Machine.preserveWith
  rw [if_neg (by exact fun h => nomatch h.1), checkRecsWith_sound (s := waitTaken v) fun y _ => hrecords y]
  exact if_neg hctl

end

end Sys2Proof.Machine.State
end

section
/-! A VALID record under a discard's, a MERGE's or a commit's walk: freed, or relabelled to the predecessor (O56). -/

namespace Sys2Proof.Machine.State

variable {s v : State} {r x q p : Nat}

theorem Freed.exists_eq (h : Freed s v r x q) : ∃ records pst slots,
    v = { s with records := records, pst := pst, slots := slots, sweep := (s.sweepPast r).sweep } := ⟨_, _, _, h.rest⟩

/-! ## The predecessor's record of the page (R81) -/

theorem recordAt_isSome : s.recordAt x p ≠ none ↔ ∃ y, y ∈ s.chain x ∧ (s.record y).slot = some p := by
  unfold State.recordAt
  rw [Option.ne_none_iff_isSome, List.find?_isSome]
  simp

theorem retireValid_freed (hrecords : ∀ y, (s.record y).parityOk = true) (hpage : (s.record r).pageIndex = some x)
    (hparity : (s.page x).parityOk = true)
    (h : s.sweep.predecessor = none ∨ ∃ p, s.sweep.predecessor = some p ∧ s.recordAt x p ≠ none) :
    s.retireValid r = s.freeRecord r := by
  unfold State.retireValid
  obtain hnone | ⟨p, hp, hat⟩ := h
  · rw [hnone]
  · obtain ⟨y, hy⟩ := Option.ne_none_iff_exists'.1 hat
    rw [hp, hpage]
    dsimp only
    rw [checkPage_sound hparity, checkRecs_all hrecords, hy]

theorem retireValid_moved (hrecords : ∀ y, (s.record y).parityOk = true) (hpage : (s.record r).pageIndex = some x)
    (hparity : (s.page x).parityOk = true) (hp : s.sweep.predecessor = some p) (hat : s.recordAt x p = none) :
    s.retireValid r = s.relabel r p := by
  unfold State.retireValid
  rw [hp, hpage]
  dsimp only
  rw [checkPage_sound hparity, checkRecs_all hrecords, hat]
  unfold State.moveTo
  rw [checkRecs_all hrecords]

/-- Record `r` goes from slot `q`'s journal to the tail of slot `p`'s. -/
theorem relabel_spec (h : Threaded s r x q) (hpq : p ≠ q) (htail : s.journalLink (s.slot p).tail ≠ some r) :
    ∃ records slots,
    s.relabel r p = { s with records := records, slots := slots, sweep := (s.sweepPast r).sweep } ∧
    (∀ y, records.get .freed y = if y = r then
        { s.record r with slot := some p, jOlder := s.journalLink (s.slot p).tail, jNewer := none }
      else { unjournaled s r y with
        jNewer := if s.journalLink (s.slot p).tail = some y then some r else (unjournaled s r y).jNewer }) ∧
    ∀ j, slots.get .freed j = if j = q then slotAfter s r q else if j = p then { s.slot p with
        head := if s.journalLink (s.slot p).tail = none then some r else (s.slot p).head, tail := some r
        count := (s.slot p).count + 1 } else s.slot j := by
  obtain ⟨records, slots, hremove, hrec, hslots⟩ := journalRemove_spec (slotOf_threaded h) h.journal h.records
  unfold State.relabel
  rw [hremove]
  generalize hu : ({ s with records := records, slots := slots, sweep := (s.sweepPast r).sweep } : State) = u
  have hrecord : ∀ y, u.record y = unjournaled s r y := by rw [← hu]; exact hrec
  have hslot : ∀ j, u.slot j = if j = q then slotAfter s r q else s.slot j := by rw [← hu]; exact hslots
  have hlink : u.journalLink (u.slot p).tail = s.journalLink (s.slot p).tail := by
    rw [hslot, if_neg hpq]
    exact journalLink_congr_state (fun y => by rw [hrecord]; rfl) _
  have hfilter : (u.journalLink (u.slot p).tail).filter (fun y => y != r) = s.journalLink (s.slot p).tail := by
    rw [hlink]
    cases hy : s.journalLink (s.slot p).tail with
    | none => rfl
    | some y =>
      have hne : y ≠ r := fun he => htail (by rw [hy, he])
      simp [hne]
  obtain ⟨records', slots', happend, hrec', hslots'⟩ := journalAppend_link
    (fun y => by rw [hrecord]; exact h.records y) hfilter
  refine ⟨records', slots', ?_, fun y => (hrec' y).trans ?_, fun j => (hslots' j).trans ?_⟩
  · rw [happend, ← hu]
  · rw [hrecord, hrecord]
    rfl
  · rw [hslot, if_neg hpq, hslot]
    by_cases hj : j = p
    · rw [if_pos hj, if_neg (c := j = q) (by rw [hj]; exact hpq), if_pos hj]
    · rw [if_neg hj, if_neg hj]

end Sys2Proof.Machine.State

namespace Sys2Proof.Proofs

open Sys2Proof.Machine Sys2Proof.Machine.State

section
variable {s : State} {c : Instr} {r x q n z e p : Nat}

/-- A walk that frees every VALID record. -/
theorem exec_freeingWalk (hc : freeingWalk s c) (h : OnWalk s r) (hstate : (s.record r).state = .valid)
    (hthreaded : Threaded s r x q) : exec c s = .next (s.freeRecord r).finish := by
  rcases hc with ⟨rfl, hkind, -⟩ | ⟨rfl, hkind, -, hpred⟩ | ⟨rfl, hkind, hphase, hpred⟩
  · rw [exec_commitWalkStep hkind h, commitStep_valid h hstate]
  · rw [exec_discardWalkStep hkind h, retireStep_valid h hstate,
      retireValid_freed h.records hthreaded.page hthreaded.entry (.inl hpred)]
  · rw [exec_mergeWalkStep hkind hphase h, retireStep_valid h hstate,
      retireValid_freed h.records hthreaded.page hthreaded.entry (.inl hpred)]

theorem freeingWalk_phase (hc : freeingWalk s c) : s.sweep.phase ≠ .restore := by
  rcases hc with ⟨-, -, hphase⟩ | ⟨-, -, hphase, -⟩ | ⟨-, -, hphase, -⟩ <;> rw [hphase] <;> exact nofun

theorem restoring_of_phase (hphase : s.sweep.phase ≠ .restore) : s.restoring = false := by
  unfold State.restoring
  simp [hphase]

/-- A walk into a predecessor. -/
theorem exec_retiringWalk (hc : (c = .discardWalkStep ∧ s.sweep.kind = .discard ∧ s.sweep.phase = .walk) ∨
      (c = .mergeWalkStep ∧ s.sweep.kind = .rollback ∧ s.sweep.phase = .merge)) (h : OnWalk s r)
    (hstate : (s.record r).state = .valid) :
    exec c s = .next (s.retireValid r).finish ∧ s.sweep.phase ≠ .restore := by
  rcases hc with ⟨rfl, hkind, hphase⟩ | ⟨rfl, hkind, hphase⟩
  · rw [exec_discardWalkStep hkind h, retireStep_valid h hstate]
    exact ⟨rfl, by rw [hphase]; exact nofun⟩
  · rw [exec_mergeWalkStep hkind hphase h, retireStep_valid h hstate]
    exact ⟨rfl, by rw [hphase]; exact nofun⟩

/-- A record freed by a walk outside a restore, with no write in FRAME_WAIT. -/
theorem freeRecord_byWalk (hsettled : s.Settled) (h : OnWalk s r) (hthreaded : Threaded s r x q)
    (hjob : s.namesJob r = false) (hphase : s.sweep.phase ≠ .restore) (hwait : s.pool.wait = []) :
    ∃ t, (s.freeRecord r).finish = t ∧ freedByWalk s t r x q (s.walkPast r).sweep := by
  obtain ⟨v, hfree, hv⟩ := freeRecord_freed hthreaded hjob
  have hsweep : v.sweep = (s.walkPast r).sweep := by
    rw [← sweepPast_of_walk hphase h.cursor, hv.rest]
  have hfollows : sweepFollows s v r := sweepPast_follows (by rw [hv.rest])
  have hvsettled := hv.settled hsettled
  rw [hfree, returnFrame_noWaiter (by rw [hv.rest]; exact hthreaded.allocated) (by rw [hv.rest]; exact hwait)]
  refine ⟨_, finish_settled (hvsettled.congr rfl (fun _ => rfl) rfl rfl rfl rfl rfl), hv.records, hfollows, hv.page, hv.slot, ?_⟩
  have hpool : v.pool = s.pool := by rw [hv.rest]
  rw [← hsweep, hpool]
  conv_lhs => rw [hv.rest]
  rw [show (s.sweepPast r).sweep = v.sweep by rw [hv.rest]]
  rfl

end

end Sys2Proof.Proofs
end

section
/-! A walk's freed frame that serves the write in FRAME_WAIT, and the walks' outcomes together (O56). -/

namespace Sys2Proof.Proofs

open Sys2Proof.Machine Sys2Proof.Machine.State

section
variable {s : State} {c : Instr} {r x q n z e p : Nat} (hsettled : s.Settled) (h : OnWalk s r)
  (hthreaded : Threaded s r x q) (hjob : s.namesJob r = false) (hphase : s.sweep.phase ≠ .restore)
  (hwaits : WaitsForFrame s n z)
include hsettled h hthreaded hjob hphase hwaits

/-- A freed frame passes on from a write that passes on its own. -/
theorem freeRecord_passes (hup : s.mem.up = true)
    (hpasses : s.ctl.state = .degraded ∨ s.effective (s.entry n).stamp = none) :
    ∃ t, (s.freeRecord r).finish = t ∧ freedRecords s t r x ∧ sweepFollows s t r ∧
      entriesAre s t n (issuedAgain (s.entry n)) ∧
      (∀ j, t.page j = { s.page j with
        chainHead := if j = x then headAfter s r x else (s.page j).chainHead
        waitHead := if j = z then none else (s.page j).waitHead
        waitTail := if j = z then none else (s.page j).waitTail }) ∧
      (∀ j, t.slot j = if j = q then slotAfter s r q else s.slot j) ∧
      t = { s with
        records := t.records, pst := t.pst, slots := t.slots, entries := t.entries
        tags := s.tags.set .idle n (queuedAgain s n)
        mem := { s.mem with takeList := s.mem.takeList ++ [n], sendQueue := s.mem.sendQueue ++ [n] }
        pool := { s.pool with free := s.pool.free ++ [r], wait := [] }, sweep := (s.walkPast r).sweep } := by
  obtain ⟨v, hfree, hv⟩ := freeRecord_freed hthreaded hjob
  have hsource : v.restoring = false := hv.restoring.trans (restoring_of_phase hphase)
  obtain ⟨entries, pst, hreturn, hentries, hpst⟩ := returnFrame_passes (v := v) (r := r) (hv.waits hwaits)
    (by rw [hv.rest]; exact hthreaded.allocated) hsource (by rw [hv.rest]; exact hup)
    (by rw [hv.effective]; rw [hv.rest]; exact hpasses)
  have hentry : ∀ m, v.entry m = s.entry m := fun m => by rw [hv.rest]; rfl
  have hvsettled := hv.settled hsettled
  have hbusy : (entries.get .freed n).state ≠ .free := by
    rw [hentries, if_pos rfl]
    exact nofun
  rw [hfree, hreturn]
  refine ⟨_, finish_busy (n := n) (by exact ArbiterIdle.congr hvsettled.arbiter rfl rfl rfl rfl rfl)
    (by exact hvsettled.due) hwaits.number (by exact hbusy), hv.records, sweepPast_follows (by rw [hv.rest]), fun m => (hentries m).trans ?_, fun j => (hpst j).trans ?_,
    hv.slot, ?_⟩
  · rw [hentry, hentry]
  · rw [hv.page, hv.page]
    by_cases hj : j = z
    · rw [if_pos hj, if_pos hj, if_pos hj, hj]
      by_cases hz : z = x
      · rw [if_pos hz, if_pos hz, hz]
      · rw [if_neg hz, if_neg hz]
    · rw [if_neg hj, if_neg hj, if_neg hj]
      by_cases hx : j = x
      · rw [if_pos hx, if_pos hx, hx]
      · rw [if_neg hx, if_neg hx]
  · rw [← sweepPast_of_walk hphase h.cursor]
    have hqueued : queuedAgain v n = queuedAgain s n := by rw [hv.rest]; rfl
    rw [hqueued]
    conv_lhs => rw [hv.rest]

omit hwaits

/-- A freed frame saves the page of the write in FRAME_WAIT, which has no record. -/
theorem freeRecord_preserves {tail : Option Nat} (hwaits : WaitsForFrame s n z) (hctl : s.ctl.state ≠ .degraded)
    (heffective : s.effective (s.entry n).stamp = some e) (heq : e ≠ q) (hhead : (s.page z).chainHead = none)
    (htail : tail = s.journalLink (s.slot e).tail) (hne : tail ≠ some r) (hidle : s.idleChannel = none)
    (hqueue : s.wp.queue.length < 128) : ∃ t, (s.freeRecord r).finish = t ∧ sweepFollows s t r ∧
      entriesAre s t n { s.entry n with state := .held, heldOn := some (.record r) } ∧
      t.record r = ⟨.copying, some z, some (pageOf (s.entry n).address), some e, none, tail, none, false, true⟩ ∧
      (∀ y, y ≠ r → t.record y = { s.record y with
        older := if ((s.chain x).takeWhile (· != r)).getLast? = some y then olderBorneOut s r x else (s.record y).older
        jNewer := if tail = some y then some r
          else if olderLink s r = some y then newerLink s r
          else (s.record y).jNewer
        jOlder := if newerLink s r = some y then olderLink s r
          else (s.record y).jOlder }) ∧
      (∀ j, t.page j = if j = z then { s.page z with chainHead := some r }
        else if j = x then { s.page x with chainHead := headAfter s r x } else s.page j) ∧
      (∀ j, t.slot j = if j = q then slotAfter s r q
        else if j = e then { s.slot e with
          head := if tail = none then some r else (s.slot e).head, tail := some r, count := (s.slot e).count + 1 }
        else s.slot j) ∧
      t = { s with
        records := t.records, pst := t.pst, slots := t.slots, entries := t.entries
        activity := counted s (s.entry n).window fun a => { a with preserves := satInc a.preserves }
        wp := { s.wp with queue := s.wp.queue ++
          [⟨.preservation, r, pageOf (s.entry n).address, s.pool.base.toNat + r, false⟩] }
        port := { s.port with intake := if s.port.intake = .closed then .closing else s.port.intake }
        pool := { s.pool with wait := [] }, sweep := (s.walkPast r).sweep
        mgmt := if s.pool.free.length < s.pool.lowWater.toNat then
            { s.mgmt with flags := s.mgmt.flags ||| BitVec.twoPow 21 7 } else s.mgmt } := by
  obtain ⟨v, hfree, hv⟩ := freeRecord_freed hthreaded hjob
  have hsource : v.restoring = false := hv.restoring.trans (restoring_of_phase hphase)
  have hzx : z ≠ x := by
    rintro rfl
    have hmem := hthreaded.chain
    rw [chain_of_noHead hhead] at hmem
    cases hmem
  have hentry : ∀ m, v.entry m = s.entry m := fun m => by rw [hv.rest]; rfl
  have hpage : v.page z = s.page z := (hv.page z).trans (if_neg hzx)
  have hslote : v.slot e = s.slot e := (hv.slot e).trans (if_neg heq)
  have hlink : v.journalLink (v.slot e).tail = tail := by
    rw [hslote, htail]
    rw [htail] at hne
    cases hy : (s.slot e).tail with
    | none => rfl
    | some y =>
      rw [hy] at hne
      by_cases hyr : y = r
      · subst hyr
        rw [journalLink_free hv.free]
        unfold State.journalLink at hne ⊢
        dsimp only at hne ⊢
        split at hne
        · exact absurd rfl hne
        next hfreed => rw [if_neg hfreed]
      · unfold State.journalLink
        dsimp only
        rw [hv.records, if_neg hyr]
  have hvsettled := hv.settled hsettled
  obtain ⟨records, slots, halloc, hrec, hslots⟩ := allocate_fresh (s := waitTaken v) (p := z) (r := r) (n := n) (x := e)
    (e := s.entry n) (by exact hv.sound h.records) (show (v.page z).chainHead = none by rw [hpage]; exact hhead)
    (by exact hv.free) (by exact hentry n) (by rw [show (waitTaken v).wp = s.wp by rw [hv.rest]; rfl]; exact hqueue)
  have hlink' : (waitTaken v).journalLink ((waitTaken v).slot e).tail = tail := hlink
  rw [hlink'] at hrec hslots
  have hbusy : ((((waitTaken v).entries.set .freed n
      { s.entry n with state := .held, heldOn := some (.record r) })).get .freed n).state ≠ .free := by
    rw [Table.get_set_same]
    exact nofun
  have hchannel : v.idleChannel = none := by
    rw [hv.rest]
    exact (idleChannel_congr (s := s) rfl rfl).trans hidle
  rw [hfree, returnFrame_taken (hv.waits hwaits) (by rw [hv.rest]; exact hthreaded.allocated) hsource
    (by rw [hv.rest]; exact hctl) (by rw [hv.effective, hentry]; exact heffective) (by rw [hpage]; exact hhead)
    (hv.sound h.records), halloc]
  refine ⟨_, finish_busy (n := n) (by exact .inl ((idleChannel_congr (s := v) rfl rfl).trans hchannel))
    (by exact hvsettled.due) hwaits.number (by exact hbusy), sweepPast_follows (by rw [show (waitTaken v).sweep = v.sweep from rfl, hv.rest]),
    fun m => (Table.get_set ..).trans ?_, (hrec r).trans (if_pos rfl),
    fun y hy => (hrec y).trans ?_, fun j => (Table.get_set ..).trans ?_, fun j => (hslots j).trans ?_, ?_⟩
  · rw [show (waitTaken v).entries.get .freed m = v.entry m from rfl, hentry]
  · rw [if_neg hy, show (waitTaken v).record y = v.record y from rfl, hv.records, if_neg hy]
  · rw [show (waitTaken v).page z = v.page z from rfl, hpage, ← hwaits.parity,
      show (waitTaken v).pst.get .clear j = v.page j from rfl, hv.page]
  · rw [show (waitTaken v).slot e = v.slot e from rfl, hslote, show (waitTaken v).slot j = v.slot j from rfl, hv.slot]
    by_cases hj : j = e
    · rw [if_pos hj, if_neg (c := j = q) (by rw [hj]; exact heq), if_pos hj]
    · rw [if_neg hj, if_neg hj]
  · rw [← sweepPast_of_walk hphase h.cursor]
    unfold lowFlags workNoted waitTaken
    dsimp only
    rw [show v.entries = s.entries by rw [hv.rest]]
    conv_lhs => rw [hv.rest]
    rfl

end

/-- A walk relabels the record to its predecessor. -/
theorem relabel_byWalk {s : State} {r x q p : Nat} (hsettled : s.Settled) (h : OnWalk s r) (hthreaded : Threaded s r x q)
    (hphase : s.sweep.phase ≠ .restore) (hpq : p ≠ q) (htail : s.journalLink (s.slot p).tail ≠ some r) :
    ∃ t, (s.relabel r p).finish = t ∧ sweepFollows s t r ∧
      (∀ y, t.record y = if y = r then
          { s.record r with slot := some p, jOlder := s.journalLink (s.slot p).tail, jNewer := none }
        else { s.record y with
          jNewer := if s.journalLink (s.slot p).tail = some y then some r
            else if olderLink s r = some y then newerLink s r
            else (s.record y).jNewer
          jOlder := if newerLink s r = some y then olderLink s r
            else (s.record y).jOlder }) ∧
      (∀ j, t.slot j = if j = q then slotAfter s r q
        else if j = p then { s.slot p with
          head := if s.journalLink (s.slot p).tail = none then some r else (s.slot p).head, tail := some r
          count := (s.slot p).count + 1 }
        else s.slot j) ∧
      t = { s with records := t.records, slots := t.slots, sweep := (s.walkPast r).sweep } := by
  obtain ⟨records, slots, hrelabel, hrec, hslots⟩ := relabel_spec hthreaded hpq htail
  obtain ⟨-, -, hdemand, hoffer⟩ := s.sweepPast_kept r
  rw [hrelabel, ← sweepPast_of_walk hphase h.cursor]
  exact ⟨_, finish_settled (hsettled.congr rfl (fun _ => rfl) rfl rfl hdemand hoffer rfl), sweepPast_follows rfl, hrec,
    hslots, rfl⟩

/-- Settles O56: the record freed, its frame returned or passed on, or the record relabelled. -/
theorem walksFreeOrRelabel : Obligations.WalksFreeOrRelabel := by
  intro s c r x q hsettled h hstate hthreaded hjob
  refine ⟨fun hc hwait => ?_, fun n z hc hwaits hup hpasses => ?_,
    fun n z e tail hc hwaits hctl heffective heq hhead htail hne hidle hqueue => ?_, fun p tail hc hp hpq htail hne => ?_⟩
  · obtain ⟨t, ht, hspec⟩ := freeRecord_byWalk hsettled h hthreaded hjob (freeingWalk_phase hc) hwait
    exact ⟨t, (exec_freeingWalk hc h hstate hthreaded).trans (congrArg _ ht), hspec⟩
  · obtain ⟨t, ht, hspec⟩ := freeRecord_passes hsettled h hthreaded hjob (freeingWalk_phase hc) hwaits hup hpasses
    exact ⟨t, (exec_freeingWalk hc h hstate hthreaded).trans (congrArg _ ht), hspec⟩
  · obtain ⟨t, ht, hspec⟩ := freeRecord_preserves hsettled h hthreaded hjob (freeingWalk_phase hc) hwaits hctl heffective heq
      hhead htail hne hidle hqueue
    exact ⟨t, (exec_freeingWalk hc h hstate hthreaded).trans (congrArg _ ht), hspec⟩
  · obtain ⟨hexec, hphase⟩ := exec_retiringWalk hc h hstate
    refine ⟨fun hsaved hwait => ?_, fun hunsaved => ?_⟩
    · obtain ⟨t, ht, hspec⟩ := freeRecord_byWalk hsettled h hthreaded hjob hphase hwait
      rw [hexec, retireValid_freed h.records hthreaded.page hthreaded.entry (.inr ⟨p, hp, recordAt_isSome.2 hsaved⟩)]
      exact ⟨t, congrArg _ ht, hspec⟩
    · have hat : s.recordAt x p = none := by
        by_contra hat
        obtain ⟨y, hy, hslot⟩ := recordAt_isSome.1 hat
        exact hunsaved y hy hslot
      subst htail
      obtain ⟨t, ht, hspec⟩ := relabel_byWalk hsettled h hthreaded hphase hpq hne
      rw [hexec, retireValid_moved h.records hthreaded.page hthreaded.entry hp hat]
      exact ⟨t, congrArg _ ht, hspec⟩

end Sys2Proof.Proofs
end

section
/-! The end of a record that a sweep may wait for, and a restore's fault (R42, R94, R99). -/

namespace Sys2Proof.Machine.State

variable {s t v : State} {r x q g p : Nat}

/-- Of the sweep engine a record's removal moves the place in the walk, the walk order and the boundary. -/
theorem sweepPast_place (s : State) (r : Nat) : ∃ cursor walkSlot walked order boundary, (s.sweepPast r).sweep =
    { s.sweep with cursor := cursor, walkSlot := walkSlot, walked := walked, order := order, boundary := boundary } := by
  have hmoved : ∃ cursor walkSlot walked, (s.movedPast r).sweep =
      { s.sweep with cursor := cursor, walkSlot := walkSlot, walked := walked } := by
    unfold movedPast State.walkPast
    split
    · split <;> exact ⟨_, _, _, rfl⟩
    · exact ⟨_, _, _, rfl⟩
  obtain ⟨cursor, walkSlot, walked, hmoved⟩ := hmoved
  rw [sweepPast_sweep]
  split
  · exact ⟨cursor, walkSlot, walked, _, _, by rw [hmoved]⟩
  · exact ⟨cursor, walkSlot, walked, _, _, hmoved⟩

theorem sweepPast_waitingOn (s : State) (r : Nat) : (s.sweepPast r).sweep.waitingOn = s.sweep.waitingOn := by
  obtain ⟨_, _, _, _, _, h⟩ := s.sweepPast_place r
  rw [h]

theorem sweepPast_report (s : State) (r : Nat) : (s.sweepPast r).sweep.report = s.sweep.report := by
  obtain ⟨_, _, _, _, _, h⟩ := s.sweepPast_place r
  rw [h]

/-- A sweep that does not wait for the record keeps its place as the removal leaves it. -/
theorem sweepFreed_of_waits (h : s.sweep.waitingOn ≠ some r) : sweepFreed s r = (s.sweepPast r).sweep := by
  unfold sweepFreed
  rw [if_neg h, ← sweepPast_waitingOn]

theorem sweepFollows_congr (h : sweepFollows s v r) (hcursor : t.sweep.cursor = v.sweep.cursor)
    (hboundary : t.sweep.boundary = v.sweep.boundary) (horder : t.sweep.order = v.sweep.order) : sweepFollows s t r := by
  unfold sweepFollows
  rw [hcursor, hboundary, horder]
  exact h

theorem stopWaiting_spec (s : State) (r : Nat) : s.stopWaiting r = s.setSweep
    { s.sweep with waitingOn := if s.sweep.waitingOn = some r then none else s.sweep.waitingOn } := by
  unfold State.stopWaiting
  split <;> rfl

/-- A record freed at the end of its copy, with no write in FRAME_WAIT. -/
theorem freeRecord_stopped (h : Threaded s r x q) (hjob : s.namesJob r = false) (hwait : s.pool.wait = []) :
    ∃ t, (s.freeRecord r).stopWaiting r = t ∧ freedRecords s t r x ∧ sweepFollows s t r ∧
    (∀ j, t.page j = if j = x then { s.page x with chainHead := headAfter s r x } else s.page j) ∧
    (∀ j, t.slot j = if j = q then slotAfter s r q else s.slot j) ∧
    t = { s with
      records := t.records, pst := t.pst, slots := t.slots
      pool := { s.pool with free := s.pool.free ++ [r] }, sweep := sweepFreed s r } := by
  obtain ⟨t, ht, hrec, hpage, hslot, hrest⟩ := freeRecord_spec h hjob hwait
  have hsweep : t.sweep = (s.sweepPast r).sweep := by rw [hrest]
  have hstopped : ({ t.sweep with waitingOn := if t.sweep.waitingOn = some r then none else t.sweep.waitingOn } : Sweep) =
      sweepFreed s r := by
    rw [hsweep, sweepPast_waitingOn]
    rfl
  have hfollows := sweepPast_follows hsweep
  rw [ht, stopWaiting_spec, hstopped]
  refine ⟨_, rfl, hrec, ?_, hpage, hslot, ?_⟩
  · exact sweepFollows_congr hfollows (by rw [hsweep]; rfl) (by rw [hsweep]; rfl) (by rw [hsweep]; rfl)
  · conv_lhs => rw [hrest]
    rfl

/-- A failed restore of page number `g` as the report, the fault list and the first-error record note it. -/
theorem restoreFault_spec (s : State) (g : Nat) : s.restoreFault (some g) = { s with
    sweep := pageFaulted s.sweep g
    mgmt := reported s.mgmt 10 .copy none (some (addrAt g 0)) (s.windowOf g) } := by
  have happend : s.appendFault (some g) = s.setSweep { s.sweep with
      faultList := if s.sweep.faultList.length < 16 then s.sweep.faultList ++ [g] else s.sweep.faultList
      faultOverflow := s.sweep.faultOverflow || decide (16 ≤ s.sweep.faultList.length)
      faultCount := satInc s.sweep.faultCount } := by
    unfold State.appendFault
    dsimp only
    by_cases hroom : s.sweep.faultList.length < 16
    · refine (if_pos (by exact hroom)).trans ?_
      rw [if_pos hroom, decide_eq_false (Nat.not_le.2 hroom), Bool.or_false]
      rfl
    · refine (if_neg (by exact hroom)).trans ?_
      rw [if_neg hroom, decide_eq_true (Nat.not_lt.1 hroom), Bool.or_true]
      rfl
  unfold State.restoreFault State.captureCopy
  rw [happend]
  exact capture_raise { s with sweep := pageFaulted s.sweep g } .restoreFault .copy none (some (addrAt g 0)) (s.windowOf g)

theorem heldForDemand_congr (hentries : t.entries = s.entries) (hhead : (t.page p).waitHead = (s.page p).waitHead) :
    t.heldForDemand p = s.heldForDemand p := by
  unfold State.heldForDemand
  rw [hhead, show t.entry = s.entry by unfold State.entry; rw [hentries]]

theorem redecideDemand_none (hparity : (s.page p).parityOk = true) (h : s.heldForDemand p = false) :
    s.redecideDemand (some p) = s := by
  unfold State.redecideDemand
  dsimp only
  rw [checkPage_sound hparity]
  exact if_neg (by rw [h]; exact nofun)

end Sys2Proof.Machine.State
end

section
/-! The restore walk (O59): what it passes over, releases, refuses and offers. -/

namespace Sys2Proof.Machine.State

variable {s t : State} {r x q g c o : Nat}

/-- The restore walk treats what is not VALID as the other walks do. -/
theorem restoreStep_eq (h : OnWalk s r) (hstate : (s.record r).state ≠ .valid) : s.restoreStep r = s.retireStep r := by
  unfold State.restoreStep State.retireStep
  rw [checkRec_all h.records]
  dsimp only
  split
  · rfl
  · cases hr : (s.record r).state with
    | valid => exact absurd hr hstate
    | copying => rfl
    | restoring => rfl
    | free => rfl

theorem restoreStep_valid (h : OnWalk s r) (hstate : (s.record r).state = .valid) : s.restoreStep r = s.restoreValid r := by
  unfold State.restoreStep
  rw [checkRec_all h.records]
  dsimp only
  rw [if_neg (by rw [onWalk_eq_true h (by rw [hstate]; exact nofun)]; exact nofun), hstate]

/-! ## A VALID record -/

section
variable (hrecords : ∀ y, (s.record y).parityOk = true) (hpage : (s.record r).pageIndex = some x)
  (hparity : (s.page x).parityOk = true)
include hrecords hpage hparity

/-- The restore walk's treatment of a record in sound tables. -/
theorem restoreValid_sound : s.restoreValid r =
    if s.isSource r = false ∧ (s.record r).suspect = false then s.passOver r
    else if s.oldestSource x ≠ none ∧ s.oldestSource x ≠ some r then s.releaseSource r
    else if (s.record r).suspect = true then s.restoreFailure r
    else (s.setSweep { s.sweep with offer := some r }).noteWork := by
  unfold State.restoreValid
  rw [hpage]
  dsimp only
  rw [checkPage_sound hparity, checkRecs_all hrecords, hpage]
  rfl

theorem restoreValid_failed (holdest : s.oldestSource x = some r) (hsuspect : (s.record r).suspect = true) :
    s.restoreValid r = s.restoreFailure r := by
  rw [restoreValid_sound hrecords hpage hparity, if_neg (by rw [hsuspect]; exact fun h => nomatch h.2),
    if_neg fun h => h.2 holdest, if_pos hsuspect]

theorem restoreValid_released (hsource : r ∈ s.sources x) (holdest : s.oldestSource x = some o) (hne : o ≠ r) :
    s.restoreValid r = s.releaseSource r := by
  have his : s.isSource r = true := (List.mem_filter.1 hsource).2
  rw [restoreValid_sound hrecords hpage hparity, if_neg (by rw [his]; exact fun h => nomatch h.1), if_pos]
  rw [holdest]
  exact ⟨nofun, fun h => hne (Option.some.inj h)⟩

theorem restoreValid_offered (holdest : s.oldestSource x = some r) (hsuspect : (s.record r).suspect = false) :
    s.restoreValid r = { s with port := s.workNoted, sweep := { s.sweep with offer := some r } } := by
  have hsource : r ∈ s.sources x := List.mem_of_getLast? holdest
  have his : s.isSource r = true := (List.mem_filter.1 hsource).2
  rw [restoreValid_sound hrecords hpage hparity, if_neg (by rw [his]; exact fun h => nomatch h.1),
    if_neg fun h => h.2 holdest, if_neg (by rw [hsuspect]; exact nofun), noteWork_eq]
  rfl

end

/-! ## The restore on offer, taken (R92, R130) -/

/-- A walk goes on alike where the same records are FREE and the links are the same. -/
theorem walkPast_congr (hfree : ∀ y, (t.record y).state = .free ↔ (s.record y).state = .free)
    (hnewer : ∀ y, (t.record y).jNewer = (s.record y).jNewer) (holder : ∀ y, (t.record y).jOlder = (s.record y).jOlder)
    (hslots : t.slots = s.slots) (hsweep : t.sweep = s.sweep) (r : Nat) :
    (t.walkPast r).sweep = (s.walkPast r).sweep := by
  have hlink : ∀ o, t.journalLink o = s.journalLink o := fun o => by
    unfold State.journalLink
    simp only [ne_eq, hfree]
  have hto : t.walkTo r = s.walkTo r := by
    unfold State.walkTo State.walkNext State.walkLink
    rw [hlink, hsweep, hnewer, holder]
  have hstart : t.walkStart = s.walkStart := by
    funext e
    unfold State.walkStart
    rw [hlink, hsweep, slot_congr hslots]
  unfold State.walkPast
  rw [hto]
  split
  · rw [hsweep]
    rfl
  · show ({ t.sweep with cursor := _, walkSlot := _, walked := _ } : Sweep) = _
    unfold State.laterSlots
    rw [hsweep, hstart]
    rfl

/-- The job that restores page number `g` from record `r`. -/
def restoreJob (s : State) (r g : Nat) : Job := ⟨.restore, r, s.pool.base.toNat + r, g, false⟩

/-- A channel takes the restore on offer: the record is RESTORING, and the walk goes on past it. -/
theorem takeOffer_valid {port : RequestPort} (hrecords : ∀ y, (s.record y).parityOk = true)
    (hstate : (s.record r).state = .valid) (hoffer : s.sweep.offer = none)
    (hsuspect : (s.record r).suspect = false) (hnumber : (s.record r).pageNumber = some g) : ∃ records,
    State.takeOffer c r { s with port := port, sweep := { s.sweep with offer := some r } } =
      State.startJob c (s.restoreJob r g) { s with records := records, port := port, sweep := (s.walkPast r).sweep } ∧
    ∀ y, records.get .freed y = if y = r then { s.record r with state := .restoring } else s.record y := by
  generalize hrecs : s.records.set .freed r { s.record r with state := .restoring, parityOk := true } = records
  have hrecord : ∀ y, records.get .freed y = if y = r then { s.record r with state := .restoring } else s.record y := by
    rw [← hrecs]
    exact putRec_sound (s := s) (v := { s.record r with state := .restoring }) (hrecords r)
  generalize hv : ({ s with records := records, port := port } : State) = v
  have hvrecord : ∀ y, v.record y = if y = r then { s.record r with state := .restoring } else s.record y := by
    rw [← hv]
    exact hrecord
  have hsound : ∀ y, (v.record y).parityOk = true := fun y => by
    rw [hvrecord]
    split
    · exact hrecords r
    · exact hrecords y
  have hvsweep : v.sweep = s.sweep := by rw [← hv]
  have hwalk : (v.walkPast r).sweep = (s.walkPast r).sweep := by
    refine walkPast_congr (fun y => ?_) (fun y => ?_) (fun y => ?_) (by rw [← hv]) hvsweep r
    · rw [hvrecord]
      split
      next hy => rw [hy, hstate]; exact ⟨nofun, nofun⟩
      · rfl
    · rw [hvrecord]
      split
      next hy => rw [hy]
      · rfl
    · rw [hvrecord]
      split
      next hy => rw [hy]
      · rfl
  have hnone : ({ s.sweep with offer := none } : Sweep) = s.sweep := by rw [← hoffer]
  have hstart : State.startRestore c r { s with port := port, sweep := { s.sweep with offer := some r } } =
      State.startJob c ⟨.restore, r, (v.passOver r).framePage r, ((v.passOver r).record r).pageNumber.getD 0, false⟩
        (v.passOver r) := by
    unfold State.startRestore
    dsimp only
    rw [if_pos (by rfl)]
    have hputs : (State.putRec r { s.record r with state := .restoring }
        { s with port := port, sweep := { s.sweep with offer := some r } }).setSweep { s.sweep with offer := none } = v := by
      rw [hnone, ← hv, ← hrecs]
      rfl
    exact congrArg (fun u : State => State.startJob c
      ⟨.restore, r, (State.passOver r u).framePage r, ((State.passOver r u).record r).pageNumber.getD 0, false⟩
        (State.passOver r u)) hputs
  refine ⟨records, ?_, hrecord⟩
  unfold State.takeOffer
  rw [checkRec_all (s := { s with port := port, sweep := { s.sweep with offer := some r } }) hrecords]
  dsimp only
  rw [if_pos (by exact hstate)]
  unfold State.takeTarget
  rw [if_neg (by exact ne_true_of_eq_false hsuspect), hstart, passOver_eq hsound,
    walkPast_eq, hwalk, show ((v.setSweep (s.walkPast r).sweep).record r).pageNumber = (v.record r).pageNumber from rfl,
    hvrecord, if_pos rfl, hnumber]
  subst hv
  rfl

end Sys2Proof.Machine.State
end

section
/-! RESTORE_WALK_STEP (O59). -/

namespace Sys2Proof.Proofs

open Sys2Proof.Machine Sys2Proof.Machine.State

section
variable {s : State} {r x q g c o : Nat}

theorem exec_restoreWalkStep (hkind : s.sweep.kind = .rollback) (hphase : s.sweep.phase = .restore)
    (hoffer : s.sweep.offer = none) (h : OnWalk s r) : exec .restoreWalkStep s = .next (s.restoreStep r).finish := by
  have hrestoring : s.restoring = true := by
    unfold State.restoring
    rw [hkind, hphase]
    rfl
  show execRestoreWalkStep s = _
  unfold execRestoreWalkStep
  rw [if_pos ⟨hrestoring, hoffer, h.waits⟩, h.cursor]

theorem exec_restoreWalkStep_stands (h : s.sweep.offer ≠ none ∨ s.sweep.waitingOn ≠ none) :
    exec .restoreWalkStep s = .next s :=
  if_neg fun ⟨_, hoffer, hwaits⟩ => h.elim (fun h => h hoffer) fun h => h hwaits

/-- The cursor's record is suspect: freed, with the steps of a failed restore. -/
theorem restoreFailure_walk (hsettled : s.Settled) (h : OnWalk s r) (hnumber : (s.record r).pageNumber = some g)
    (hthreaded : Threaded s r x q) (hjob : s.namesJob r = false) (hwait : s.pool.wait = [])
    (hheld : s.heldForDemand x = false) : ∃ t, (s.restoreFailure r).finish = t ∧
      freedRecords s t r x ∧ sweepFollows s t r ∧
      (∀ j, t.page j = if j = x then { s.page x with chainHead := headAfter s r x } else s.page j) ∧
      (∀ j, t.slot j = if j = q then slotAfter s r q else s.slot j) ∧
      t = { s with
        records := t.records, pst := t.pst, slots := t.slots, pool := { s.pool with free := s.pool.free ++ [r] }
        sweep := pageFaulted (s.sweepPast r).sweep g
        mgmt := reported s.mgmt 10 .copy none (some (addrAt g 0)) (s.windowOf g) } := by
  obtain ⟨v, hv, hrec, hfollows, hpage, hslot, hrest⟩ := freeRecord_stopped hthreaded hjob hwait
  have hsweep : v.sweep = (s.sweepPast r).sweep := by
    rw [← sweepFreed_of_waits (by rw [h.waits]; exact nofun), hrest]
  have hmgmt : reported v.mgmt 10 .copy none (some (addrAt g 0)) (v.windowOf g) =
      reported s.mgmt 10 .copy none (some (addrAt g 0)) (s.windowOf g) := by
    rw [hrest]
    rfl
  have hself := (hpage x).trans (if_pos rfl)
  have hhead : (v.page x).waitHead = (s.page x).waitHead := by rw [hself]
  obtain ⟨-, -, hdemand, hoffer⟩ := s.sweepPast_kept r
  have hfault : s.restoreFailure r = { v with
      sweep := pageFaulted (s.sweepPast r).sweep g
      mgmt := reported s.mgmt 10 .copy none (some (addrAt g 0)) (s.windowOf g) } := by
    unfold State.restoreFailure
    dsimp only
    rw [hv, hnumber, hthreaded.page, restoreFault_spec, hsweep, hmgmt]
    refine redecideDemand_none ?_ ?_
    · exact (congrArg PstEntry.parityOk hself).trans hthreaded.entry
    · exact (heldForDemand_congr (t := v) (s := s) (by rw [hrest]) hhead).trans hheld
  have hquiet : State.Settled { v with
      sweep := pageFaulted (s.sweepPast r).sweep g
      mgmt := reported s.mgmt 10 .copy none (some (addrAt g 0)) (s.windowOf g) } := by
    rw [hrest]
    exact hsettled.congr rfl (fun _ => rfl) rfl rfl hdemand hoffer rfl
  rw [hfault]
  refine ⟨_, finish_settled hquiet, hrec, sweepFollows_congr hfollows (by rw [hsweep]; rfl) (by rw [hsweep]; rfl)
    (by rw [hsweep]; rfl), hpage, hslot, ?_⟩
  conv_lhs => rw [hrest]

/-- A source that is not its page's oldest: freed without a copy, and counted. -/
theorem releaseSource_walk (hsettled : s.Settled) (hthreaded : Threaded s r x q) (hjob : s.namesJob r = false)
    (hwait : s.pool.wait = []) : ∃ t, (s.releaseSource r).finish = t ∧
      freedByWalk s t r x q { (s.sweepPast r).sweep with
        report := { s.sweep.report with released := s.sweep.report.released + 1#16 } } := by
  obtain ⟨v, hv, hrec, hpage, hslot, hrest⟩ := freeRecord_spec hthreaded hjob hwait
  have hsweep : v.sweep = (s.sweepPast r).sweep := by rw [hrest]
  have hreleased : s.releaseSource r = { v with sweep := { (s.sweepPast r).sweep with
      report := { s.sweep.report with released := s.sweep.report.released + 1#16 } } } := by
    unfold State.releaseSource State.editReport
    rw [hv, hsweep, sweepPast_report]
    rfl
  obtain ⟨-, -, hdemand, hoffer⟩ := s.sweepPast_kept r
  have hquiet : State.Settled { v with sweep := { (s.sweepPast r).sweep with
      report := { s.sweep.report with released := s.sweep.report.released + 1#16 } } } := by
    rw [hrest]
    exact hsettled.congr rfl (fun _ => rfl) rfl rfl hdemand hoffer rfl
  have hfollows := sweepPast_follows hsweep
  rw [hreleased]
  refine ⟨_, finish_settled hquiet, hrec, ?_, hpage, hslot, ?_⟩
  · exact sweepFollows_congr hfollows (by rw [hsweep]) (by rw [hsweep]) (by rw [hsweep])
  · conv_lhs => rw [hrest]

/-! ## An offer -/

/-- The state as the restore of record `r` is on offer. -/
def offered (s : State) (r : Nat) : State := { s with port := s.workNoted, sweep := { s.sweep with offer := some r } }

theorem emptyCondition_offered (s : State) (r : Nat) : (offered s r).emptyCondition = false := by
  refine emptyCondition_of_copyIdle ?_
  unfold State.copyIdle
  rw [show (offered s r).sweep.offer = some r from rfl]
  simp

/-- With no IDLE channel the offer stands. -/
theorem finish_offered_waits (hsettled : s.Settled) (hidle : s.idleChannel = none) :
    (offered s r).finish = offered s r := by
  rw [finish_eq (s := offered s r) (.inl ((idleChannel_congr (s := s) rfl rfl).trans hidle)) fun _ => emptyCondition_offered s r,
    sendCredits_none (by exact hsettled.due)]

/-- An IDLE channel takes the offer. -/
theorem finish_offered_taken (hsettled : s.Settled) (h : OnWalk s r) (hstate : (s.record r).state = .valid)
    (hoffer : s.sweep.offer = none) (hsuspect : (s.record r).suspect = false)
    (hnumber : (s.record r).pageNumber = some g) (hidle : s.idleChannel = some c) (hup : s.mem.up = true) :
    ∃ t, (offered s r).finish = t ∧
      (∀ y, t.record y = if y = r then { s.record r with state := .restoring } else s.record y) ∧
      jobStarted s t c (s.restoreJob r g) (s.freeTags c) ∧
      t = { s with
        records := t.records, channels := t.channels, copyTags := t.copyTags, tags := t.tags, mem := t.mem
        port := s.workNoted, sweep := (s.walkPast r).sweep } := by
  obtain ⟨hdemand, hqueue, -⟩ := hsettled.arbiter.resolve_left (by rw [hidle]; exact nofun)
  obtain ⟨records, htake, hrecord⟩ := takeOffer_valid (c := c) (port := s.workNoted) h.records hstate hoffer hsuspect hnumber
  obtain ⟨t, hstart, hjob, hspec⟩ := startJob_spec (c := c) (j := s.restoreJob r g)
    (s := { s with records := records, port := s.workNoted, sweep := (s.walkPast r).sweep }) hup (freeTags_of_idleChannel hidle)
  obtain ⟨hdemand', hoffer'⟩ := s.walkPast_copies r
  have hquiet : t.ArbiterIdle := by
    rw [hspec]
    exact arbiterIdle_of_empty hqueue (hdemand'.trans hdemand) (hoffer'.trans hoffer)
  have hone : (offered s r).arbitrate = t := by
    unfold State.arbitrate State.arbiterRounds
    rw [show (offered s r).wp.queue.length + (offered s r).wp.backlog.length + (offered s r).sweep.demand.length + 513 =
      ((offered s r).wp.queue.length + (offered s r).wp.backlog.length + (offered s r).sweep.demand.length + 512) + 1 from rfl,
      arbitrateFrom, (idleChannel_congr (s := s) (t := offered s r) rfl rfl).trans hidle]
    dsimp only
    rw [show (offered s r).sweep.demand = [] from hdemand]
    dsimp only
    rw [show (offered s r).wp.queue = [] from hqueue]
    dsimp only
    rw [show (offered s r).sweep.offer = some r from rfl]
    dsimp only
    rw [show (offered s r).takeOffer c r = t from htake.trans hstart, arbitrateFrom_idle hquiet]
  have hbusy : t.emptyCondition = false :=
    emptyCondition_of_copyIdle (copyIdle_of_job (j := s.restoreJob r g) (idleChannel_lt hidle)
      (by rw [hjob.1, if_pos rfl]))
  have hfinish : t.finish = t := by
    rw [finish_eq hquiet fun _ => hbusy, sendCredits_none]
    rw [hspec]
    exact hsettled.due
  have hstands : t.arbitrate = t := arbitrateFrom_idle hquiet _
  refine ⟨t, ?_, fun y => ?_, hjob, ?_⟩
  · unfold State.finish at hfinish ⊢
    rw [hone]
    rw [hstands] at hfinish
    exact hfinish
  · rw [hspec]
    exact hrecord y
  · rw [show t.records = records by rw [hspec]]
    exact hspec

end

/-- Settles O59, by the state of the cursor's record, and for a source by its place among its page's. -/
theorem restoreWalkOffersTheSource : Obligations.RestoreWalkOffersTheSource := by
  intro s r x q hsettled hkind hphase
  refine ⟨exec_restoreWalkStep_stands, fun hoffer h => ⟨fun hstate => ⟨?_, walkPast_cursor s r⟩, fun hstate => ?_,
      fun hstate => ⟨?_, Machine.State.nextJournal_cursor s⟩⟩,
    fun g hoffer h hstate hsuspect hnumber hthreaded holdest hjob hwait hheld => ?_,
    fun o hoffer h hstate hthreaded hsource holdest hne hjob hwait => ?_,
    fun hoffer h hstate hsuspect hpage hparity holdest => ?_⟩
  · rw [exec_restoreWalkStep hkind hphase hoffer h, restoreStep_eq h (by rw [hstate]; exact nofun),
      retireStep_restoring h hstate, finish_walkPast hsettled]
  · rw [exec_restoreWalkStep hkind hphase hoffer h, restoreStep_eq h (by rw [hstate]; exact nofun),
      retireStep_copying h hstate]
    exact congrArg Host.Outcome.next (finish_setSweep hsettled rfl rfl)
  · rw [exec_restoreWalkStep hkind hphase hoffer h, restoreStep_eq h (by rw [hstate]; exact nofun),
      retireStep_free h hstate, finish_nextJournal hsettled]
  · obtain ⟨t, ht, hspec⟩ := restoreFailure_walk hsettled h hnumber hthreaded hjob hwait hheld
    rw [exec_restoreWalkStep hkind hphase hoffer h, restoreStep_valid h hstate,
      restoreValid_failed h.records hthreaded.page hthreaded.entry holdest hsuspect]
    exact ⟨t, congrArg _ ht, hspec⟩
  · obtain ⟨t, ht, hspec⟩ := releaseSource_walk hsettled hthreaded hjob hwait
    rw [exec_restoreWalkStep hkind hphase hoffer h, restoreStep_valid h hstate,
      restoreValid_released h.records hthreaded.page hthreaded.entry hsource holdest hne]
    exact ⟨t, congrArg _ ht, hspec⟩
  · rw [exec_restoreWalkStep hkind hphase hoffer h, restoreStep_valid h hstate,
      restoreValid_offered h.records hpage hparity holdest hsuspect]
    refine ⟨fun hidle => congrArg _ (finish_offered_waits hsettled hidle), fun c g free hidle hup hnumber hfree => ?_⟩
    obtain ⟨t, ht, hrecord, hstarted, hspec⟩ :=
      finish_offered_taken hsettled h hstate hoffer hsuspect hnumber hidle hup
    subst hfree
    refine ⟨t, congrArg _ ht, hrecord, hstarted, ?_, hspec⟩
    rw [← Machine.State.walkPast_cursor]
    conv_lhs => rw [hspec]

end Sys2Proof.Proofs
end

section
/-! The copy engine's steps: a chunk's end, what it leaves of the channel, and the end of the step (R127 to R130). -/

namespace Sys2Proof.Machine.State

variable {s t v : State} {c k i : Nat} {j : Job} {data : List Byte}

/-! ## The owner of a channel's tag (R132) -/

theorem endTag_chunk (hk : 128 ≤ k) (e : ReqEnd) : s.endTag k e = State.endChunk k e (s.ended k (endedMem s k)) :=
  if_neg (by exact Nat.not_lt.2 hk)

theorem endError_chunk (hk : 128 ≤ k) : s.endError k = State.endChunk k .error (s.ended k (erredMem s k)) :=
  if_neg (by exact Nat.not_lt.2 hk)

theorem mem_chanTags_chanOf (hk : 128 ≤ k) : k ∈ chanTags (chanOf k) := by
  rw [mem_chanTags]
  unfold chanOf
  omega

theorem ne_of_not_mem_chanTags {x : Nat} (hk : 128 ≤ k) (h : x ∉ chanTags (chanOf k)) : x ≠ k := by
  rintro rfl
  exact h (mem_chanTags_chanOf hk)

/-! ## The arbiter's view of a channel that is not IDLE -/

theorem hasFreeTag_congr {d : Nat} (h : ∀ x, x ∈ chanTags d → t.copyTag x = s.copyTag x) : t.hasFreeTag d = s.hasFreeTag d := by
  rw [Bool.eq_iff_iff, State.hasFreeTag, State.hasFreeTag, List.any_eq_true, List.any_eq_true]
  refine exists_congr fun x => and_congr_right fun hx => ?_
  rw [h x hx]

theorem idleChannel_of_busy (hidle : s.idleChannel = none) (hchan : ∀ x, x ≠ c → t.chan x = s.chan x)
    (htag : ∀ x, x ∉ chanTags c → t.copyTag x = s.copyTag x) (hbusy : (t.chan c).state ≠ .idle) :
    t.idleChannel = none := by
  unfold State.idleChannel at hidle ⊢
  rw [List.find?_eq_none] at hidle ⊢
  intro d hd
  by_cases hdc : d = c
  · rw [hdc]
    simp [hbusy]
  · have hfree : t.hasFreeTag d = s.hasFreeTag d := by
      refine hasFreeTag_congr fun x hx => htag x fun hxc => hdc ?_
      rw [mem_chanTags] at hx hxc
      omega
    rw [hchan d hdc, hfree]
    exact hidle d hd

/-- The end of a step that has changed one channel, its job still in it. -/
theorem finish_channel (hsettled : s.Settled) (hc : c < 4) (hchan : ∀ x, x ≠ c → t.chan x = s.chan x)
    (htag : ∀ x, x ∉ chanTags c → t.copyTag x = s.copyTag x) (hbusy : (t.chan c).state ≠ .idle)
    (hjob : (t.chan c).job = some j) (hport : t.port = s.port) (hdemand : t.sweep.demand = s.sweep.demand)
    (hoffer : t.sweep.offer = s.sweep.offer) (hwp : t.wp = s.wp) : t.finish = t := by
  have hidle : t.ArbiterIdle := by
    refine hsettled.arbiter.imp (fun h => idleChannel_of_busy h hchan htag hbusy) fun h => ?_
    rw [hdemand, hoffer, hwp]
    exact h
  rw [finish_eq hidle fun _ => emptyCondition_of_copyIdle (copyIdle_of_job hc hjob), sendCredits_none]
  rw [hport]
  exact hsettled.due

/-! ## Where a job stands after a chunk (R128, R129) -/

theorem settleChan_busy (hjob : (v.chan c).job = some j) (h : ∃ x, x ∈ chanTags c ∧ (v.copyTag x).use.busy = true) :
    v.settleChan c = v := by
  unfold State.settleChan
  rw [hjob]
  exact if_pos (List.any_eq_true.2 h)

section
variable (hjob : (v.chan c).job = some j) (h : ∀ x, x ∈ chanTags c → (v.copyTag x).use.busy = false)
include hjob h

theorem settleChan_quiet : v.settleChan c =
    if (v.chan c).state = .running ∧ (v.chan c).done = 16 then (v.idleChan c).reportJob j true
    else if (v.chan c).state = .stopping then (v.idleChan c).reportJob j false else v := by
  unfold State.settleChan
  rw [hjob]
  refine if_neg ?_
  rw [List.any_eq_true]
  rintro ⟨x, hx, hbusy⟩
  rw [h x hx] at hbusy
  cases hbusy

theorem settleChan_done (hstate : (v.chan c).state = .running) (hdone : (v.chan c).done = 16) :
    v.settleChan c = (v.idleChan c).reportJob j true := by
  rw [settleChan_quiet hjob h, if_pos ⟨hstate, hdone⟩]

theorem settleChan_failed (hstate : (v.chan c).state = .stopping) : v.settleChan c = (v.idleChan c).reportJob j false := by
  rw [settleChan_quiet hjob h, if_neg (by rw [hstate]; exact fun h => nomatch h.1), if_pos hstate]

theorem settleChan_open (hstate : (v.chan c).state = .running) (hdone : (v.chan c).done ≠ 16) : v.settleChan c = v := by
  rw [settleChan_quiet hjob h, if_neg fun h => hdone h.2, if_neg (by rw [hstate]; exact nofun)]

end

/-! ## The end of a chunk's request -/

/-- Channel tag `k` FREE again, channels as given. -/
def tagFreed (s : State) (k : Nat) (channels : Table Channel) : State :=
  { s with channels := channels, copyTags := s.copyTags.set .reset k { s.copyTag k with use := .free } }

theorem tagFreed_copyTag (channels : Table Channel) (x : Nat) : (s.tagFreed k channels).copyTag x =
    if x = k then { s.copyTag x with use := .free } else s.copyTag x := by
  refine (Table.get_set ..).trans ?_
  split
  next hx => rw [hx]
  · rfl

theorem endChunk_error (hbusy : (v.copyTag k).use.busy = true)
    (hstate : (v.chan (chanOf k)).state = .running ∨ (v.chan (chanOf k)).state = .stopping) : ∃ channels,
    v.endChunk k .error = State.settleChan (chanOf k) (v.tagFreed k channels) ∧
    ∀ x, channels.get .reset x = if x = chanOf k then { v.chan (chanOf k) with state := .stopping } else v.chan x := by
  have hbad : v.endChunk k .error = (v.chunkEndBad (chanOf k) k .error).settleChan (chanOf k) := by
    unfold State.endChunk
    cases huse : (v.copyTag k).use with
    | read i => rfl
    | write i => rfl
    | free => rw [huse] at hbusy; cases hbusy
    | quarantined => rw [huse] at hbusy; cases hbusy
  by_cases hrunning : (v.chan (chanOf k)).state = .running
  · refine ⟨v.channels.set .reset (chanOf k) { v.chan (chanOf k) with state := .stopping }, ?_, fun x => Table.get_set ..⟩
    rw [hbad]
    exact congrArg _ (if_pos hrunning)
  · have hstopping := hstate.resolve_left hrunning
    refine ⟨v.channels, ?_, fun x => ?_⟩
    · rw [hbad]
      exact congrArg _ (if_neg hrunning)
    · rw [← hstopping]
      split
      next hx => rw [hx]; rfl
      · rfl

theorem endChunk_read_stopping (huse : (v.copyTag k).use = .read i) (hstate : (v.chan (chanOf k)).state ≠ .running) :
    v.endChunk k (.ok data) = State.settleChan (chanOf k) (v.tagFreed k v.channels) := by
  unfold State.endChunk
  dsimp only
  rw [huse]
  dsimp only
  rw [if_neg hstate]
  rfl

theorem endChunk_read_running (hup : v.mem.up = true) (huse : (v.copyTag k).use = .read i)
    (hstate : (v.chan (chanOf k)).state = .running) (hjob : (v.chan (chanOf k)).job = some j) :
    v.endChunk k (.ok data) = State.settleChan (chanOf k) { v with
      copyTags := (v.copyTags.set .reset k ⟨.free, data⟩).set .reset k ⟨.write i, data⟩
      tags := v.tags.set .idle k ⟨.queued, .write, addrAt j.dest (i * 256), 4, List.replicate 4 (BitVec.allOnes 64), data, 0,
        some (v.now + orMax v.mem.responseTimeout)⟩
      mem := taken v.mem [k] } := by
  have hwrite : (v.setCopyTag k ⟨.free, data⟩).chunkWrite (chanOf k) k i = { v with
      copyTags := (v.copyTags.set .reset k ⟨.free, data⟩).set .reset k ⟨.write i, data⟩
      tags := v.tags.set .idle k ⟨.queued, .write, addrAt j.dest (i * 256), 4, List.replicate 4 (BitVec.allOnes 64), data, 0,
        some (v.now + orMax v.mem.responseTimeout)⟩
      mem := taken v.mem [k] } := by
    have hslot : (v.setCopyTag k ⟨.free, data⟩).copyTag k = ⟨.free, data⟩ := Table.get_set_same ..
    unfold State.chunkWrite State.takeChunk
    rw [show ((v.setCopyTag k ⟨.free, data⟩).chan (chanOf k)).job = some j from hjob]
    dsimp only
    rw [if_pos (by exact hup)]
    unfold State.useTag
    rw [hslot]
    rfl
  unfold State.endChunk
  dsimp only
  rw [huse]
  dsimp only
  rw [if_pos hstate, hwrite]

/-- A chunk's write is done: its tag FREE, the chunk counted. -/
def chunkDone (s : State) (k : Nat) : State :=
  s.tagFreed k (s.channels.set .reset (chanOf k) { s.chan (chanOf k) with done := (s.chan (chanOf k)).done + 1 })

theorem chunkDone_chan (x : Nat) : (s.chunkDone k).chan x =
    if x = chanOf k then { s.chan (chanOf k) with done := (s.chan (chanOf k)).done + 1 } else s.chan x := Table.get_set ..

theorem endChunk_write (huse : (v.copyTag k).use = .write i) : v.endChunk k (.ok data) =
    ((v.chunkDone k).nextRead (chanOf k) k).settleChan (chanOf k) := by
  unfold State.endChunk
  dsimp only
  rw [huse]
  rfl

theorem nextRead_none (h : (v.chan c).state ≠ .running ∨ 16 ≤ (v.chan c).nextChunk) : v.nextRead c k = v :=
  if_neg fun ⟨hrunning, hchunk⟩ => h.elim (fun hne => hne hrunning) (Nat.not_le.2 hchunk)

theorem nextRead_next (hrunning : (v.chan c).state = .running) (hchunk : (v.chan c).nextChunk < 16) :
    v.nextRead c k = v.chunkRead c k := if_pos ⟨hrunning, hchunk⟩

/-- The channel with a FREE tag that gives up its job is IDLE. -/
theorem idleChan_free (h : v.hasFreeTag c = true) : v.idleChan c =
    { v with channels := v.channels.set .reset c { v.chan c with job := none, state := .idle } } := by
  unfold State.idleChan
  rw [if_pos h]
  rfl

theorem hasFreeTag_of (hk : k ∈ chanTags c) (h : (v.copyTag k).use = .free) : v.hasFreeTag c = true :=
  List.any_eq_true.2 ⟨k, hk, by rw [h]; rfl⟩

end Sys2Proof.Machine.State
end

section
/-! The chunks of a job that goes on (O52, first part). -/

namespace Sys2Proof.Proofs

open Sys2Proof.Machine Sys2Proof.Machine.State

section
variable {s : State} {k : Byte} {status reason : BitVec 4} {data : List Byte} {j : Job} {i : Nat}
  (hsettled : s.Settled) (hup : s.mem.up = true) (hk : 128 ≤ k.toNat) (hk144 : k.toNat < 144)
  (htag : (s.tag k.toNat).state = .outstanding)
include hup hk hk144 htag

theorem exec_chunk_error (herror : errorAnswer s k status data) : exec (.completion k status reason data) s =
    .next (State.endChunk k.toNat .error (s.ended k.toNat (erredMem s k.toNat))).finish := by
  rw [exec_completion_outstanding hup hk144 htag, respond_error herror, endError_chunk hk]

theorem exec_chunk_ok (hgood : (s.tag k.toNat).dataGood data = true) : exec (.completion k 0#4 reason data) s =
    .next (State.endChunk k.toNat (.ok data) (s.ended k.toNat (endedMem s k.toNat))).finish := by
  rw [exec_completion_outstanding hup hk144 htag, respond_ok hgood, endTag_chunk hk]

include hsettled

/-- Another tag of the job is in use as a chunk fails. -/
theorem chunkError_others (hjob : (s.chan (chanOf k.toNat)).job = some j) (herror : errorAnswer s k status data)
    (hbusy : (s.copyTag k.toNat).use.busy = true)
    (hothers : ∃ x, x ∈ chanTags (chanOf k.toNat) ∧ x ≠ k.toNat ∧ (s.copyTag x).use.busy = true)
    (hstate : (s.chan (chanOf k.toNat)).state = .running ∨ (s.chan (chanOf k.toNat)).state = .stopping) :
    ∃ t, exec (.completion k status reason data) s = .next t ∧
      (∀ x, t.copyTag x = if x = k.toNat then { s.copyTag x with use := .free } else s.copyTag x) ∧
      (∀ x, t.chan x = if x = chanOf k.toNat then { s.chan (chanOf k.toNat) with state := .stopping } else s.chan x) ∧
      t = { s with
        copyTags := t.copyTags, channels := t.channels, tags := s.tags.set .idle k.toNat .idle
        mem := erredMem s k.toNat } := by
  obtain ⟨channels, hend, hchan⟩ := endChunk_error (v := s.ended k.toNat (erredMem s k.toNat)) hbusy hstate
  have hcopy := tagFreed_copyTag (s := s.ended k.toNat (erredMem s k.toNat)) (k := k.toNat) channels
  generalize ht : (s.ended k.toNat (erredMem s k.toNat)).tagFreed k.toNat channels = t at hend hcopy
  have htchan : ∀ x, t.chan x = if x = chanOf k.toNat then { s.chan (chanOf k.toNat) with state := .stopping }
      else s.chan x := by
    rw [← ht]
    exact hchan
  have htjob : (t.chan (chanOf k.toNat)).job = some j := by rw [htchan, if_pos rfl]; exact hjob
  obtain ⟨x, hx, hxk, hxbusy⟩ := hothers
  rw [exec_chunk_error hup hk hk144 htag herror, hend, settleChan_busy htjob ⟨x, hx, by
    rw [hcopy, if_neg hxk]; exact hxbusy⟩,
    finish_channel hsettled (chanOf_lt hk144) (fun x hx => (htchan x).trans (if_neg hx)) (fun x hx => (hcopy x).trans (if_neg (ne_of_not_mem_chanTags hk hx))) (by rw [htchan, if_pos rfl]; exact nofun) htjob (by rw [← ht]; rfl)
      (by rw [← ht]; rfl) (by rw [← ht]; rfl) (by rw [← ht]; rfl)]
  refine ⟨t, rfl, hcopy, htchan, ?_⟩
  subst ht
  rfl

section
variable (hjob : (s.chan (chanOf k.toNat)).job = some j) (hgood : (s.tag k.toNat).dataGood data = true)
include hjob hgood

/-- A chunk's read ends in a STOPPING channel with other tags in use. -/
theorem chunkRead_stopping (hstate : (s.chan (chanOf k.toNat)).state = .stopping)
    (hothers : ∃ x, x ∈ chanTags (chanOf k.toNat) ∧ x ≠ k.toNat ∧ (s.copyTag x).use.busy = true)
    (huse : (s.copyTag k.toNat).use = .read i) : ∃ t, exec (.completion k 0#4 reason data) s = .next t ∧
      (∀ x, t.copyTag x = if x = k.toNat then { s.copyTag x with use := .free } else s.copyTag x) ∧
      t = { s with
        copyTags := t.copyTags, tags := s.tags.set .idle k.toNat .idle, mem := endedMem s k.toNat } := by
  have hend := endChunk_read_stopping (v := s.ended k.toNat (endedMem s k.toNat)) (data := data) huse
    (by exact fun h => nomatch h.symm.trans hstate)
  have hcopy := tagFreed_copyTag (s := s.ended k.toNat (endedMem s k.toNat)) (k := k.toNat) s.channels
  generalize ht : (s.ended k.toNat (endedMem s k.toNat)).tagFreed k.toNat s.channels = t at hcopy
  have hend : State.endChunk k.toNat (.ok data) (s.ended k.toNat (endedMem s k.toNat)) =
      t.settleChan (chanOf k.toNat) := by
    rw [← ht]
    exact hend
  have htchan : ∀ x, t.chan x = s.chan x := fun x => by rw [← ht]; rfl
  have htjob : (t.chan (chanOf k.toNat)).job = some j := by rw [htchan]; exact hjob
  obtain ⟨x, hx, hxk, hxbusy⟩ := hothers
  rw [exec_chunk_ok hup hk hk144 htag hgood, hend, settleChan_busy htjob ⟨x, hx, by
    rw [hcopy, if_neg hxk]; exact hxbusy⟩,
    finish_channel hsettled (chanOf_lt hk144) (fun x _ => htchan x) (fun x hx => (hcopy x).trans (if_neg (ne_of_not_mem_chanTags hk hx))) (by rw [htchan, hstate]; exact nofun) htjob (by rw [← ht]; rfl)
      (by rw [← ht]; rfl) (by rw [← ht]; rfl) (by rw [← ht]; rfl)]
  refine ⟨t, rfl, hcopy, ?_⟩
  subst ht
  rfl

/-- A chunk's write ends, and the channel reads no further chunk while the job goes on. -/
theorem chunkWrite_counted (hidle : (s.chan (chanOf k.toNat)).state ≠ .idle)
    (hlast : (s.chan (chanOf k.toNat)).state ≠ .running ∨ 16 ≤ (s.chan (chanOf k.toNat)).nextChunk)
    (hstays : (∃ x, x ∈ chanTags (chanOf k.toNat) ∧ x ≠ k.toNat ∧ (s.copyTag x).use.busy = true) ∨
      (s.chan (chanOf k.toNat)).state = .running ∧ (s.chan (chanOf k.toNat)).done < 15)
    (huse : (s.copyTag k.toNat).use = .write i) : ∃ t, exec (.completion k 0#4 reason data) s = .next t ∧
      (∀ x, t.copyTag x = if x = k.toNat then { s.copyTag x with use := .free } else s.copyTag x) ∧
      (∀ x, t.chan x = if x = chanOf k.toNat then
        { s.chan (chanOf k.toNat) with done := (s.chan (chanOf k.toNat)).done + 1 } else s.chan x) ∧
      t = { s with
        copyTags := t.copyTags, channels := t.channels, tags := s.tags.set .idle k.toNat .idle
        mem := endedMem s k.toNat } := by
  have hend := endChunk_write (v := s.ended k.toNat (endedMem s k.toNat)) (data := data) huse
  have htchan := chunkDone_chan (s := s.ended k.toNat (endedMem s k.toNat)) (k := k.toNat)
  have hcopy := tagFreed_copyTag (s := s.ended k.toNat (endedMem s k.toNat)) (k := k.toNat) (s.channels.set .reset (chanOf k.toNat)
    { s.chan (chanOf k.toNat) with done := (s.chan (chanOf k.toNat)).done + 1 })
  have hcopy : ∀ x, ((s.ended k.toNat (endedMem s k.toNat)).chunkDone k.toNat).copyTag x =
      if x = k.toNat then { s.copyTag x with use := .free } else s.copyTag x := hcopy
  generalize ht : (s.ended k.toNat (endedMem s k.toNat)).chunkDone k.toNat = t at hend htchan hcopy
  have htchan : ∀ x, t.chan x = if x = chanOf k.toNat then
      { s.chan (chanOf k.toNat) with done := (s.chan (chanOf k.toNat)).done + 1 } else s.chan x := htchan
  have hself := (htchan _).trans (if_pos rfl)
  have htjob : (t.chan (chanOf k.toNat)).job = some j := by rw [hself]; exact hjob
  have hsettle : t.settleChan (chanOf k.toNat) = t := by
    by_cases hothers : ∃ x, x ∈ chanTags (chanOf k.toNat) ∧ (t.copyTag x).use.busy = true
    · exact settleChan_busy htjob hothers
    · have hquiet : ∀ x, x ∈ chanTags (chanOf k.toNat) → (t.copyTag x).use.busy = false := fun x hx =>
        eq_false_of_ne_true fun hbusy => hothers ⟨x, hx, hbusy⟩
      obtain ⟨x, hx, hxk, hbusy⟩ | ⟨hrunning, hdone⟩ := hstays
      · refine absurd ⟨x, hx, ?_⟩ hothers
        rw [hcopy, if_neg hxk]
        exact hbusy
      · refine settleChan_open htjob hquiet (by rw [hself]; exact hrunning) ?_
        rw [hself]
        dsimp only
        omega
  rw [exec_chunk_ok hup hk hk144 htag hgood, hend, nextRead_none (by rw [hself]; exact hlast), hsettle,
    finish_channel hsettled (chanOf_lt hk144) (fun x hx => (htchan x).trans (if_neg hx)) (fun x hx => (hcopy x).trans (if_neg (ne_of_not_mem_chanTags hk hx))) (by rw [hself]; exact hidle) htjob (by rw [← ht]; rfl)
      (by rw [← ht]; rfl) (by rw [← ht]; rfl) (by rw [← ht]; rfl)]
  refine ⟨t, rfl, hcopy, htchan, ?_⟩
  subst ht
  rfl

variable (hrunning : (s.chan (chanOf k.toNat)).state = .running)
include hrunning

/-- A chunk that has been read is written. -/
theorem chunkRead_written (huse : (s.copyTag k.toNat).use = .read i) : ∃ t, exec (.completion k 0#4 reason data) s = .next t ∧
      (∀ x, t.copyTag x = if x = k.toNat then ⟨.write i, data⟩ else s.copyTag x) ∧
      (∀ x, t.tag x = if x = k.toNat then
        ⟨.queued, .write, addrAt j.dest (i * 256), 4, List.replicate 4 (BitVec.allOnes 64), data, 0,
          some (s.now + orMax s.mem.responseTimeout)⟩ else s.tag x) ∧
      t = { s with
        copyTags := t.copyTags, tags := t.tags
        mem := { s.mem with
          takeList := s.mem.takeList.filter (· != k.toNat) ++ [k.toNat]
          sendQueue := s.mem.sendQueue.filter (· != k.toNat) ++ [k.toNat] } } := by
  have hend := endChunk_read_running (v := s.ended k.toNat (endedMem s k.toNat)) (data := data) hup huse hrunning hjob
  generalize ht : ({ s with
    copyTags := (s.copyTags.set .reset k.toNat ⟨.free, data⟩).set .reset k.toNat ⟨.write i, data⟩
    tags := (s.tags.set .idle k.toNat .idle).set .idle k.toNat ⟨.queued, .write, addrAt j.dest (i * 256), 4,
      List.replicate 4 (BitVec.allOnes 64), data, 0, some (s.now + orMax s.mem.responseTimeout)⟩
    mem := taken (endedMem s k.toNat) [k.toNat] } : State) = t
  have hend : State.endChunk k.toNat (.ok data) (s.ended k.toNat (endedMem s k.toNat)) = t.settleChan (chanOf k.toNat) := by
    rw [← ht]
    exact hend
  have hcopy : ∀ x, t.copyTag x = if x = k.toNat then ⟨.write i, data⟩ else s.copyTag x := fun x => by
    rw [← ht]
    exact tableGet_set_set s.copyTags .reset k.toNat x _ _
  have htchan : ∀ x, t.chan x = s.chan x := fun x => by rw [← ht]; rfl
  have htjob : (t.chan (chanOf k.toNat)).job = some j := by rw [htchan]; exact hjob
  rw [exec_chunk_ok hup hk hk144 htag hgood, hend, settleChan_busy htjob ⟨k.toNat, mem_chanTags_chanOf hk, by
    rw [hcopy, if_pos rfl]; rfl⟩,
    finish_channel hsettled (chanOf_lt hk144) (fun x _ => htchan x) (fun x hx => (hcopy x).trans (if_neg (ne_of_not_mem_chanTags hk hx))) (by rw [htchan, hrunning]; exact nofun) htjob (by rw [← ht])
      (by rw [← ht]) (by rw [← ht]) (by rw [← ht])]
  refine ⟨t, rfl, hcopy, fun x => ?_, ?_⟩
  · rw [← ht]
    exact tableGet_set_set s.tags .idle k.toNat x _ _
  · subst ht
    rfl

/-- A chunk that has been written is counted, and its tag reads the next one. -/
theorem chunkWrite_next (huse : (s.copyTag k.toNat).use = .write i)
    (hchunk : (s.chan (chanOf k.toNat)).nextChunk < 16) : ∃ t, exec (.completion k 0#4 reason data) s = .next t ∧
      (∀ x, t.copyTag x = if x = k.toNat then
        { s.copyTag x with use := .read (s.chan (chanOf k.toNat)).nextChunk } else s.copyTag x) ∧
      (∀ x, t.chan x = if x = chanOf k.toNat then { s.chan (chanOf k.toNat) with
        done := (s.chan (chanOf k.toNat)).done + 1
        nextChunk := (s.chan (chanOf k.toNat)).nextChunk + 1 } else s.chan x) ∧
      (∀ x, t.tag x = if x = k.toNat then
        ⟨.queued, .read, addrAt j.source ((s.chan (chanOf k.toNat)).nextChunk * 256), 4, [], [], 0,
          some (s.now + orMax s.mem.responseTimeout)⟩ else s.tag x) ∧
      t = { s with
        copyTags := t.copyTags, tags := t.tags, channels := t.channels
        mem := { s.mem with
          takeList := s.mem.takeList.filter (· != k.toNat) ++ [k.toNat]
          sendQueue := s.mem.sendQueue.filter (· != k.toNat) ++ [k.toNat] } } := by
  have hend := endChunk_write (v := s.ended k.toNat (endedMem s k.toNat)) (data := data) huse
  have hself : ((s.ended k.toNat (endedMem s k.toNat)).chunkDone k.toNat).chan (chanOf k.toNat) =
      { s.chan (chanOf k.toNat) with done := (s.chan (chanOf k.toNat)).done + 1 } := (chunkDone_chan _).trans (if_pos rfl)
  have hslot : ((s.ended k.toNat (endedMem s k.toNat)).chunkDone k.toNat).copyTag k.toNat =
      { s.copyTag k.toNat with use := .free } := (tagFreed_copyTag _ _).trans (if_pos rfl)
  rw [nextRead_next (by rw [hself]; exact hrunning) (by rw [hself]; exact hchunk),
    chunkRead_up (j := j) (by exact hup) (by rw [hself]; exact hjob), hself, hslot] at hend
  generalize ht : ({ s with
    channels := (s.channels.set .reset (chanOf k.toNat)
      { s.chan (chanOf k.toNat) with done := (s.chan (chanOf k.toNat)).done + 1 }).set .reset (chanOf k.toNat)
        { s.chan (chanOf k.toNat) with
          done := (s.chan (chanOf k.toNat)).done + 1, nextChunk := (s.chan (chanOf k.toNat)).nextChunk + 1 }
    copyTags := (s.copyTags.set .reset k.toNat { s.copyTag k.toNat with use := .free }).set .reset k.toNat
      { s.copyTag k.toNat with use := .read (s.chan (chanOf k.toNat)).nextChunk }
    tags := (s.tags.set .idle k.toNat .idle).set .idle k.toNat ⟨.queued, .read,
      addrAt j.source ((s.chan (chanOf k.toNat)).nextChunk * 256), 4, [], [], 0,
      some (s.now + orMax s.mem.responseTimeout)⟩
    mem := taken (endedMem s k.toNat) [k.toNat] } : State) = t
  have hend : State.endChunk k.toNat (.ok data) (s.ended k.toNat (endedMem s k.toNat)) = t.settleChan (chanOf k.toNat) := by
    rw [← ht]
    exact hend
  have hcopy : ∀ x, t.copyTag x = if x = k.toNat then
      { s.copyTag x with use := .read (s.chan (chanOf k.toNat)).nextChunk } else s.copyTag x := fun x => by
    rw [← ht]
    refine (tableGet_set_set s.copyTags .reset k.toNat x _ _).trans ?_
    split
    next hx => rw [hx]
    · rfl
  have htchan : ∀ x, t.chan x = if x = chanOf k.toNat then { s.chan (chanOf k.toNat) with
      done := (s.chan (chanOf k.toNat)).done + 1
      nextChunk := (s.chan (chanOf k.toNat)).nextChunk + 1 } else s.chan x := fun x => by
    rw [← ht]
    exact tableGet_set_set s.channels .reset (chanOf k.toNat) x _ _
  have hselft := (htchan _).trans (if_pos rfl)
  have htjob : (t.chan (chanOf k.toNat)).job = some j := by rw [hselft]; exact hjob
  rw [exec_chunk_ok hup hk hk144 htag hgood, hend, settleChan_busy htjob ⟨k.toNat, mem_chanTags_chanOf hk, by
    rw [hcopy, if_pos rfl]; rfl⟩,
    finish_channel hsettled (chanOf_lt hk144) (fun x hx => (htchan x).trans (if_neg hx)) (fun x hx => (hcopy x).trans (if_neg (ne_of_not_mem_chanTags hk hx))) (by rw [hselft]; dsimp only; rw [hrunning]; exact nofun) htjob
      (by rw [← ht]) (by rw [← ht]) (by rw [← ht]) (by rw [← ht])]
  refine ⟨t, rfl, hcopy, htchan, fun x => ?_, ?_⟩
  · rw [← ht]
    exact tableGet_set_set s.tags .idle k.toNat x _ _
  · subst ht
    rfl

end

end

end Sys2Proof.Proofs
end

section
/-! The end of a job: its channel IDLE, its outcome reported (R125, R128, R129). -/

namespace Sys2Proof.Machine.State

variable {s t w : State} {k done : Nat} {m : MemoryPort} {j : Job}

/-- State `w` is `s` as the channel that owns tag `k` has given up its job, the last of its tags ended with memory port `m`
and `done` chunks written. -/
structure JobOver (s w : State) (k done : Nat) (m : MemoryPort) : Prop where
  chan : ∀ x, w.chan x = if x = chanOf k then { s.chan (chanOf k) with state := .idle, job := none, done := done }
    else s.chan x
  copyTag : ∀ x, w.copyTag x = if x = k then { s.copyTag x with use := .free } else s.copyTag x
  rest : w = { s with channels := w.channels, copyTags := w.copyTags, tags := s.tags.set .idle k .idle, mem := m }

/-- The channel that gives up its job as tag `k`, the last in use, is FREE. -/
theorem jobOver_of_idle (hk : 128 ≤ k) {channels : Table Channel} {st : ChanState}
    (hchan : ∀ x, channels.get .reset x = if x = chanOf k then { s.chan (chanOf k) with state := st, done := done }
      else s.chan x) : JobOver s (((s.ended k m).tagFreed k channels).idleChan (chanOf k)) k done m := by
  have hself : ((s.ended k m).tagFreed k channels).chan (chanOf k) = { s.chan (chanOf k) with state := st, done := done } :=
    (hchan _).trans (if_pos rfl)
  have hcopy : ∀ x, ((s.ended k m).tagFreed k channels).copyTag x =
      if x = k then { s.copyTag x with use := .free } else s.copyTag x := tagFreed_copyTag channels
  rw [idleChan_free (hasFreeTag_of (mem_chanTags_chanOf hk) (by rw [hcopy, if_pos rfl])), hself]
  refine ⟨fun x => (Table.get_set ..).trans ?_, hcopy, rfl⟩
  split
  · rfl
  next hx => exact (hchan x).trans (if_neg hx)

end Sys2Proof.Machine.State

namespace Sys2Proof.Proofs

open Sys2Proof.Machine Sys2Proof.Machine.State

section
variable {s w : State} {k : Byte} {status reason : BitVec 4} {data : List Byte} {j : Job} {i : Nat}
  (hup : s.mem.up = true) (hk : 128 ≤ k.toNat) (hk144 : k.toNat < 144)
  (htag : (s.tag k.toNat).state = .outstanding) (hjob : (s.chan (chanOf k.toNat)).job = some j)
  (hquiet : ∀ x, x ∈ chanTags (chanOf k.toNat) → x ≠ k.toNat → (s.copyTag x).use.busy = false)
include hup hk hk144 htag hjob hquiet

/-- A job's last chunk in use ends with an error. -/
theorem exec_jobFailed (herror : errorAnswer s k status data) (hbusy : (s.copyTag k.toNat).use.busy = true)
    (hstate : (s.chan (chanOf k.toNat)).state = .running ∨ (s.chan (chanOf k.toNat)).state = .stopping) :
    ∃ w, exec (.completion k status reason data) s = .next (w.reportJob j false).finish ∧
      JobOver s w k.toNat (s.chan (chanOf k.toNat)).done (erredMem s k.toNat) := by
  obtain ⟨channels, hend, hchan⟩ := endChunk_error (v := s.ended k.toNat (erredMem s k.toNat)) hbusy hstate
  have hcopy := tagFreed_copyTag (s := s.ended k.toNat (erredMem s k.toNat)) (k := k.toNat) channels
  have hself : ((s.ended k.toNat (erredMem s k.toNat)).tagFreed k.toNat channels).chan (chanOf k.toNat) =
      { s.chan (chanOf k.toNat) with state := .stopping } := (hchan _).trans (if_pos rfl)
  refine ⟨_, ?_, jobOver_of_idle hk hchan⟩
  rw [exec_chunk_error hup hk hk144 htag herror, hend, settleChan_failed (j := j) (by rw [hself]; exact hjob) (fun x hx => ?_)
    (by rw [hself])]
  rw [hcopy]
  split
  · rfl
  next hxk => exact hquiet x hx hxk

/-- The sixteenth chunk of a job has been written. -/
theorem exec_jobDone (hgood : (s.tag k.toNat).dataGood data = true) (huse : (s.copyTag k.toNat).use = .write i)
    (hstate : (s.chan (chanOf k.toNat)).state = .running) (hchunk : (s.chan (chanOf k.toNat)).nextChunk = 16)
    (hdone : (s.chan (chanOf k.toNat)).done = 15) :
    ∃ w, exec (.completion k 0#4 reason data) s = .next (w.reportJob j true).finish ∧
      JobOver s w k.toNat 16 (endedMem s k.toNat) := by
  have hend := endChunk_write (v := s.ended k.toNat (endedMem s k.toNat)) (data := data) huse
  have hchan : ∀ x, (s.channels.set .reset (chanOf k.toNat)
      { s.chan (chanOf k.toNat) with done := (s.chan (chanOf k.toNat)).done + 1 }).get .reset x =
      if x = chanOf k.toNat then { s.chan (chanOf k.toNat) with state := .running, done := 16 } else s.chan x := fun x => by
    refine (Table.get_set ..).trans ?_
    rw [hdone, ← hstate]
    rfl
  have hcopy : ∀ x, ((s.ended k.toNat (endedMem s k.toNat)).chunkDone k.toNat).copyTag x =
      if x = k.toNat then { s.copyTag x with use := .free } else s.copyTag x := tagFreed_copyTag _
  have hself : ((s.ended k.toNat (endedMem s k.toNat)).chunkDone k.toNat).chan (chanOf k.toNat) =
      { s.chan (chanOf k.toNat) with state := .running, done := 16 } := (hchan _).trans (if_pos rfl)
  refine ⟨_, ?_, jobOver_of_idle hk hchan⟩
  rw [exec_chunk_ok hup hk hk144 htag hgood, hend, nextRead_none (.inr (by rw [hself]; exact hchunk.ge)),
    settleChan_done (j := j) (by rw [hself]; exact hjob) (fun x hx => ?_) (by rw [hself]) (by rw [hself])]
  · rfl
  · rw [hcopy]
    split
    · rfl
    next hxk => exact hquiet x hx hxk

end

end Sys2Proof.Proofs
end

section
/-! What the end of a job reports (R65, R66, R94, R99; log 26), and the end of the step. -/

namespace Sys2Proof.Machine.State

variable {s t u w : State} {k done p r n x : Nat} {m : MemoryPort} {j : Job} {e : Entry} {o : Option Nat}

/-- The end of a step that has left the arbiter nothing to give. -/
theorem finish_jobEnd (hsettled : s.Settled) (hport : u.port = s.port) (hqueue : u.wp.queue = [])
    (hdemand : u.sweep.demand = []) (hoffer : u.sweep.offer = none) : ∃ t, u.finish = t ∧
    t = { u with port := { s.port with intake := intakeAfter s t }, mgmt := quiesced s t u.mgmt } := by
  have hempty : ({ u with
      port := { u.port with intake := intakeAfter u u }, mgmt := quiesced u u u.mgmt } : State).emptyCondition =
      u.emptyCondition := emptyCondition_congr (fun _ => rfl) rfl rfl rfl rfl
  have hintake : s.port.intake = u.port.intake := by rw [hport]
  refine ⟨_, finish_uncredited (by rw [hport]; exact hsettled.due) (arbiterIdle_of_empty hqueue hdemand hoffer), ?_⟩
  rw [intakeAfter_congr hintake hempty, quiesced_congr_port hintake hempty, hport]

theorem entry_congr (h : t.entries = s.entries) : t.entry = s.entry := by
  unfold State.entry
  rw [h]

theorem heldBehind_congr (hentries : t.entries = s.entries) (hhead : (t.page p).waitHead = (s.page p).waitHead) (r : Nat) :
    t.heldBehind p r = s.heldBehind p r := by
  unfold State.heldBehind
  rw [hhead, entry_congr hentries]

theorem redecideBehind_none (h : ∀ p, o = some p → (s.page p).parityOk = true ∧ s.heldBehind p r = none) :
    s.redecideBehind r o = s := by
  unfold State.redecideBehind
  cases o with
  | none => rfl
  | some p =>
    obtain ⟨hparity, hheld⟩ := h p rfl
    dsimp only
    rw [checkPage_sound hparity, hheld]

theorem redecideDemand_quiet (h : ∀ p, o = some p → (s.page p).parityOk = true ∧ s.heldForDemand p = false) :
    s.redecideDemand o = s := by
  cases o with
  | none => rfl
  | some p => exact redecideDemand_none (h p rfl).1 (h p rfl).2

/-! ## A job that has lost its record (log 26) -/

/-- What the outcome of a job that has lost its record brings to the sweep engine. -/
def orphanSweep (w : Sweep) (j : Job) (ok : Bool) : Sweep :=
  match j.kind, ok with
  | .preservation, _ => w
  | .restore, true => { w with report := { w.report with restored := w.report.restored + 1#16 } }
  | .restore, false => pageFaulted w (pageOfJob j)

theorem reportOrphan_done (h : ∀ p, s.guardIndex (pageOfJob j) = some p →
      (s.page p).parityOk = true ∧ s.heldBehind p j.record = none ∧ s.heldForDemand p = false) :
    s.reportOrphan j true = { s with sweep := orphanSweep s.sweep j true } := by
  unfold State.reportOrphan orphanSweep
  unfold pageOfJob at h
  cases hkind : j.kind with
  | preservation =>
    rw [hkind] at h
    exact redecideBehind_none fun p hp => ⟨(h p hp).1, (h p hp).2.1⟩
  | restore =>
    rw [hkind] at h
    exact redecideDemand_quiet (s := s.countRestored) fun p hp => ⟨(h p hp).1, (h p hp).2.2⟩

theorem reportOrphan_failed (hp : s.guardIndex (pageOfJob j) = some p) (hparity : (s.page p).parityOk = true)
    (hbehind : s.heldBehind p j.record = none) (hdemand : s.heldForDemand p = false) : s.reportOrphan j false = { s with
      sweep := orphanSweep s.sweep j false, mgmt := copyFailed s j (pageOfJob j) none } := by
  unfold State.reportOrphan orphanSweep copyFailed
  unfold pageOfJob at hp ⊢
  cases hkind : j.kind with
  | preservation =>
    rw [hkind] at hp
    have hcapture : s.orphanFailure j = { s with
        mgmt := reported s.mgmt 9 .copy none (some (addrAt j.source 0)) (s.windowOf j.source) } := by
      unfold State.orphanFailure
      dsimp only
      rw [hp]
      unfold State.checkPageOf State.captureCopy
      dsimp only [Option.bind_some, Option.map_some]
      rw [checkPage_sound hparity, hbehind]
      exact capture_raise s .preserveFail ..
    dsimp only
    rw [hcapture]
    refine redecideBehind_none fun y hy => ?_
    obtain rfl : p = y := Option.some.inj (hp.symm.trans hy)
    exact ⟨hparity, hbehind⟩
  | restore =>
    rw [hkind] at hp
    dsimp only
    rw [restoreFault_spec, hp]
    exact redecideDemand_none hparity hdemand

/-! ## A preservation that has succeeded (R65) -/

/-- The record VALID, and no sweep waiting for it. -/
def preserved (s : State) (r : Nat) : State :=
  { s with
    records := s.records.set .freed r { s.record r with state := .valid, parityOk := true }
    sweep := { s.sweep with waitingOn := if s.sweep.waitingOn = some r then none else s.sweep.waitingOn } }

theorem preserved_record (hparity : (s.record r).parityOk = true) (y : Nat) : (s.preserved r).record y =
    if y = r then { s.record y with state := .valid } else s.record y := by
  refine (putRec_sound (s := s) (v := { s.record r with state := .valid }) hparity y).trans ?_
  split
  next hy => rw [hy]
  · rfl

theorem preservationSuccess_eq (hparity : (s.record r).parityOk = true) (hpage : (s.record r).pageIndex = some p) :
    s.preservationSuccess r = (s.preserved r).redecideBehind r (some p) := by
  have hvalid : (s.putRec r { s.record r with state := .valid }).stopWaiting r = s.preserved r := by
    rw [stopWaiting_spec]
    rfl
  unfold State.preservationSuccess
  dsimp only
  rw [hvalid, preserved_record hparity, if_pos rfl, hpage]

theorem reportJob_preserved (horphaned : j.orphaned = false) (hkind : j.kind = .preservation)
    (hparity : (s.record j.record).parityOk = true) (hfree : (s.record j.record).state ≠ .free)
    (hpage : (s.record j.record).pageIndex = some p) :
    s.reportJob j true = (s.preserved j.record).redecideBehind j.record (some p) := by
  unfold State.reportJob
  rw [if_neg (by rw [horphaned]; exact nofun), checkRec_sound hparity, hkind]
  dsimp only
  rw [if_neg hfree, preservationSuccess_eq hparity hpage]

theorem redecideBehind_some (hparity : (s.page p).parityOk = true) (hheld : s.heldBehind p r = some n) :
    s.redecideBehind r (some p) = s.decidePage p := by
  unfold State.redecideBehind
  dsimp only
  rw [checkPage_sound hparity, hheld]

theorem heldBehind_eq_some (h : s.heldBehind p r = some n) :
    (s.page p).waitHead = some n ∧ (s.entry n).state = .held ∧ (s.entry n).heldOn = some (.record r) := by
  unfold State.heldBehind at h
  cases hhead : (s.page p).waitHead with
  | none =>
    rw [hhead] at h
    cases h
  | some y =>
    rw [hhead] at h
    dsimp only at h
    split at h
    next hy =>
      obtain rfl := Option.some.inj h
      exact ⟨rfl, hy⟩
    · cases h

end Sys2Proof.Machine.State
end

section
/-! The end of a job (O52). -/

namespace Sys2Proof.Machine.State

variable {s t u w : State} {k done p r n x : Nat} {m : MemoryPort} {j : Job}

/-- A write alone in its list that its decision lets pass is issued, and its list is empty. -/
theorem decidePage_single (hparity : (u.page p).parityOk = true) (hhead : (u.page p).waitHead = some n)
    (hlisted : u.isListed n = true) (hkind : (u.entry n).kind = .write) (hnext : (u.entry n).next = none)
    (hup : u.mem.up = true)
    (hdecide : decideWriteWith flushWaiters none p n u = (.left, u.issueHead p n (u.entry n).address)) :
    ∃ entries pst, u.decidePage p = { u with
      entries := entries, pst := pst, tags := u.tags.set .idle n (queuedAgain u n)
      mem := { u.mem with takeList := u.mem.takeList ++ [n], sendQueue := u.mem.sendQueue ++ [n] } } ∧
    (∀ m, entries.get .freed m = if m = n then issuedAgain (u.entry n) else u.entry m) ∧
    ∀ y, pst.get .clear y = if y = p then { u.page p with waitHead := none, waitTail := none } else u.page y := by
  obtain ⟨entries, pst, hissue, hentries, hpst⟩ := issueHead_single (p := p) (e := u.entry n) rfl hnext hup (u.entry n).address
  have hself : pst.get .clear p = { u.page p with waitHead := none, waitTail := none, parityOk := true } :=
    (hpst p).trans (if_pos rfl)
  refine ⟨entries, pst, ?_, hentries, fun y => (hpst y).trans ?_⟩
  · rw [State.decidePage, show listRounds = 128 + 1 from rfl, decidePageWith_left hparity hhead hlisted hkind hdecide, hissue]
    exact decidePageWith_none (k := 127) (congrArg PstEntry.parityOk hself) (congrArg PstEntry.waitHead hself)
  · rw [← hparity]

/-- A write whose page the newest record saves at its effective mark passes. -/
theorem decideWriteWith_passes {hand : Option Nat} {flush : State → State} (hrestoring : u.restoring = false)
    (hrecords : ∀ y, (u.page p).chainHead = some y → (u.record y).parityOk = true)
    (hpasses : u.ctl.state = .degraded ∨ u.effective (u.entry n).stamp = none ∨ ∃ y, u.chainTop p = some y ∧
      (u.record y).state = .valid ∧ u.effective (u.entry n).stamp = u.resolved (u.record y)) :
    decideWriteWith flush hand p n u = (.left, u.issueHead p n (u.entry n).address) := by
  unfold Machine.decideWriteWith
  rw [if_neg (by rw [hrestoring]; exact nofun)]
  by_cases hunmarked : u.ctl.state = .degraded ∨ u.effective (u.entry n).stamp = none
  · exact decideMarksWith_unmarked hunmarked
  · obtain ⟨hctl, hmarked⟩ := not_or.1 hunmarked
    obtain ⟨y, htop, hvalid, hresolved⟩ := (hpasses.resolve_left hctl).resolve_left hmarked
    obtain ⟨e, he⟩ := Option.ne_none_iff_exists'.1 hmarked
    rw [decideMarksWith_marked hctl he hrecords]
    exact decideHeadWith_saved htop hvalid (hresolved.symm.trans he)

namespace JobOver

variable (h : JobOver s w k done m)
include h

theorem exists_eq : ∃ channels copyTags, w =
    { s with channels := channels, copyTags := copyTags, tags := s.tags.set .idle k .idle, mem := m } := ⟨_, _, h.rest⟩

theorem entries : w.entries = s.entries := by rw [h.rest]
theorem pst : w.pst = s.pst := by rw [h.rest]
theorem sweep : w.sweep = s.sweep := by rw [h.rest]
theorem records : w.records = s.records := by rw [h.rest]
theorem slots : w.slots = s.slots := by rw [h.rest]
theorem wp : w.wp = s.wp := by rw [h.rest]
theorem port : w.port = s.port := by rw [h.rest]
theorem mgmt : w.mgmt = s.mgmt := by rw [h.rest]
theorem pool : w.pool = s.pool := by rw [h.rest]

theorem record (y : Nat) : w.record y = s.record y := by rw [record_congr h.records]

theorem entry (y : Nat) : w.entry y = s.entry y := by rw [entry_congr h.entries]

theorem page (y : Nat) : w.page y = s.page y := by
  unfold State.page
  rw [h.pst]

theorem heldBehind (p r : Nat) : w.heldBehind p r = s.heldBehind p r := heldBehind_congr h.entries (by rw [h.page]) r

theorem heldForDemand (p : Nat) : w.heldForDemand p = s.heldForDemand p :=
  heldForDemand_congr h.entries (by rw [h.page])

theorem guardIndex (g : Nat) : w.guardIndex g = s.guardIndex g := by
  rw [h.rest]
  rfl

theorem windowOf (g : Nat) : w.windowOf g = s.windowOf g := by
  rw [h.rest]
  rfl

end JobOver

end Sys2Proof.Machine.State

namespace Sys2Proof.Proofs

open Sys2Proof.Machine Sys2Proof.Machine.State

section
variable {s w : State} {k done p n : Nat} {m : MemoryPort} {j : Job} (hsettled : s.Settled) (h : JobOver s w k done m)
  (hqueue : s.wp.queue = []) (hdemand : s.sweep.demand = []) (hoffer : s.sweep.offer = none)
include hsettled h hqueue hdemand hoffer

/-- The end of the step of a job that has lost its record, with no write HELD behind it. -/
theorem finish_orphan {sweep : Sweep} {mgmt : Mgmt} (hkept : sweep.demand = s.sweep.demand ∧ sweep.offer = s.sweep.offer) :
    ∃ t, State.finish { w with sweep := sweep, mgmt := mgmt } = t ∧
      (∀ x, t.chan x = if x = chanOf k then { s.chan (chanOf k) with state := .idle, job := none, done := done } else s.chan x) ∧
      (∀ x, t.copyTag x = if x = k then { s.copyTag x with use := .free } else s.copyTag x) ∧
      t = { s with
        channels := t.channels, copyTags := t.copyTags, tags := s.tags.set .idle k .idle, mem := m
        port := { s.port with intake := intakeAfter s t }, sweep := sweep, mgmt := quiesced s t mgmt } := by
  obtain ⟨t, ht, hspec⟩ := finish_jobEnd (u := { w with sweep := sweep, mgmt := mgmt }) hsettled h.port
    (by rw [h.wp]; exact hqueue) (hkept.1.trans hdemand) (hkept.2.trans hoffer)
  have hchannels : t.channels = w.channels := by rw [hspec]
  have hcopyTags : t.copyTags = w.copyTags := by rw [hspec]
  refine ⟨t, ht, fun x => ?_, fun x => ?_, ?_⟩
  · rw [← h.chan]
    unfold State.chan
    rw [hchannels]
  · rw [← h.copyTag]
    unfold State.copyTag
    rw [hcopyTags]
  · obtain ⟨channels, copyTags, rfl⟩ := h.exists_eq
    rw [hchannels, hcopyTags]
    exact hspec

section
variable (horphaned : j.orphaned = false) (hkind : j.kind = .preservation)
  (hrecord : (s.record j.record).parityOk = true) (hfree : (s.record j.record).state ≠ .free)
  (hpage : (s.record j.record).pageIndex = some p) (hparity : (s.page p).parityOk = true)
include horphaned hkind hrecord hfree hpage hparity

/-- A preservation ends, and no write is HELD behind it. -/
theorem reportJob_preserved_quiet (hheld : s.heldBehind p j.record = none) (hdone : done = 16) :
    ∃ t, (w.reportJob j true).finish = t ∧ jobDone s t (chanOf k) k j.record ∧
      t = { s with
        records := t.records, channels := t.channels, copyTags := t.copyTags, tags := s.tags.set .idle k .idle
        mem := m, port := { s.port with intake := intakeAfter s t }
        sweep := { s.sweep with
          waitingOn := if s.sweep.waitingOn = some j.record then none else s.sweep.waitingOn }
        mgmt := quiesced s t s.mgmt } := by
  have hpreserved : w.reportJob j true = w.preserved j.record := by
    rw [reportJob_preserved horphaned hkind (by rw [h.record]; exact hrecord) (by rw [h.record]; exact hfree)
      (by rw [h.record]; exact hpage)]
    refine redecideBehind_none fun y hy => ?_
    obtain rfl := Option.some.inj hy
    exact ⟨(congrArg PstEntry.parityOk (h.page p)).trans hparity, (h.heldBehind p _).trans hheld⟩
  obtain ⟨t, ht, hspec⟩ := finish_jobEnd (u := w.preserved j.record) hsettled h.port
    (show w.wp.queue = [] by rw [h.wp]; exact hqueue) (show w.sweep.demand = [] by rw [h.sweep]; exact hdemand)
    (show w.sweep.offer = none by rw [h.sweep]; exact hoffer)
  have hrecords : t.records = (w.preserved j.record).records := by rw [hspec]
  have hchannels : t.channels = w.channels := by rw [hspec]; rfl
  have hcopyTags : t.copyTags = w.copyTags := by rw [hspec]; rfl
  rw [hpreserved]
  refine ⟨t, ht, ⟨fun x => ?_, fun x => ?_, fun x => ?_⟩, ?_⟩
  · rw [record_congr hrecords, preserved_record (by rw [h.record]; exact hrecord), h.record]
  · rw [← hdone, ← h.chan]
    unfold State.chan
    rw [hchannels]
  · rw [← h.copyTag]
    unfold State.copyTag
    rw [hcopyTags]
  · obtain ⟨channels, copyTags, rfl⟩ := h.exists_eq
    rw [hrecords, hchannels, hcopyTags]
    exact hspec

/-- A preservation ends, and the write HELD behind it, alone in its list, passes. -/
theorem reportJob_preserved_held (hheld : s.heldBehind p j.record = some n) (hdone : done = 16)
    (hm : m = endedMem s k) (hup : s.mem.up = true)
    (hn : n < 128) (hnext : (s.entry n).next = none) (hwrite : (s.entry n).kind = .write) (hrestoring : s.restoring = false)
    (htop : s.chainTop p = some j.record)
    (hpasses : s.ctl.state = .degraded ∨ s.effective (s.entry n).stamp = none ∨
      s.effective (s.entry n).stamp = s.resolved (s.record j.record)) :
    ∃ t, (w.reportJob j true).finish = t ∧ jobDone s t (chanOf k) k j.record ∧
      entriesAre s t n (issuedAgain (s.entry n)) ∧
      (∀ x, t.page x = if x = p then { s.page p with waitHead := none, waitTail := none } else s.page x) ∧
      t = { s with
        records := t.records, channels := t.channels, copyTags := t.copyTags, entries := t.entries, pst := t.pst
        tags := (s.tags.set .idle k .idle).set .idle n (queuedAgain s n)
        mem := { s.mem with
          takeList := s.mem.takeList.filter (· != k) ++ [n], sendQueue := s.mem.sendQueue.filter (· != k) ++ [n] }
        sweep := { s.sweep with
          waitingOn := if s.sweep.waitingOn = some j.record then none else s.sweep.waitingOn } } := by
  have hreport : w.reportJob j true = (w.preserved j.record).redecideBehind j.record (some p) :=
    reportJob_preserved horphaned hkind (by rw [h.record]; exact hrecord) (by rw [h.record]; exact hfree)
      (by rw [h.record]; exact hpage)
  generalize hu : w.preserved j.record = u at hreport
  have hurecord : ∀ y, u.record y = if y = j.record then { s.record y with state := .valid } else s.record y := fun y => by
    rw [← hu, preserved_record (by rw [h.record]; exact hrecord), h.record]
  have hupage : ∀ y, u.page y = s.page y := fun y => by rw [← hu]; exact h.page y
  have huentry : ∀ y, u.entry y = s.entry y := fun y => by rw [← hu]; exact h.entry y
  have huslots : u.slots = s.slots := by rw [← hu]; exact h.slots
  have huheld : u.heldBehind p j.record = some n :=
    (heldBehind_congr (t := u) (s := s) (by rw [← hu]; exact h.entries) (by rw [hupage]) _).trans hheld
  obtain ⟨hhead, hstate, -⟩ := heldBehind_eq_some hheld
  have hself := (hurecord j.record).trans (if_pos rfl)
  have hutop : u.chainTop p = some j.record := by
    have hchain := chainTop_eq_some htop
    unfold State.chainTop at htop ⊢
    rw [hupage, hchain]
    rw [hchain] at htop
    unfold State.chainLink at htop ⊢
    dsimp only at htop ⊢
    rw [hself]
    split at htop
    next hok => exact if_pos ⟨nofun, hok.2⟩
    · cases htop
  have hdecide : decideWriteWith flushWaiters none p n u = (.left, u.issueHead p n (u.entry n).address) := by
    refine decideWriteWith_passes ?_ (fun y hy => ?_) ?_
    · rw [← hu, ← hrestoring]
      unfold State.restoring
      rw [← h.sweep]
      rfl
    · rw [hupage, chainTop_eq_some htop] at hy
      obtain rfl := Option.some.inj hy
      rw [hself]
      exact hrecord
    · rw [huentry, effective_congr huslots]
      refine hpasses.imp (fun hctl => ?_) (Or.imp_right fun hresolved => ⟨j.record, hutop, by rw [hself], ?_⟩)
      · rw [← hu, ← hctl, show (w.preserved j.record).ctl = w.ctl from rfl, h.rest]
      · rw [hresolved, hself, resolved_congr huslots]
        rfl
  have hmem : u.mem = m := by rw [← hu, show (w.preserved j.record).mem = w.mem from rfl, h.rest]
  obtain ⟨entries, pst, hpageDecided, hentries, hpst⟩ := decidePage_single (u := u) (p := p) (n := n)
    (by rw [hupage]; exact hparity) (by rw [hupage]; exact hhead)
    (isListed_iff.2 (.inr (.inl (by rw [huentry]; exact hstate)))) (by rw [huentry]; exact hwrite)
    (by rw [huentry]; exact hnext) (by rw [hmem, hm]; exact hup) hdecide
  have hbusy : (entries.get .freed n).state ≠ .free := by
    rw [hentries, if_pos rfl]
    exact nofun
  have hidle : u.ArbiterIdle := by
    rw [← hu]
    exact arbiterIdle_of_empty (show w.wp.queue = [] by rw [h.wp]; exact hqueue)
      (show w.sweep.demand = [] by rw [h.sweep]; exact hdemand) (show w.sweep.offer = none by rw [h.sweep]; exact hoffer)
  have hdue : u.port.due = 0 := by
    rw [← hu, show (w.preserved j.record).port = w.port from rfl, h.port]
    exact hsettled.due
  rw [hreport, redecideBehind_some (by rw [hupage]; exact hparity) huheld, hpageDecided]
  refine ⟨_, finish_busy (n := n) (by exact ArbiterIdle.congr hidle rfl rfl rfl rfl rfl) (by exact hdue) hn (by exact hbusy),
    ⟨hurecord, fun x => ?_, fun x => ?_⟩, fun x => (hentries x).trans ?_, fun x => (hpst x).trans ?_, ?_⟩
  · rw [← hdone, ← h.chan, ← hu]
    rfl
  · rw [← h.copyTag, ← hu]
    rfl
  · rw [huentry, huentry]
  · rw [hupage, hupage]
  · have hqueued : queuedAgain u n = queuedAgain s n := by
      unfold queuedAgain
      rw [huentry, hmem, hm, ← hu, show (w.preserved j.record).now = w.now from rfl, h.rest]
      rfl
    rw [hqueued]
    subst hu hm
    obtain ⟨channels, copyTags, rfl⟩ := h.exists_eq
    rfl

end

end

end Sys2Proof.Proofs
end

section
/-! The chunk sequence and the end of a job, together (O52). -/

namespace Sys2Proof.Proofs

open Sys2Proof.Machine Sys2Proof.Machine.State

theorem orphanSweep_kept (w : Sweep) (j : Job) (ok : Bool) :
    (orphanSweep w j ok).demand = w.demand ∧ (orphanSweep w j ok).offer = w.offer := by
  unfold orphanSweep
  cases j.kind with
  | preservation => exact ⟨rfl, rfl⟩
  | restore => cases ok <;> exact ⟨rfl, rfl⟩

/-- Settles O52, by the chunk's use, its answer, and what is left of the job. -/
theorem chunksAdvanceAndEndTheJob : Obligations.ChunksAdvanceAndEndTheJob := by
  intro s k reason data c j hsettled hup hk hk144 hc htag hjob
  obtain rfl : c = chanOf k.toNat := hc
  refine ⟨fun status herror hbusy hothers hstate =>
      chunkError_others hsettled hup hk hk144 htag hjob herror hbusy hothers hstate,
    fun i hgood hstopping hothers => ⟨fun huse =>
      chunkRead_stopping hsettled hup hk hk144 htag hjob hgood hstopping hothers huse, fun huse =>
      chunkWrite_counted hsettled hup hk hk144 htag hjob hgood (by rw [hstopping]; exact nofun)
        (.inl (by rw [hstopping]; exact nofun)) (.inl hothers) huse⟩,
    fun p status herror hbusy hquiet hstate horphaned hp hparity hbehind hheld hqueue hdemand hoffer => ?_,
    fun hgood hrunning => ⟨fun i huse hchunk hdone =>
        chunkWrite_counted hsettled hup hk hk144 htag hjob hgood (by rw [hrunning]; exact nofun) (.inr hchunk.ge)
          (.inr ⟨hrunning, hdone⟩) huse,
      fun i huse => chunkRead_written hsettled hup hk hk144 htag hjob hgood hrunning huse,
      fun i huse hchunk => chunkWrite_next hsettled hup hk hk144 htag hjob hgood hrunning huse hchunk,
      fun i p huse hchunk hdone hfreeTags hkind horphaned hrecord hfree hpage hparity hqueue hdemand hoffer => ?_,
      fun i huse hchunk hdone hfreeTags horphaned hpages hqueue hdemand hoffer => ?_⟩⟩
  · obtain ⟨w, hexec, hw⟩ := exec_jobFailed (reason := reason) hup hk hk144 htag hjob hquiet herror hbusy hstate
    have hreport : w.reportJob j false = { w with
        sweep := orphanSweep w.sweep j false, mgmt := copyFailed w j (pageOfJob j) none } := by
      unfold State.reportJob
      rw [if_pos horphaned, reportOrphan_failed ((hw.guardIndex _).trans hp)
        ((congrArg PstEntry.parityOk (hw.page p)).trans hparity) ((hw.heldBehind p _).trans hbehind)
        ((hw.heldForDemand p).trans hheld)]
    have hfailed : copyFailed w j (pageOfJob j) none = copyFailed s j (pageOfJob j) none := by
      unfold copyFailed
      rw [hw.mgmt, hw.windowOf]
    rw [hw.sweep, hfailed] at hreport
    obtain ⟨t, ht, hchan, hcopy, hspec⟩ := finish_orphan hsettled hw hqueue hdemand hoffer
      (mgmt := copyFailed s j (pageOfJob j) none) (orphanSweep_kept s.sweep j false)
    rw [hexec, hreport]
    refine ⟨t, congrArg _ ht, ⟨hchan, hcopy⟩, ?_⟩
    refine hspec.trans ?_
    unfold orphanSweep
    cases j.kind <;> rfl
  · have hquiet : ∀ x, x ∈ chanTags (chanOf k.toNat) → x ≠ k.toNat → (s.copyTag x).use.busy = false := fun x hx hne => by
      rw [hfreeTags x hx hne]
      rfl
    obtain ⟨w, hexec, hw⟩ := exec_jobDone (reason := reason) hup hk hk144 htag hjob hquiet hgood huse hrunning hchunk hdone
    rw [hexec]
    refine ⟨fun hheld => ?_, fun n hheld hn hnext htail hwrite hrestoring htop hpasses => ?_⟩
    · obtain ⟨t, ht, hspec⟩ := reportJob_preserved_quiet hsettled hw hqueue hdemand hoffer horphaned hkind hrecord hfree hpage
        hparity hheld rfl
      exact ⟨t, congrArg _ ht, hspec⟩
    · obtain ⟨t, ht, hspec⟩ := reportJob_preserved_held hsettled hw hqueue hdemand hoffer horphaned hkind hrecord hfree hpage
        hparity hheld rfl rfl hup hn hnext hwrite hrestoring htop hpasses
      exact ⟨t, congrArg _ ht, hspec⟩
  · have hquiet : ∀ x, x ∈ chanTags (chanOf k.toNat) → x ≠ k.toNat → (s.copyTag x).use.busy = false := fun x hx hne => by
      rw [hfreeTags x hx hne]
      rfl
    obtain ⟨w, hexec, hw⟩ := exec_jobDone (reason := reason) hup hk hk144 htag hjob hquiet hgood huse hrunning hchunk hdone
    have hreport : w.reportJob j true = { w with sweep := orphanSweep w.sweep j true } := by
      unfold State.reportJob
      rw [if_pos horphaned, reportOrphan_done fun p hp => ?_]
      rw [hw.page, hw.heldBehind, hw.heldForDemand]
      exact hpages p ((hw.guardIndex _).symm.trans hp)
    have hspecs := finish_orphan hsettled hw hqueue hdemand hoffer (mgmt := s.mgmt) (orphanSweep_kept s.sweep j true)
    rw [hw.sweep] at hreport
    rw [← hw.mgmt] at hspecs
    obtain ⟨t, ht, hchan, hcopy, hspec⟩ := hspecs
    rw [hexec, hreport]
    refine ⟨t, congrArg _ ht, hchan, hcopy, ?_⟩
    rw [hw.mgmt] at hspec
    refine hspec.trans ?_
    unfold orphanSweep
    cases j.kind <;> rfl

end Sys2Proof.Proofs
end

section
/-! A failed preservation up to its record's end (R66): the report, the damage, the record freed. -/

namespace Sys2Proof.Machine.State

variable {s t v w f : State} {k done p r n x q g : Nat} {m : MemoryPort} {j : Job} {held o : Option Nat}

/-! ## Marks that differ in their damage alone -/

/-- State `f` has the tables and the sweep engine of `s`, but for what marks are damaged. -/
structure Damaged (s f : State) : Prop where
  records : f.records = s.records
  pst : f.pst = s.pst
  sweep : f.sweep = s.sweep
  slot : ∀ i, f.slot i = { s.slot i with damaged := (f.slot i).damaged }

namespace Damaged

variable (h : Damaged s f)
include h

theorem record : f.record = s.record := record_congr h.records

theorem page : f.page = s.page := by
  unfold State.page
  rw [h.pst]

theorem head (i : Nat) : (f.slot i).head = (s.slot i).head := by rw [h.slot]

theorem slotState (i : Nat) : (f.slot i).state = (s.slot i).state := by rw [h.slot]

theorem slotSeq (i : Nat) : (f.slot i).seq = (s.slot i).seq := by rw [h.slot]

theorem effective (t : Seq) : f.effective t = s.effective t := effective_congr_live h.slotState h.slotSeq t

theorem chain : f.chain x = s.chain x := by
  unfold State.chain
  rw [chainFrom_congr h.records, h.records, h.page]

theorem journal : f.journal q = s.journal q := by
  unfold State.journal
  rw [journalFrom_congr h.records, h.head, h.records]

theorem slotOf (v : Record) : f.slotOf v = s.slotOf v := by
  unfold State.slotOf
  simp only [h.slotState]

theorem newerLink_eq : newerLink f r = newerLink s r := by
  unfold newerLink
  simp only [h.record, h.slotOf, h.journal]

theorem olderLink_eq : olderLink f r = olderLink s r := by
  unfold olderLink
  simp only [h.record, h.newerLink_eq]

theorem olderBorneOut_eq : olderBorneOut f r x = olderBorneOut s r x := by
  unfold olderBorneOut
  simp only [h.record, h.chain]

theorem headAfter_eq : headAfter f r x = headAfter s r x := by
  unfold headAfter
  rw [h.page, h.olderBorneOut_eq]

theorem nextStart_eq : nextStart f = nextStart s := by
  unfold nextStart
  rw [h.sweep]
  simp only [h.head, journalLink_congr h.records]

theorem cursorAfter_eq : cursorAfter f r = cursorAfter s r := by
  unfold cursorAfter
  rw [h.sweep, h.record, h.nextStart_eq]

theorem freedRecords_of (hfreed : freedRecords f t r x) : freedRecords s t r x := by
  intro y
  rw [hfreed, h.record, h.chain, h.olderBorneOut_eq, h.olderLink_eq, h.newerLink_eq]

theorem sweepFollows_of (hfollows : sweepFollows f t r) : sweepFollows s t r := by
  unfold sweepFollows at hfollows ⊢
  rw [h.sweep, h.cursorAfter_eq, h.olderLink_eq] at hfollows
  exact hfollows

theorem slotAfter_eq : slotAfter f r q = { slotAfter s r q with damaged := (f.slot q).damaged } := by
  unfold slotAfter
  rw [h.newerLink_eq, h.olderLink_eq, h.slot]

theorem threaded (hthreaded : Threaded s r x q) (hpool : f.pool = s.pool) : Threaded f r x q where
  page := by rw [h.record]; exact hthreaded.page
  slot := by rw [h.record]; exact hthreaded.slot
  occupied := ⟨hthreaded.occupied.1, by rw [h.slotState]; exact hthreaded.occupied.2⟩
  chain := by rw [h.chain]; exact hthreaded.chain
  journal := by rw [h.journal]; exact hthreaded.journal
  allocated := by rw [hpool]; exact hthreaded.allocated
  records := by rw [h.record]; exact hthreaded.records
  entry := by rw [h.page]; exact hthreaded.entry

theorem sweepPast : (f.sweepPast r).sweep = (s.sweepPast r).sweep := by
  have hstart : f.walkStart = s.walkStart := by
    funext e
    unfold State.walkStart
    rw [journalLink_congr h.records, h.sweep, h.head]
  have hlink : ∀ met o, f.walkLink met o = s.walkLink met o := fun met o => by
    unfold State.walkLink
    rw [journalLink_congr h.records]
  have hto : f.walkTo r = s.walkTo r := by
    unfold State.walkTo State.walkNext
    rw [hlink, h.sweep, h.record]
  have hwalk : (f.walkPast r).sweep = (s.walkPast r).sweep := by
    unfold State.walkPast
    rw [hto]
    split
    · rw [h.sweep]
      rfl
    · show ({ f.sweep with cursor := _, walkSlot := _, walked := _ } : Sweep) = _
      unfold State.laterSlots
      rw [h.sweep, hstart]
      rfl
  have hmoved : (f.movedPast r).sweep = (s.movedPast r).sweep := by
    unfold movedPast
    rw [h.sweep]
    split
    · exact hwalk
    · exact h.sweep
  rw [sweepPast_sweep, sweepPast_sweep, hmoved, leaveOlder_eq, leaveOlder_eq, h.olderLink_eq]

theorem sweepFreed_eq : sweepFreed f r = sweepFreed s r := by
  unfold sweepFreed
  rw [h.sweepPast, h.sweep]

end Damaged

/-! ## Jobs that name a record -/

theorem namesJob_eq_false (hqueue : s.wp.queue = []) (hbacklog : s.wp.backlog = [])
    (hchan : ∀ d y, d < 4 → (s.chan d).job = some y → y.record ≠ r) : s.namesJob r = false := by
  unfold State.namesJob
  rw [hqueue, hbacklog, Bool.or_eq_false_iff]
  refine ⟨rfl, List.any_eq_false.2 fun d hd => ?_⟩
  cases hjob : (s.chan d).job with
  | none => exact nofun
  | some y => simpa using hchan d y (mem_chanIds.1 hd) hjob

/-! ## The report and the damage (R66, steps 1 and 2) -/

/-- A failed preservation of slot `q`'s record, page number `g`, reported, its mark damaged under BREAK and WAIT. -/
def preserveFailed (w : State) (q g : Nat) (held : Option Nat) : State :=
  { w with
    slots := if w.wp.policy = .refuse then w.slots else w.slots.set .freed q { w.slot q with damaged := true }
    mgmt := reported w.mgmt 9 .copy held (some (addrAt g 0)) (w.windowOf g) }

theorem preserveFailed_slot (i : Nat) : (w.preserveFailed q g held).slot i =
    if i = q then { w.slot q with damaged := (w.slot q).damaged || w.wp.policy != .refuse } else w.slot i := by
  show (if w.wp.policy = .refuse then w.slots else w.slots.set .freed q { w.slot q with damaged := true }).get .freed i = _
  by_cases hpolicy : w.wp.policy = .refuse
  · rw [if_pos hpolicy, hpolicy]
    split
    next hi =>
      rw [hi]
      simp only [bne_self_eq_false, Bool.or_false]
      rfl
    · rfl
  · rw [if_neg hpolicy]
    refine (Table.get_set ..).trans ?_
    split
    · simp [hpolicy]
    · rfl

theorem preserveFailed_damaged : Damaged w (w.preserveFailed q g held) where
  records := rfl
  pst := rfl
  sweep := rfl
  slot i := by
    rw [preserveFailed_slot]
    split
    next hi => rw [hi]
    · rfl

/-- The steps of a failed preservation of record `r`, read as `v`, once its page's entry is checked. -/
def failureSteps (r : Nat) (v : Record) (s : State) : State :=
  let held := v.pageIndex.bind fun p => s.heldBehind p r
  let s := (s.raise .preserveFail).captureCopy held v.pageNumber
  let q := s.slotOf v
  let s : State := match q with
    | none => s
    | some q => if s.wp.policy = .refuse then s else s.damage q
  let s := (s.freeRecord r).stopWaiting r
  match v.pageIndex, held with
  | some p, some n => s.afterFailure p n q
  | _, _ => s

theorem preservationFailure_steps (w : State) (r : Nat) :
    w.preservationFailure r = failureSteps r (w.record r) (w.checkPageOf (w.record r).pageIndex) := rfl

theorem preserveFailed_eq (held : Option Nat) :
    (if ((w.raise .preserveFail).captureCopy held (some g)).wp.policy = .refuse then
      (w.raise .preserveFail).captureCopy held (some g)
    else ((w.raise .preserveFail).captureCopy held (some g)).damage q) = w.preserveFailed q g held := by
  have hcapture : (w.raise .preserveFail).captureCopy held (some g) =
      { w with mgmt := reported w.mgmt 9 .copy held (some (addrAt g 0)) (w.windowOf g) } := capture_raise w .preserveFail ..
  rw [hcapture]
  unfold preserveFailed
  dsimp only
  split <;> rfl

section
variable (hpage : (w.record r).pageIndex = some x) (hnumber : (w.record r).pageNumber = some g)
  (hslot : w.slotOf (w.record r) = some q) (hparity : (w.page x).parityOk = true)
include hpage hnumber hslot hparity

theorem preservationFailure_eq : w.preservationFailure r =
    match w.heldBehind x r with
    | none => ((w.preserveFailed q g none).freeRecord r).stopWaiting r
    | some n => State.afterFailure x n (some q) (((w.preserveFailed q g (some n)).freeRecord r).stopWaiting r) := by
  have hq : ∀ held, ((w.raise .preserveFail).captureCopy held (some g)).slotOf (w.record r) = some q := fun held =>
    (congrFun (congrArg (fun u : State => u.slotOf) (capture_raise w .preserveFail ..)) _).trans hslot
  have hcheck : w.checkPageOf (w.record r).pageIndex = w := by
    rw [hpage]
    exact checkPage_sound hparity
  rw [preservationFailure_steps, hcheck]
  unfold failureSteps
  dsimp only
  rw [hpage, Option.bind_some, hnumber, hq]
  dsimp only
  rw [preserveFailed_eq]
  cases w.heldBehind x r <;> rfl

/-- A failed preservation that no write is HELD behind. -/
theorem preservationFailure_quiet (hheld : w.heldBehind x r = none) :
    w.preservationFailure r = ((w.preserveFailed q g none).freeRecord r).stopWaiting r := by
  rw [preservationFailure_eq hpage hnumber hslot hparity, hheld]

/-- A failed preservation that write `n` is HELD behind. -/
theorem preservationFailure_held (hheld : w.heldBehind x r = some n) : w.preservationFailure r =
    State.afterFailure x n (some q) (((w.preserveFailed q g (some n)).freeRecord r).stopWaiting r) := by
  rw [preservationFailure_eq hpage hnumber hslot hparity, hheld]

end

end Sys2Proof.Machine.State
end

section
/-! What a write HELD behind a failed preservation does (R66, step 4). -/

namespace Sys2Proof.Machine.State

variable {s t u v w f : State} {k done p r n x q g : Nat} {m : MemoryPort} {j : Job} {held : Option Nat}

/-- A list's only entry issued, and the page decided again. -/
theorem decidePage_issueHead (hparity : (u.page p).parityOk = true) (hnext : (u.entry n).next = none)
    (hup : u.mem.up = true) : ∃ entries pst,
    (u.issueHead p n (u.entry n).address).decidePage p = { u with
      entries := entries, pst := pst, tags := u.tags.set .idle n (queuedAgain u n)
      mem := { u.mem with takeList := u.mem.takeList ++ [n], sendQueue := u.mem.sendQueue ++ [n] } } ∧
    (∀ m, entries.get .freed m = if m = n then issuedAgain (u.entry n) else u.entry m) ∧
    ∀ y, pst.get .clear y = if y = p then { u.page p with waitHead := none, waitTail := none } else u.page y := by
  obtain ⟨entries, pst, hissue, hentries, hpst⟩ := issueHead_single (p := p) (e := u.entry n) rfl hnext hup (u.entry n).address
  have hself : pst.get .clear p = { u.page p with waitHead := none, waitTail := none, parityOk := true } :=
    (hpst p).trans (if_pos rfl)
  refine ⟨entries, pst, ?_, hentries, fun y => (hpst y).trans ?_⟩
  · rw [hissue]
    exact decidePageWith_none (k := 128) (congrArg PstEntry.parityOk hself) (congrArg PstEntry.waitHead hself)
  · rw [← hparity]

/-- The write passes: under BREAK and WAIT at the failed record's mark, and in DEGRADED. -/
theorem afterFailure_passes (hparity : (u.page p).parityOk = true) (hhead : (u.page p).waitHead = some n)
    (hheld : (u.entry n).state = .held) (hkind : (u.entry n).kind = .write) (hnext : (u.entry n).next = none)
    (hup : u.mem.up = true) (hrestoring : u.restoring = false) (hrecords : ∀ y, (u.record y).parityOk = true)
    (hpasses : (u.ctl.state ≠ .degraded ∧ u.effective (u.entry n).stamp = some q ∧ u.wp.policy ≠ .refuse) ∨
      u.ctl.state = .degraded) : ∃ entries pst,
    u.afterFailure p n (some q) = { u with
      entries := entries, pst := pst, tags := u.tags.set .idle n (queuedAgain u n)
      mem := { u.mem with takeList := u.mem.takeList ++ [n], sendQueue := u.mem.sendQueue ++ [n] } } ∧
    (∀ m, entries.get .freed m = if m = n then issuedAgain (u.entry n) else u.entry m) ∧
    ∀ y, pst.get .clear y = if y = p then { u.page p with waitHead := none, waitTail := none } else u.page y := by
  unfold State.afterFailure
  obtain ⟨hctl, heffective, hpolicy⟩ | hdegraded := hpasses
  · rw [if_pos ⟨hctl, rfl, heffective⟩]
    have hissued := decidePage_issueHead (p := p) (n := n) hparity hnext hup
    cases hp : u.wp.policy with
    | refuse => exact absurd hp hpolicy
    | _ => exact hissued
  · rw [if_neg fun h => h.1 hdegraded]
    exact decidePage_single hparity hhead (Proofs.isListed_iff.2 (.inr (.inl hheld))) hkind hnext hup
      (decideWriteWith_passes hrestoring (fun y _ => hrecords y) (.inl hdegraded))

/-- A first-error record that is filled takes no capture (R176). -/
theorem capture_filled (h : u.mgmt.firstError.kind ≠ .none) (kind : ErrKind) (tag : Option Nat) (a : Option Addr)
    (b : Option Nat) : u.capture kind tag a b =
      { u with mgmt := { u.mgmt with firstError := { u.mgmt.firstError with more := true } } } := by
  unfold State.capture
  exact if_neg h

theorem reported_filled (m : Mgmt) (flag : Nat) {kind : ErrKind} (hkind : kind ≠ .none) (tag : Option Nat) (a : Option Addr)
    (b : Option Nat) : (reported m flag kind tag a b).firstError.kind ≠ .none := by
  unfold reported
  dsimp only
  split
  · exact hkind
  next h => exact h

/-- The write as it has left its list to be refused. -/
def refusing (u : State) (p n : Nat) : State :=
  { u with
    entries := u.entries.set .freed n { u.entry n with next := none }
    pst := u.pst.set .clear p { u.page p with waitHead := none, waitTail := none, parityOk := true }
    mgmt := { u.mgmt with firstError := { u.mgmt.firstError with more := true } } }

/-- Under REFUSE the write is refused. -/
theorem afterFailure_refused (hbusy : (u.entry n).state ≠ .free) (hnext : (u.entry n).next = none)
    (hup : u.port.up = true) (hctl : u.ctl.state ≠ .degraded) (heffective : u.effective (u.entry n).stamp = some q)
    (hpolicy : u.wp.policy = .refuse) (hfilled : u.mgmt.firstError.kind ≠ .none) :
    u.afterFailure p n (some q) = (u.refusing p n).refuse n .preserveFailed := by
  have hpop : (u.captureEntry .refusal n).popHead p n = u.refusing p n := by
    unfold State.captureEntry
    rw [capture_filled hfilled, popHead_single (by exact rfl) (by exact hnext)]
    rfl
  have hself : (u.refusing p n).page p = { u.page p with waitHead := none, waitTail := none, parityOk := true } :=
    Table.get_set_same ..
  unfold State.afterFailure
  rw [if_pos ⟨hctl, rfl, heffective⟩, hpolicy]
  dsimp only
  rw [hpop]
  refine decidePageWith_refused (k := 128) (by exact hup) ?_ (by rw [hself]) (by rw [hself]) _
  rw [show (u.refusing p n).entry n = _ from Table.get_set_same ..]
  exact hbusy

/-! ## A failed preservation's record, freed, as the rest sees it -/

section
variable (h : JobOver s w k done m) (hthreaded : Threaded s r x q) (hjob : w.namesJob r = false)
  (hwait : s.pool.wait = [])
include h hthreaded hjob hwait

theorem preserveFailed_freed (held : Option Nat) :
    ∃ t, ((w.preserveFailed q g held).freeRecord r).stopWaiting r = t ∧ freedRecords s t r x ∧ sweepFollows s t r ∧
    (∀ y, t.page y = if y = x then { s.page x with chainHead := headAfter s r x } else s.page y) ∧
    (∀ y, t.slot y = if y = q then
      { slotAfter s r q with damaged := (s.slot q).damaged || s.wp.policy != .refuse } else s.slot y) ∧
    t = { w with
      records := t.records, pst := t.pst, slots := t.slots, pool := { s.pool with free := s.pool.free ++ [r] }
      sweep := sweepFreed s r, mgmt := reported s.mgmt 9 .copy held (some (addrAt g 0)) (s.windowOf g) } := by
  have hslotf : ∀ i, (w.preserveFailed q g held).slot i = if i = q then
      { s.slot q with damaged := (s.slot q).damaged || s.wp.policy != .refuse } else s.slot i := fun i => by
    rw [preserveFailed_slot, slot_congr h.slots, h.wp]
  generalize hf : w.preserveFailed q g held = f at hslotf
  have hd : Damaged s f := by
    rw [← hf]
    refine ⟨h.records, h.pst, h.sweep, fun i => ?_⟩
    rw [hf, hslotf]
    split
    next hi => rw [hi]
    · rfl
  have hpool : f.pool = s.pool := by rw [← hf]; exact h.pool
  obtain ⟨t, ht, hrec, hfollows, hpage, hslot, hrest⟩ := freeRecord_stopped (hd.threaded hthreaded hpool)
    (by rw [← hf]; exact hjob) (by rw [hpool]; exact hwait)
  refine ⟨t, ht, hd.freedRecords_of hrec, hd.sweepFollows_of hfollows, fun y => ?_, fun y => ?_, ?_⟩
  · rw [hpage, hd.headAfter_eq, hd.page]
  · rw [hslot, hd.slotAfter_eq, hslotf, hslotf, if_pos rfl]
    split <;> rfl
  · rw [hd.sweepFreed_eq, hpool] at hrest
    rw [← h.mgmt, ← h.windowOf]
    subst hf
    exact hrest

end

end Sys2Proof.Machine.State
end

section
/-! A job's end that frees its record: the end of the step, and the write HELD for the job issued. -/

namespace Sys2Proof.Machine.State

variable {s t u v w : State} {k done n r x q : Nat} {m : MemoryPort} {damaged : Bool} {sweep : Sweep} {mgmt : Mgmt}

/-- State `t` is `s` as the job of the channel that owns tag `k` has ended with `done` chunks written and memory port `m`, and
its record `r` of page `x` and slot `q` has been freed, its frame queued. -/
structure JobFreed (s t : State) (k done r x q : Nat) (m : MemoryPort) (damaged : Bool) (sweep : Sweep) (mgmt : Mgmt) :
    Prop where
  records : freedRecords s t r x
  follows : sweepFollows s t r
  chan : ∀ y, t.chan y = if y = chanOf k then { s.chan (chanOf k) with state := .idle, job := none, done := done }
    else s.chan y
  copyTag : ∀ y, t.copyTag y = if y = k then { s.copyTag y with use := .free } else s.copyTag y
  page : ∀ y, t.page y = if y = x then { s.page x with chainHead := headAfter s r x } else s.page y
  slot : ∀ y, t.slot y = if y = q then { slotAfter s r q with damaged := damaged } else s.slot y
  rest : t = { s with
    records := t.records, pst := t.pst, slots := t.slots, channels := t.channels, copyTags := t.copyTags
    tags := s.tags.set .idle k .idle, mem := m, pool := { s.pool with free := s.pool.free ++ [r] }
    sweep := sweep, mgmt := mgmt }

namespace JobFreed

variable (h : JobFreed s t k done r x q m damaged sweep mgmt)
include h

theorem exists_eq : ∃ records pst slots channels copyTags, t = { s with
    records := records, pst := pst, slots := slots, channels := channels, copyTags := copyTags
    tags := s.tags.set .idle k .idle, mem := m, pool := { s.pool with free := s.pool.free ++ [r] }
    sweep := sweep, mgmt := mgmt } := ⟨_, _, _, _, _, h.rest⟩

theorem entry (y : Nat) : t.entry y = s.entry y := by
  rw [h.rest]
  rfl

theorem waitHead (y : Nat) : (t.page y).waitHead = (s.page y).waitHead := by
  rw [h.page]
  split
  next hy => rw [hy]
  · rfl

theorem parity (y : Nat) : (t.page y).parityOk = (s.page y).parityOk := by
  rw [h.page]
  split
  next hy => rw [hy]
  · rfl

theorem sound (hrecords : ∀ y, (s.record y).parityOk = true) (y : Nat) : (t.record y).parityOk = true := by
  rw [h.records]
  split
  · rfl
  · exact hrecords y

theorem effective (z : Seq) : t.effective z = s.effective z := by
  refine effective_congr_live (fun i => ?_) (fun i => ?_) z
  · rw [h.slot]
    split
    next hi => rw [hi]; rfl
    · rfl
  · rw [h.slot]
    split
    next hi => rw [hi]; rfl
    · rfl

/-- The end of the step, with nothing decided again. -/
theorem finish (hsettled : s.Settled) (hqueue : s.wp.queue = []) (hdemand : sweep.demand = [])
    (hoffer : sweep.offer = none) : ∃ v, t.finish = v ∧ freedRecords s v r x ∧ sweepFollows s v r ∧
      (∀ y, v.chan y = if y = chanOf k then { s.chan (chanOf k) with state := .idle, job := none, done := done }
        else s.chan y) ∧
      (∀ y, v.copyTag y = if y = k then { s.copyTag y with use := .free } else s.copyTag y) ∧
      (∀ y, v.page y = if y = x then { s.page x with chainHead := headAfter s r x } else s.page y) ∧
      (∀ y, v.slot y = if y = q then { slotAfter s r q with damaged := damaged } else s.slot y) ∧
      v = { s with
        records := v.records, pst := v.pst, slots := v.slots, channels := v.channels, copyTags := v.copyTags
        tags := s.tags.set .idle k .idle, mem := m, pool := { s.pool with free := s.pool.free ++ [r] }
        port := { s.port with intake := intakeAfter s v }, sweep := sweep, mgmt := quiesced s v mgmt } := by
  have hrec := h.records
  have hfollows := h.follows
  have hchan := h.chan
  have hcopy := h.copyTag
  have hpage := h.page
  have hslot := h.slot
  obtain ⟨records, pst, slots, channels, copyTags, rfl⟩ := h.exists_eq
  obtain ⟨v, hv, hspec⟩ := finish_jobEnd (u := { s with
    records := records, pst := pst, slots := slots, channels := channels, copyTags := copyTags
    tags := s.tags.set .idle k .idle, mem := m, pool := { s.pool with free := s.pool.free ++ [r] }
    sweep := sweep, mgmt := mgmt }) hsettled rfl hqueue hdemand hoffer
  rw [hv]
  refine ⟨v, rfl, ?_⟩
  rw [show v.records = records by rw [hspec], show v.pst = pst by rw [hspec], show v.slots = slots by rw [hspec],
    show v.channels = channels by rw [hspec], show v.copyTags = copyTags by rw [hspec]]
  refine ⟨?_, ?_, ?_, ?_, ?_, ?_, hspec⟩
  · rw [hspec]; exact hrec
  · rw [hspec]; exact hfollows
  · rw [hspec]; exact hchan
  · rw [hspec]; exact hcopy
  · rw [hspec]; exact hpage
  · rw [hspec]; exact hslot

/-- The end of the step in which the write HELD for the job, alone in its list, has been issued. -/
theorem finish_issued (hsettled : s.Settled) (hqueue : s.wp.queue = []) (hdemand : sweep.demand = [])
    (hoffer : sweep.offer = none) (hn : n < 128) {entries : Table Entry} {pst : Table PstEntry}
    (hu : u = { t with
      entries := entries, pst := pst, tags := t.tags.set .idle n (queuedAgain t n)
      mem := { t.mem with takeList := t.mem.takeList ++ [n], sendQueue := t.mem.sendQueue ++ [n] } })
    (hentries : ∀ y, entries.get .freed y = if y = n then issuedAgain (t.entry n) else t.entry y)
    (hpst : ∀ y, pst.get .clear y = if y = x then { t.page x with waitHead := none, waitTail := none } else t.page y)
    (hm : m.responseTimeout = s.mem.responseTimeout) :
    ∃ v, u.finish = v ∧ freedRecords s v r x ∧ sweepFollows s v r ∧
      (∀ y, v.chan y = if y = chanOf k then { s.chan (chanOf k) with state := .idle, job := none, done := done }
        else s.chan y) ∧
      (∀ y, v.copyTag y = if y = k then { s.copyTag y with use := .free } else s.copyTag y) ∧
      entriesAre s v n (issuedAgain (s.entry n)) ∧
      (∀ y, v.page y = if y = x then
        { s.page x with chainHead := headAfter s r x, waitHead := none, waitTail := none } else s.page y) ∧
      (∀ y, v.slot y = if y = q then { slotAfter s r q with damaged := damaged } else s.slot y) ∧
      v = { s with
        records := v.records, pst := v.pst, slots := v.slots, channels := v.channels, copyTags := v.copyTags
        entries := v.entries, tags := (s.tags.set .idle k .idle).set .idle n (queuedAgain s n)
        mem := { m with takeList := m.takeList ++ [n], sendQueue := m.sendQueue ++ [n] }
        pool := { s.pool with free := s.pool.free ++ [r] }, sweep := sweep, mgmt := mgmt } := by
  have hbusy : (u.entry n).state ≠ .free := by
    rw [hu, show State.entry _ n = entries.get .freed n from rfl, hentries, if_pos rfl]
    exact nofun
  have hidle : u.ArbiterIdle := by
    rw [hu]
    refine arbiterIdle_of_empty ?_ ?_ ?_
    · rw [h.rest]
      exact hqueue
    · rw [h.rest]
      exact hdemand
    · rw [h.rest]
      exact hoffer
  have hdue : u.port.due = 0 := by
    rw [hu, h.rest]
    exact hsettled.due
  have hqueued : queuedAgain t n = queuedAgain s n := by
    unfold queuedAgain
    rw [h.entry, show t.now = s.now by rw [h.rest], show t.mem = m by rw [h.rest], hm]
  rw [finish_busy hidle hdue hn hbusy]
  refine ⟨u, rfl, ?_, ?_, ?_, ?_, fun y => ?_, fun y => ?_, ?_, ?_⟩
  · rw [hu]; exact h.records
  · rw [hu]; exact h.follows
  · rw [hu]; exact h.chan
  · rw [hu]; exact h.copyTag
  · rw [hu]
    refine (hentries y).trans ?_
    rw [h.entry, h.entry]
  · rw [hu]
    refine (hpst y).trans ?_
    rw [h.page, h.page, if_pos rfl]
    split <;> rfl
  · rw [hu]; exact h.slot
  · rw [hqueued] at hu
    obtain ⟨records, pst', slots, channels, copyTags, rfl⟩ := h.exists_eq
    subst hu
    rfl

end JobFreed

end Sys2Proof.Machine.State
end

section
/-! The failure of a preservation (O53). -/

namespace Sys2Proof.Proofs

open Sys2Proof.Machine Sys2Proof.Machine.State

theorem sweepFreed_kept (s : State) (r : Nat) :
    (sweepFreed s r).demand = s.sweep.demand ∧ (sweepFreed s r).offer = s.sweep.offer := by
  obtain ⟨-, -, hdemand, hoffer⟩ := s.sweepPast_kept r
  exact ⟨hdemand, hoffer⟩

theorem reportJob_failed {w : State} {j : Job} (horphaned : j.orphaned = false) (hkind : j.kind = .preservation)
    (hparity : (w.record j.record).parityOk = true) : w.reportJob j false = w.preservationFailure j.record := by
  unfold State.reportJob
  rw [if_neg (by rw [horphaned]; exact nofun), checkRec_sound hparity, hkind]

/-- No other job names the record of a job that is over. -/
theorem jobOver_unnamed {s w : State} {k done r : Nat} {m : MemoryPort} (h : JobOver s w k done m)
    (hqueue : s.wp.queue = []) (hbacklog : s.wp.backlog = [])
    (hothers : ∀ d y, d < 4 → d ≠ chanOf k → (s.chan d).job = some y → y.record ≠ r) : w.namesJob r = false := by
  refine namesJob_eq_false (by rw [h.wp]; exact hqueue) (by rw [h.wp]; exact hbacklog) fun d y hd hy => ?_
  rw [h.chan] at hy
  split at hy
  · cases hy
  next hne => exact hothers d y hd hne hy

section
variable {s w t : State} {k done n r x q g : Nat} {m : MemoryPort}

/-- A failed preservation's record, freed. -/
theorem preserveFailed_jobFreed (h : JobOver s w k done m) (hthreaded : Threaded s r x q)
    (hjob : w.namesJob r = false) (hwait : s.pool.wait = []) (held : Option Nat) : ∃ t,
    ((w.preserveFailed q g held).freeRecord r).stopWaiting r = t ∧
    JobFreed s t k done r x q m ((s.slot q).damaged || s.wp.policy != .refuse) (sweepFreed s r)
      (reported s.mgmt 9 .copy held (some (addrAt g 0)) (s.windowOf g)) := by
  obtain ⟨t, ht, hrec, hfollows, hpage, hslot, hrest⟩ := preserveFailed_freed (g := g) h hthreaded hjob hwait held
  refine ⟨t, ht, hrec, hfollows, fun y => ?_, fun y => ?_, hpage, hslot, ?_⟩
  · rw [← h.chan, hrest]
    rfl
  · rw [← h.copyTag, hrest]
    rfl
  · rw [show t.channels = w.channels by rw [hrest], show t.copyTags = w.copyTags by rw [hrest]]
    obtain ⟨channels, copyTags, rfl⟩ := h.exists_eq
    exact hrest

/-- Under REFUSE the write HELD behind the failed record is refused at the step's end. -/
theorem finish_failed_refused {mgmt : Mgmt} {sweep : Sweep}
    (h : JobFreed s t k done r x q m ((s.slot q).damaged || s.wp.policy != .refuse) sweep mgmt)
    (hsettled : s.Settled) (hqueue : s.wp.queue = []) (hdemand : sweep.demand = []) (hoffer : sweep.offer = none)
    (hup : s.port.up = true) (hbusy : (s.entry n).state ≠ .free) (hparity : (s.page x).parityOk = true)
    (hpolicy : s.wp.policy = .refuse) : ∃ v, ((t.refusing x n).refuse n .preserveFailed).finish = v ∧
      freedRecords s v r x ∧ sweepFollows s v r ∧
      ((∀ y, v.chan y = if y = chanOf k then { s.chan (chanOf k) with state := .idle, job := none, done := done }
        else s.chan y) ∧
        ∀ y, v.copyTag y = if y = k then { s.copyTag y with use := .free } else s.copyTag y) ∧
      entriesAre s v n .freed ∧
      (∀ y, v.page y = if y = x then
        { s.page x with chainHead := headAfter s r x, waitHead := none, waitTail := none } else s.page y) ∧
      (∀ y, v.slot y = if y = q then slotAfter s r q else s.slot y) ∧
      v = { s with
        records := v.records, pst := v.pst, slots := v.slots, channels := v.channels, copyTags := v.copyTags
        entries := v.entries, tags := s.tags.set .idle k .idle, mem := m
        pool := { s.pool with free := s.pool.free ++ [r] }
        port := credited s v [.completion n .refused .preserveFailed []]
        activity := counted s (s.entry n).window fun a => { a with refusals := satInc a.refusals }
        sweep := { sweep with drainSet := sweep.drainSet.filter (· != n) }
        mgmt := quiesced s v { mgmt with firstError := { mgmt.firstError with more := true } } } := by
  have hentry : ∀ y, (t.refusing x n).entry y = if y = n then { s.entry n with next := none } else s.entry y := fun y => by
    refine (Table.get_set ..).trans ?_
    rw [h.entry]
    split
    · rfl
    · exact h.entry y
  have hself : (t.refusing x n).entry n = { s.entry n with next := none } := (hentry n).trans (if_pos rfl)
  have hpage : ∀ y, (t.refusing x n).page y = if y = x then
      { s.page x with chainHead := headAfter s r x, waitHead := none, waitTail := none } else s.page y := fun y => by
    refine (Table.get_set ..).trans ?_
    rw [h.page, if_pos rfl, ← hparity]
    split
    · rfl
    next hy => exact (h.page y).trans (if_neg hy)
  have hslot : ∀ y, t.slot y = if y = q then slotAfter s r q else s.slot y := fun y => by
    rw [h.slot, hpolicy]
    split
    · simp only [bne_self_eq_false, Bool.or_false]
      rfl
    · rfl
  have hrec := h.records
  have hfollows := h.follows
  have hchan := h.chan
  have hcopy := h.copyTag
  obtain ⟨records, pst, slots, channels, copyTags, rfl⟩ := h.exists_eq
  obtain ⟨v, hv, hentries, hspec⟩ := finish_refuse hself (by exact hbusy) (by exact hup) (by exact hsettled.due)
    (by exact arbiterIdle_of_empty hqueue hdemand hoffer) .preserveFailed
  have hentered : entriesAre s v n .freed := entriesAre_of_set hentry hentries
  rw [hv]
  refine ⟨v, rfl, ?_⟩
  have hcredited : credited (State.refusing { s with
      records := records, pst := pst, slots := slots, channels := channels, copyTags := copyTags
      tags := s.tags.set .idle k .idle, mem := m, pool := { s.pool with free := s.pool.free ++ [r] }
      sweep := sweep, mgmt := mgmt } x n) v [.completion n .refused .preserveFailed []] =
      credited s v [.completion n .refused .preserveFailed []] := rfl
  rw [hcredited] at hspec
  rw [show v.records = records by rw [hspec]; rfl, show v.slots = slots by rw [hspec]; rfl,
    show v.channels = channels by rw [hspec]; rfl, show v.copyTags = copyTags by rw [hspec]; rfl]
  refine ⟨?_, ?_, ⟨?_, ?_⟩, hentered, ?_, ?_, ?_⟩
  · rw [hspec]; exact hrec
  · rw [hspec]; exact hfollows
  · rw [hspec]; exact hchan
  · rw [hspec]; exact hcopy
  · rw [hspec]; exact hpage
  · rw [hspec]; exact hslot
  · have hpst := congrArg State.pst hspec
    rw [hpst]
    exact hspec

end

end Sys2Proof.Proofs
end

section
/-! The failure of a preservation (O53): nothing HELD behind it, or a write, refused or issued. -/

namespace Sys2Proof.Proofs

open Sys2Proof.Machine Sys2Proof.Machine.State

/-- Settles O53: the record freed, then the write HELD behind it, where there is one. -/
theorem preservationFailureFreesTheRecord : Obligations.PreservationFailureFreesTheRecord := by
  intro s k status reason data c j x q g hsettled hup hport hk hk144 hc htag hbusy hquiet hstate hjob hstatus hretry hkind
    horphaned hcopying hnumber hthreaded hothers hqueue hbacklog hdemand hoffer hwait
  obtain rfl : c = chanOf k.toNat := hc
  obtain ⟨w, hexec, hw⟩ := exec_jobFailed (reason := reason) hup hk hk144 htag hjob hquiet (.inl ⟨hstatus, hretry⟩) hbusy
    hstate
  have hunnamed : w.namesJob j.record = false := jobOver_unnamed hw hqueue hbacklog hothers
  have hreport : w.reportJob j false = w.preservationFailure j.record :=
    reportJob_failed horphaned hkind (by rw [hw.record]; exact hthreaded.records _)
  have hslot : w.slotOf (w.record j.record) = some q := by
    rw [hw.record, slotOf_congr hw.slots]
    exact slotOf_threaded hthreaded
  have hpage : (w.record j.record).pageIndex = some x := by rw [hw.record]; exact hthreaded.page
  have hgpage : (w.record j.record).pageNumber = some g := by rw [hw.record]; exact hnumber
  have hparity : (w.page x).parityOk = true := by rw [hw.page]; exact hthreaded.entry
  obtain ⟨hkeptd, hkepto⟩ := sweepFreed_kept s j.record
  rw [hexec, hreport]
  refine ⟨fun hheld => ?_, fun n hheld hn hnext htail hwrite hrestoring => ?_⟩
  · obtain ⟨t, ht, hfreed⟩ := preserveFailed_jobFreed (g := g) hw hthreaded hunnamed hwait none
    obtain ⟨v, hv, hrec, hfollows, hchan, hcopy, hspec⟩ := hfreed.finish hsettled hqueue (hkeptd.trans hdemand)
      (hkepto.trans hoffer)
    rw [preservationFailure_quiet hpage hgpage hslot hparity ((hw.heldBehind ..).trans hheld), ht]
    exact ⟨v, congrArg _ hv, hrec, hfollows, ⟨hchan, hcopy⟩, hspec⟩
  · obtain ⟨hhead, hnheld, -⟩ := heldBehind_eq_some hheld
    obtain ⟨t, ht, hfreed⟩ := preserveFailed_jobFreed (g := g) hw hthreaded hunnamed hwait (some n)
    rw [preservationFailure_held hpage hgpage hslot hparity ((hw.heldBehind ..).trans hheld), ht]
    have hctl : t.ctl = s.ctl := by rw [hfreed.rest]
    have hwp : t.wp = s.wp := by rw [hfreed.rest]
    refine ⟨fun hguarding heffective hpolicy => ?_, fun hpasses => ?_⟩
    · have hrefused : t.afterFailure x n (some q) = (t.refusing x n).refuse n .preserveFailed :=
        afterFailure_refused (by rw [hfreed.entry, hnheld]; exact nofun) (by rw [hfreed.entry]; exact hnext)
          (by rw [hfreed.rest]; exact hport) (by rw [hctl]; exact hguarding)
          (by rw [hfreed.effective, hfreed.entry]; exact heffective) (by rw [hwp]; exact hpolicy)
          (by rw [hfreed.rest]; exact reported_filled (kind := .copy) s.mgmt 9 (by decide) _ _ _)
      obtain ⟨v, hv, hspec⟩ := finish_failed_refused hfreed hsettled hqueue (hkeptd.trans hdemand) (hkepto.trans hoffer)
        hport (n := n) (by rw [hnheld]; exact nofun) hthreaded.entry hpolicy
      have hdrain : (sweepFreed s j.record).drainSet = s.sweep.drainSet := by
        obtain ⟨_, _, _, _, _, hplace⟩ := s.sweepPast_place j.record
        unfold sweepFreed
        rw [hplace]
      rw [hdrain] at hspec
      rw [hrefused]
      exact ⟨v, congrArg _ hv, hspec⟩
    · obtain ⟨entries, pst, hafter, hentries, hpst⟩ := afterFailure_passes (u := t) (p := x) (n := n) (q := q)
        ((hfreed.parity x).trans hthreaded.entry) ((hfreed.waitHead x).trans hhead) (by rw [hfreed.entry]; exact hnheld)
        (by rw [hfreed.entry]; exact hwrite) (by rw [hfreed.entry]; exact hnext) (by rw [hfreed.rest]; exact hup)
        (by
          obtain ⟨hsweepKind, hsweepPhase, -, -⟩ := s.sweepPast_kept j.record
          rw [← hrestoring, hfreed.rest]
          unfold State.restoring sweepFreed
          dsimp only
          rw [hsweepKind, hsweepPhase])
        (hfreed.sound hthreaded.records)
        (by
          rw [hctl, hwp, hfreed.effective, hfreed.entry]
          exact hpasses)
      obtain ⟨v, hv, hrec, hfollows, hchan, hcopy, hspec⟩ := hfreed.finish_issued hsettled hqueue (hkeptd.trans hdemand)
        (hkepto.trans hoffer) hn hafter hentries hpst rfl
      exact ⟨v, congrArg _ hv, hrec, hfollows, ⟨hchan, hcopy⟩, hspec⟩

end Sys2Proof.Proofs
end

section
/-! A restore's end: its target freed, and the write HELD for a demand decided again (R94, R99). -/

namespace Sys2Proof.Machine.State

variable {s t u v w : State} {k done n r x q g e f : Nat} {m : MemoryPort} {damaged ok : Bool} {sweep : Sweep} {mgmt : Mgmt}
  {j : Job}

/-- What a restore's outcome brings to the sweep engine: a page restored, or a restore fault of page number `g`. -/
def restoredSweep (w : Sweep) (g : Nat) (ok : Bool) : Sweep :=
  if ok = true then { w with report := { w.report with restored := w.report.restored + 1#16 } } else pageFaulted w g

theorem restoredSweep_kept (w : Sweep) (g : Nat) (ok : Bool) : (restoredSweep w g ok).cursor = w.cursor ∧
    (restoredSweep w g ok).boundary = w.boundary ∧ (restoredSweep w g ok).order = w.order ∧
    (restoredSweep w g ok).demand = w.demand ∧ (restoredSweep w g ok).offer = w.offer ∧
    (restoredSweep w g ok).kind = w.kind ∧ (restoredSweep w g ok).phase = w.phase := by
  unfold restoredSweep
  split <;> exact ⟨rfl, rfl, rfl, rfl, rfl, rfl, rfl⟩

/-- What it brings to the management block: nothing, or a copy error. -/
def restoredMgmt (s : State) (g : Nat) (ok : Bool) : Mgmt :=
  if ok = true then s.mgmt else reported s.mgmt 10 .copy none (some (addrAt g 0)) (s.windowOf g)

theorem reportJob_restore (horphaned : j.orphaned = false) (hkind : j.kind = .restore)
    (hparity : (w.record j.record).parityOk = true) (hpage : (w.record j.record).pageIndex = some x)
    (hnumber : (w.record j.record).pageNumber = some g) (ok : Bool) (ht : (w.freeRecord j.record).stopWaiting j.record = t) :
    w.reportJob j ok = State.redecideDemand (some x)
      { t with sweep := restoredSweep t.sweep g ok, mgmt := restoredMgmt t g ok } := by
  unfold State.reportJob
  rw [if_neg (by rw [horphaned]; exact nofun), checkRec_sound hparity, hkind]
  cases ok with
  | true =>
    dsimp only
    unfold State.restoreSuccess
    rw [hpage]
    dsimp only
    rw [ht]
    rfl
  | false =>
    dsimp only
    unfold State.restoreFailure
    dsimp only
    rw [hpage, hnumber, ht, restoreFault_spec]
    rfl

/-- A restore's target, freed, with its outcome noted. -/
theorem restore_jobFreed (h : JobOver s w k done m) (hthreaded : Threaded s r x q) (hjob : w.namesJob r = false)
    (hwait : s.pool.wait = []) (g : Nat) (ok : Bool) : ∃ t, (w.freeRecord r).stopWaiting r = t ∧
    JobFreed s { t with sweep := restoredSweep t.sweep g ok, mgmt := restoredMgmt t g ok } k done r x q m (s.slot q).damaged
      (restoredSweep (sweepFreed s r) g ok) (restoredMgmt s g ok) := by
  have hd : Damaged s w := ⟨h.records, h.pst, h.sweep, fun i => by rw [slot_congr h.slots]⟩
  obtain ⟨t, ht, hrec, hfollows, hpage, hslot, hrest⟩ := freeRecord_stopped (hd.threaded hthreaded h.pool) hjob
    (by rw [h.pool]; exact hwait)
  have hsweep : t.sweep = sweepFreed s r := by rw [← hd.sweepFreed_eq, hrest]
  obtain ⟨hcursor, hboundary, horder, -⟩ := restoredSweep_kept t.sweep g ok
  have hmgmt : restoredMgmt t g ok = restoredMgmt s g ok := by
    unfold restoredMgmt
    rw [show t.mgmt = s.mgmt by rw [hrest]; exact h.mgmt, show t.windowOf g = s.windowOf g by rw [hrest]; exact h.windowOf g]
  refine ⟨t, ht, hd.freedRecords_of hrec, sweepFollows_congr (hd.sweepFollows_of hfollows) hcursor hboundary horder,
    fun y => ?_, fun y => ?_, fun y => ?_, fun y => ?_, ?_⟩
  · rw [← h.chan]
    conv_lhs => rw [hrest]
    rfl
  · rw [← h.copyTag]
    conv_lhs => rw [hrest]
    rfl
  · refine (hpage y).trans ?_
    rw [hd.headAfter_eq, hd.page]
  · refine (hslot y).trans ?_
    rw [hd.slotAfter_eq, slot_congr h.slots]
  · rw [hsweep, hmgmt, show t.channels = w.channels by rw [hrest], show t.copyTags = w.copyTags by rw [hrest]]
    have hrest' : t = { w with
        records := t.records, pst := t.pst, slots := t.slots
        pool := { w.pool with free := w.pool.free ++ [r] }, sweep := sweepFreed w r } := hrest
    conv_lhs => rw [hrest']
    obtain ⟨channels, copyTags, rfl⟩ := h.exists_eq
    rfl

/-! ## The page left without a record -/

theorem olderBorneOut_of_alone (h : s.chain x = [r]) : olderBorneOut s r x = none := by
  rw [← chainOlder_eq]
  refine Option.eq_none_iff_forall_ne_some.2 fun y hy => ?_
  have hfree : (s.record y).state ≠ .free := (chainOlder_eq_some.1 hy).2.1
  obtain ⟨len, hlen⟩ : ∃ len, s.records.cells.length = len + 1 := by
    have hkey := Table.mem_keys_of_get fun hr => hfree (congrArg Record.state hr)
    have hpos := List.length_pos_of_mem hkey
    rw [List.length_map] at hpos
    exact ⟨_, (Nat.succ_pred_eq_of_pos hpos).symm⟩
  have hlink : s.chainLink x [r] (s.record r).older = some y := by
    have holder : s.chainOlder x r = s.chainLink x (r :: (s.chain x).takeWhile fun z => z != r) (s.record r).older := rfl
    rw [h, List.takeWhile_cons_of_neg (by simp)] at holder
    exact holder.symm.trans hy
  unfold State.chain at h
  rw [hlen, State.chainFrom] at h
  cases htop : s.chainLink x [] (s.page x).chainHead with
  | none =>
    rw [htop] at h
    cases h
  | some z =>
    rw [htop] at h
    obtain ⟨rfl, hrest⟩ := List.cons.inj h
    rw [State.chainFrom, hlink] at hrest
    cases hrest

theorem headAfter_of_alone (h : s.chain x = [r]) : headAfter s r x = none := by
  obtain ⟨z, l, hz, hhead⟩ := chain_head (s := s) (x := x) (r := r) (by rw [h]; exact List.mem_singleton.2 rfl)
  rw [h] at hz
  obtain ⟨rfl, -⟩ := List.cons.inj hz
  unfold headAfter
  rw [if_pos hhead]
  exact olderBorneOut_of_alone h

/-- A page without a record has no rollback source. -/
theorem noSource_of_noHead (h : (u.page x).chainHead = none) : noSource u x := by
  intro _
  unfold State.sources State.sinceTarget
  rw [chain_of_noHead h]
  rfl

theorem redecideDemand_some (hparity : (u.page x).parityOk = true) (h : u.heldForDemand x = true) :
    u.redecideDemand (some x) = u.decidePage x := by
  unfold State.redecideDemand
  dsimp only
  rw [checkPage_sound hparity]
  exact if_pos h

theorem heldForDemand_head (h : u.heldForDemand x = true) (hhead : (u.page x).waitHead = some n) :
    (u.entry n).state = .held := by
  unfold State.heldForDemand at h
  rw [hhead] at h
  exact beq_iff_eq.1 (Bool.and_eq_true_iff.1 h).1

end Sys2Proof.Machine.State
end

section
/-! The end of a restore's job (O54). -/

namespace Sys2Proof.Machine.State

variable {s t u v w : State} {k done n r x q g e f : Nat} {m : MemoryPort} {damaged ok : Bool} {sweep : Sweep} {mgmt : Mgmt}
  {rest : List Nat}

section
variable (hparity : (u.page x).parityOk = true) (hhead : (u.page x).waitHead = some n) (hheld : (u.entry n).state = .held)
  (hwrite : (u.entry n).kind = .write) (hchain : (u.page x).chainHead = none)
  (hrecords : ∀ y, (u.record y).parityOk = true)
include hparity hhead hheld hwrite hchain hrecords

/-- In DEGRADED a write on a page without a record, alone in its list, is issued. -/
theorem decidePage_degraded (hnext : (u.entry n).next = none) (hup : u.mem.up = true) (hctl : u.ctl.state = .degraded) :
    ∃ entries pst, u.decidePage x = { u with
      entries := entries, pst := pst, tags := u.tags.set .idle n (queuedAgain u n)
      mem := { u.mem with takeList := u.mem.takeList ++ [n], sendQueue := u.mem.sendQueue ++ [n] } } ∧
    (∀ m, entries.get .freed m = if m = n then issuedAgain (u.entry n) else u.entry m) ∧
    ∀ y, pst.get .clear y = if y = x then { u.page x with waitHead := none, waitTail := none } else u.page y := by
  refine decidePage_single hparity hhead (Proofs.isListed_iff.2 (.inr (.inl hheld))) hwrite hnext hup ?_
  rw [decideWriteWith_noSource (noSource_of_noHead hchain) fun _ y _ => hrecords y]
  exact decideMarksWith_unmarked (.inl hctl)

/-- With an effective mark it takes the head of the free-frame queue. -/
theorem decidePage_allocates (hctl : u.ctl.state ≠ .degraded) (heffective : u.effective (u.entry n).stamp = some e)
    (hfree : u.pool.free = f :: rest) :
    u.decidePage x = State.allocate f x n e { u with pool := { u.pool with free := rest } } := by
  have htop : u.chainTop x = none := by
    unfold State.chainTop
    rw [hchain]
    rfl
  refine decidePageWith_stays (k := 128) hparity hhead (Proofs.isListed_iff.2 (.inr (.inl hheld))) hwrite ?_
  rw [decideWriteWith_noSource (noSource_of_noHead hchain) fun _ y _ => hrecords y,
    decideMarksWith_marked hctl heffective fun y hy => (nomatch hchain.symm.trans hy), decideHeadWith_preserve (.inl htop)]
  exact preserveWith_frame hctl hfree fun y _ => hrecords y

end

/-- With one job to give, an IDLE channel takes it at the step's end. -/
theorem idleChannel_of_channel {c : Nat} (hc : c < 4) (hstate : (u.chan c).state = .idle) (htag : k ∈ chanTags c)
    (hfree : (u.copyTag k).use = .free) : ∃ d, u.idleChannel = some d := by
  refine Option.isSome_iff_exists.1 (List.find?_isSome.2 ⟨c, mem_chanIds.2 hc, ?_⟩)
  rw [hstate, hasFreeTag_of htag hfree]
  rfl

namespace JobFreed

variable (h : JobFreed s t k done r x q m damaged sweep mgmt)
include h

/-- The write HELD for a demand is HELD behind a preservation at the step's end. -/
theorem finish_allocated (hsettled : s.Settled) (hk : 128 ≤ k) (hk144 : k < 144) (hqueue : s.wp.queue = [])
    (hbacklog : s.wp.backlog = []) (hdemand : sweep.demand = []) (hoffer : sweep.offer = none) (hn : n < 128)
    (hup : m.up = true) (hparity : (s.page x).parityOk = true) (halone : s.chain x = [r])
    (hrecords : ∀ y, (s.record y).parityOk = true) : ∃ v,
    (State.allocate f x n e { t with pool := { t.pool with free := rest } }).finish = v ∧
      v.pool = { s.pool with free := rest } ∧
      entriesAre s v n { s.entry n with state := .held, heldOn := some (.record f) } ∧
      (v.record f).state = .copying ∧ (v.record f).pageIndex = some x ∧ (v.record f).slot = some e ∧
      (∀ y, v.page y = if y = x then { s.page x with chainHead := some f } else s.page y) ∧ v.sweep = sweep ∧
      v = { s with
        records := v.records, pst := v.pst, slots := v.slots, entries := v.entries, pool := v.pool
        channels := v.channels, copyTags := v.copyTags, tags := v.tags, mem := v.mem, sweep := v.sweep
        port := { s.port with intake := if s.port.intake = .closed then .closing else s.port.intake }
        wp := v.wp, activity := v.activity, mgmt := v.mgmt } := by
  have hselfpage : t.page x = { s.page x with chainHead := none } := by
    rw [h.page, if_pos rfl, headAfter_of_alone halone]
  obtain ⟨o, records, slots, halloc, -, hrec, -⟩ := allocate_headless (s := { t with pool := { t.pool with free := rest } })
    (p := x) (r := f) (n := n) (x := e) (e := t.entry n) (h.sound hrecords) (congrArg PstEntry.chainHead hselfpage) rfl
    (by rw [h.rest]; show s.wp.queue.length < 128; rw [hqueue]; decide)
  generalize State.allocate f x n e { t with pool := { t.pool with free := rest } } = u at halloc ⊢
  have hu : ({ t with
    records := records, slots := slots
    pst := t.pst.set .clear x { t.page x with chainHead := some f, parityOk := true }
    entries := t.entries.set .freed n { t.entry n with state := .held, heldOn := some (.record f) }
    activity := counted t (t.entry n).window fun c => { c with preserves := satInc c.preserves }
    wp := { t.wp with
      queue := t.wp.queue ++ [⟨.preservation, f, pageOf (t.entry n).address, t.pool.base.toNat + f, false⟩] }
    pool := { t.pool with free := rest }
    port := t.workNoted
    mgmt := lowFlags { t with pool := { t.pool with free := rest } } } : State) = u := halloc.symm
  have huentry : ∀ y, u.entry y = if y = n then { s.entry n with state := .held, heldOn := some (.record f) }
      else s.entry y := fun y => by
    rw [← hu, ← h.entry, ← h.entry]
    exact Table.get_set ..
  have hupage : ∀ y, u.page y = if y = x then { s.page x with chainHead := some f } else s.page y := fun y => by
    rw [← hu]
    refine (Table.get_set ..).trans ?_
    rw [hselfpage, ← hparity]
    split
    · rfl
    next hy => exact (h.page y).trans (if_neg hy)
  have hurecord : u.record f = ⟨.copying, some x, some (pageOf (t.entry n).address), some e, none, o, none, false, true⟩ := by
    rw [← hu]
    exact (hrec f).trans (if_pos rfl)
  have huqueue : u.wp.queue = [⟨.preservation, f, pageOf (t.entry n).address, t.pool.base.toNat + f, false⟩] := by
    rw [← hu]
    show t.wp.queue ++ _ = _
    rw [show t.wp.queue = [] by rw [h.rest]; exact hqueue]
    rfl
  have husweep : u.sweep = sweep := by rw [← hu, show t.sweep = sweep by rw [h.rest]]
  obtain ⟨d, hd⟩ := idleChannel_of_channel (u := u) (k := k) (c := chanOf k) (chanOf_lt hk144)
    (by
      rw [show u.chan (chanOf k) = t.chan (chanOf k) by rw [← hu]; rfl, h.chan, if_pos rfl])
    (mem_chanTags_chanOf hk) (by rw [show u.copyTag k = t.copyTag k by rw [← hu]; rfl, h.copyTag, if_pos rfl])
  obtain ⟨v, hv, -, hspec⟩ := finish_oneJob (s := u) (n := n) hd
    (by rw [← hu]; show t.mem.up = true; rw [h.rest]; exact hup) huqueue
    (by rw [← hu]; show t.wp.backlog = []; rw [h.rest]; exact hbacklog) (by rw [husweep]; exact hdemand)
    (by rw [husweep]; exact hoffer) (by rw [← hu]; show t.port.due = 0; rw [h.rest]; exact hsettled.due) hn
    (by rw [huentry, if_pos rfl]; exact nofun)
  have hvrecord : v.record = u.record := by rw [hspec]; rfl
  have hvpage : v.page = u.page := by rw [hspec]; rfl
  have hventry : v.entry = u.entry := by rw [hspec]; rfl
  have hupool : u.pool = { s.pool with free := rest } := by
    rw [← hu]
    show ({ t.pool with free := rest } : Pool) = _
    rw [show t.pool = { s.pool with free := s.pool.free ++ [r] } by rw [h.rest]]
  refine ⟨v, hv, (show v.pool = u.pool by rw [hspec]).trans hupool, fun y => ?_, ?_, ?_, ?_, fun y => ?_,
    (show v.sweep = u.sweep by rw [hspec]).trans husweep, ?_⟩
  · rw [hventry, huentry]
  · rw [hvrecord, hurecord]
  · rw [hvrecord, hurecord]
  · rw [hvrecord, hurecord]
  · rw [hvpage, hupage]
  · conv_lhs => rw [hspec]
    rw [show v.records = u.records by rw [hspec], show v.pst = u.pst by rw [hspec], show v.slots = u.slots by rw [hspec],
      show v.entries = u.entries by rw [hspec], show v.pool = u.pool by rw [hspec],
      show v.sweep = u.sweep by rw [hspec], show v.wp = { u.wp with queue := [] } by rw [hspec],
      show v.activity = u.activity by rw [hspec], show v.mgmt = u.mgmt by rw [hspec]]
    obtain ⟨records', pst', slots', channels', copyTags', rfl⟩ := h.exists_eq
    subst hu
    rfl

end JobFreed

end Sys2Proof.Machine.State
end

section
/-! The end of a restore's job (O54). -/

namespace Sys2Proof.Proofs

open Sys2Proof.Machine Sys2Proof.Machine.State

section
variable {s w : State} {k : Byte} {status reason : BitVec 4} {data : List Byte} {j : Job} {x q g : Nat}
  {report : Report} {faults : List Nat} {overflow : Bool} {count : Word} {m : Mgmt} {errors : Word}

/-- A restore's job ends by success, or by the error of its last chunk: what the memory port, the sweep engine and the
management block are then. -/
theorem exec_restoreEnds (hup : s.mem.up = true) (hk : 128 ≤ k.toNat) (hk144 : k.toNat < 144)
    (htag : (s.tag k.toNat).state = .outstanding) (hbusy : (s.copyTag k.toNat).use.busy = true)
    (hquiet : ∀ y, y ∈ chanTags (chanOf k.toNat) → y ≠ k.toNat → (s.copyTag y).use.busy = false)
    (hjob : (s.chan (chanOf k.toNat)).job = some j)
    (houtcome : (status = 0#4 ∧ (s.chan (chanOf k.toNat)).state = .running ∧ (s.chan (chanOf k.toNat)).done = 15 ∧
        (s.chan (chanOf k.toNat)).nextChunk = 16 ∧
        (∃ i, (s.copyTag k.toNat).use = .write i) ∧ (s.tag k.toNat).dataGood data = true ∧ m = s.mgmt ∧
        report = { s.sweep.report with restored := s.sweep.report.restored + 1#16 } ∧ faults = s.sweep.faultList ∧
        overflow = s.sweep.faultOverflow ∧ count = s.sweep.faultCount ∧ errors = s.mem.errorCount) ∨
      (status ≠ 0#4 ∧ status ≠ 3#4 ∧
        ((s.chan (chanOf k.toNat)).state = .running ∨ (s.chan (chanOf k.toNat)).state = .stopping) ∧
        m = reported s.mgmt 10 .copy none (some (addrAt g 0)) (s.windowOf g) ∧
        report = { s.sweep.report with faults := s.sweep.report.faults + 1#16 } ∧
        (faults = if s.sweep.faultList.length < 16 then s.sweep.faultList ++ [g] else s.sweep.faultList) ∧
        overflow = (s.sweep.faultOverflow || decide (16 ≤ s.sweep.faultList.length)) ∧
        count = satInc s.sweep.faultCount ∧ errors = satInc s.mem.errorCount)) :
    ∃ w ok, exec (.completion k status reason data) s = .next (w.reportJob j ok).finish ∧
      JobOver s w k.toNat (if status = 0#4 then 16 else (s.chan (chanOf k.toNat)).done)
        { endedMem s k.toNat with errorCount := errors } ∧
      restoredSweep (sweepFreed s j.record) g ok = { sweepFreed s j.record with
        report := report, faultList := faults, faultOverflow := overflow, faultCount := count } ∧
      restoredMgmt s g ok = m := by
  obtain ⟨_, _, _, _, _, hplace⟩ := s.sweepPast_place j.record
  obtain ⟨rfl, hstate, hdone, hchunk, ⟨i, huse⟩, hgood, rfl, rfl, rfl, rfl, rfl, rfl⟩ |
    ⟨hstatus, hretry, hstate, rfl, rfl, rfl, rfl, rfl, rfl⟩ := houtcome
  · obtain ⟨w, hexec, hw⟩ := exec_jobDone (reason := reason) hup hk hk144 htag hjob hquiet hgood huse hstate hchunk hdone
    refine ⟨w, true, hexec, ?_, ?_, rfl⟩
    · rw [if_pos rfl]
      exact hw
    · unfold restoredSweep sweepFreed
      rw [if_pos rfl, hplace]
  · obtain ⟨w, hexec, hw⟩ := exec_jobFailed (reason := reason) hup hk hk144 htag hjob hquiet (.inl ⟨hstatus, hretry⟩) hbusy
      hstate
    refine ⟨w, false, hexec, ?_, ?_, rfl⟩
    · rw [if_neg hstatus]
      exact hw
    · unfold restoredSweep sweepFreed pageFaulted
      rw [if_neg nofun, hplace]

end

/-- Settles O54: the target freed, its outcome noted, and the write HELD for the demand issued or HELD behind a
preservation. -/
theorem restoreJobsEnd : Obligations.RestoreJobsEnd := by
  intro s k status reason data c j x q g report faults overflow count m errors hsettled hup hk hk144 hc htag hbusy hquiet hjob
    hkind horphaned hrestoring hnumber hthreaded hothers hqueue hbacklog hdemand hoffer hwait houtcome
  obtain rfl : c = chanOf k.toNat := hc
  obtain ⟨w, ok, hexec, hw, hsweep, hmgmt⟩ := exec_restoreEnds (reason := reason) hup hk hk144 htag hbusy hquiet hjob houtcome
  have hunnamed : w.namesJob j.record = false := jobOver_unnamed hw hqueue hbacklog hothers
  obtain ⟨t, ht, hfreed⟩ := restore_jobFreed hw hthreaded hunnamed hwait g ok
  have hreport := reportJob_restore horphaned hkind (by rw [hw.record]; exact hthreaded.records _)
    (by rw [hw.record]; exact hthreaded.page) (by rw [hw.record]; exact hnumber) ok ht
  rw [hsweep, hmgmt] at hfreed
  generalize ({ t with sweep := restoredSweep t.sweep g ok, mgmt := restoredMgmt t g ok } : State) = u at hfreed hreport
  have huentries : u.entries = s.entries := by rw [hfreed.rest]
  have huheld : u.heldForDemand x = s.heldForDemand x := heldForDemand_congr huentries (hfreed.waitHead x)
  have huparity : (u.page x).parityOk = true := (hfreed.parity x).trans hthreaded.entry
  obtain ⟨hkeptd, hkepto⟩ := sweepFreed_kept s j.record
  have hslots : { slotAfter s j.record q with damaged := (s.slot q).damaged } = slotAfter s j.record q := rfl
  rw [hexec, hreport]
  refine ⟨fun hheld => ?_, fun n hheld hhead hn hnext htail hwrite halone => ⟨fun hctl => ?_, fun e hctl heffective => ?_⟩⟩
  · obtain ⟨v, hv, hspec⟩ := hfreed.finish hsettled hqueue (hkeptd.trans hdemand) (hkepto.trans hoffer)
    rw [redecideDemand_none huparity (huheld.trans hheld)]
    rw [hslots] at hspec
    exact ⟨v, congrArg _ hv, hspec⟩
  all_goals
    have huhead : (u.page x).waitHead = some n := (hfreed.waitHead x).trans hhead
    have hnheld : (u.entry n).state = .held := heldForDemand_head (huheld.trans hheld) huhead
    have hchain : (u.page x).chainHead = none := by
      rw [hfreed.page, if_pos rfl]
      exact headAfter_of_alone halone
    have huctl : u.ctl = s.ctl := by rw [hfreed.rest]
    rw [redecideDemand_some huparity (huheld.trans hheld)]
  · obtain ⟨entries, pst, hdecide, hentries, hpst⟩ := decidePage_degraded huparity huhead hnheld
      (by rw [hfreed.entry]; exact hwrite) hchain (hfreed.sound hthreaded.records) (by rw [hfreed.entry]; exact hnext)
      (by rw [hfreed.rest]; exact hup) (by rw [huctl]; exact hctl)
    obtain ⟨v, hv, hrec, hfollows, hchan, hcopy, hentered, hpage, hslot, hspec⟩ := hfreed.finish_issued hsettled hqueue
      (hkeptd.trans hdemand) (hkepto.trans hoffer) hn hdecide hentries hpst rfl
    rw [hslots] at hslot
    exact ⟨v, congrArg _ hv, hrec, hfollows, hentered, hchan, hcopy, hpage, hslot, hspec⟩
  · obtain ⟨f, rest, hfree⟩ := List.exists_cons_of_ne_nil (l := s.pool.free ++ [j.record]) (by simp)
    have hdecide := decidePage_allocates huparity huhead hnheld (by rw [hfreed.entry]; exact hwrite) hchain
      (hfreed.sound hthreaded.records) (by rw [huctl]; exact hctl)
      (by rw [hfreed.effective, hfreed.entry]; exact heffective) (f := f) (rest := rest) (by rw [hfreed.rest]; exact hfree)
    obtain ⟨v, hv, hpool, hentered, hcopying, hpageIndex, hslot, hpage, hvsweep, hspec⟩ :=
      hfreed.finish_allocated (f := f) (e := e) (rest := rest) hsettled hk hk144 hqueue hbacklog (hkeptd.trans hdemand)
        (hkepto.trans hoffer) hn hup hthreaded.entry halone hthreaded.records
    have husweep : v.sweep = u.sweep := hvsweep.trans (by rw [hfreed.rest])
    rw [hdecide]
    refine ⟨v, congrArg _ hv, ⟨f, by rw [hfree]; rfl, ?_, ?_, hentered, hcopying, hpageIndex, hslot, hpage⟩,
      sweepFollows_congr hfreed.follows (by rw [husweep]) (by rw [husweep]) (by rw [husweep]), ?_, ?_, ?_, ?_, hspec⟩
    · rw [hpool]
    · rw [hpool, hfree]
      rfl
    · rw [hvsweep]
    · rw [hvsweep]
    · rw [hvsweep]
    · rw [hvsweep]

end Sys2Proof.Proofs
end

section
/-! The response timeout of a copy channel's tag (O50): a channel that is IDLE with a job still in it takes the next demand
as soon as one of its tags is FREE. -/

namespace Sys2Proof.Proofs

open Sys2Proof.Machine Sys2Proof.Machine.State

/-- Channel 0 IDLE with a job in it and no FREE tag, tag 128 QUEUED past its deadline, a demand waiting, and the other
channels RUNNING. -/
def idleWithJob : State :=
  { State.reset with
    channels := ⟨[(0, ⟨.idle, some ⟨.preservation, 0, 0, 0, false⟩, 0, 0⟩), (1, ⟨.running, none, 0, 0⟩),
      (2, ⟨.running, none, 0, 0⟩), (3, ⟨.running, none, 0, 0⟩)]⟩
    copyTags := ⟨[(128, ⟨.read 0, []⟩), (129, ⟨.read 1, []⟩), (130, ⟨.read 2, []⟩), (131, ⟨.read 3, []⟩)]⟩
    tags := ⟨[(128, ⟨.queued, .read, 0#40, 4, [], [], 0, some 0⟩)]⟩
    sweep := { State.reset.sweep with demand := [0] } }

theorem idleWithJob_settled : idleWithJob.Settled := ⟨rfl, .inl rfl, nofun⟩

/-- The tag that the timeout frees lets the arbiter take the demand. -/
theorem idleWithJob_timeout : ∃ t, exec (.responseTimeout 128) idleWithJob = .next t ∧ t.sweep.demand = [] := ⟨_, rfl, rfl⟩

/-- Refutes O50: of a timeout with another tag of the channel in use the statement says that the sweep engine stays as it
is, but for a channel that is IDLE with a job in it. -/
theorem not_responseTimeoutQuarantines : ¬ Obligations.ResponseTimeoutQuarantines := by
  intro h
  obtain ⟨-, hothers, -⟩ := h idleWithJob 128 0 idleWithJob_settled rfl (Nat.zero_le _)
  obtain ⟨t, hexec, -, -, -, hspec⟩ := hothers 0 ⟨.preservation, 0, 0, 0, false⟩ (by decide) (by decide) rfl rfl rfl
    ⟨129, by decide, by decide, rfl⟩ (.inr rfl)
  obtain ⟨u, hrun, hdemand⟩ := idleWithJob_timeout
  obtain rfl : t = u := Host.Outcome.next.inj (hexec.symm.trans hrun)
  rw [hspec] at hdemand
  cases hdemand

end Sys2Proof.Proofs
end

section
/-! A demand restore whose target is suspect, while the sweep engine waits for that record (O40). -/

namespace Sys2Proof.Proofs

open Sys2Proof.Machine Sys2Proof.Machine.State

/-- A rollback to slot 0 in its restore phase, in DEGRADED: page 5's only record, record 0, VALID and suspect at the UNWINDING
slot 1, and the sweep engine waiting for record 0. -/
def waitedTarget : State :=
  { State.reset with
    windows := ⟨[(0, ⟨true, .guard, 0#28, 16#16, 0#16⟩)]⟩
    pstAssigned := 16
    pool := ⟨100#28, 4#16, 2#15, [1, 2, 3], []⟩
    port := { State.reset.port with up := true, credits := 8 }
    mem := { State.reset.mem with up := true, credits := 8 }
    ctl := { State.reset.ctl with state := .degraded }
    slots := ⟨[(0, ⟨.live, 1#32, .command, false, 0, none, none⟩),
      (1, ⟨.unwinding, 2#32, .command, false, 1, some 0, some 0⟩)]⟩
    nextSeq := 3#32
    pst := ⟨[(5, ⟨some 0, none, none, true, 0#32⟩)]⟩
    records := ⟨[(0, ⟨.valid, some 5, some 5, some 1, none, none, none, true, true⟩)]⟩
    sweep := { State.reset.sweep with
      kind := .rollback, cause := some .rollback, phase := .restore, target := some 0, waitingOn := some 0 } }

theorem waitedTarget_sound (y : Nat) : (waitedTarget.record y).parityOk = true := by
  cases y <;> rfl

theorem waitedTarget_settled : waitedTarget.Settled := ⟨rfl, .inr ⟨rfl, rfl, rfl⟩, nofun⟩

theorem waitedTarget_arrival : GuardArrival waitedTarget 3#8 0#2 0x5000#40 0 5 where
  accepts := ⟨rfl, by decide, by decide, rfl, by decide⟩
  due := rfl
  cls := by decide
  index := by decide
  noDrain := rfl
  parity := rfl
  sources _ y _ := waitedTarget_sound y
  head := rfl
  tail := rfl

theorem waitedTarget_threaded : Threaded waitedTarget 0 5 1 where
  page := rfl
  slot := rfl
  occupied := by decide
  chain := by decide
  journal := by decide
  allocated := by decide
  records := waitedTarget_sound
  entry := rfl

/-- A write to page 5 frees the target, and the sweep engine no longer waits for it. -/
theorem waitedTarget_write : ∃ t, exec (.write 3#8 0#2 0x5000#40 [1#64] (List.replicate 64 7#8)) waitedTarget = .next t ∧
    t.sweep.waitingOn = none := ⟨_, rfl, by decide⟩

/-- Refutes O40: of a demand whose target is suspect the statement says that the sweep engine waits on as before, but for a
wait for the target itself, which the target's end as a failed restore takes back. -/
theorem not_guardedRequestsWaitOrAreParked : ¬ Obligations.GuardedRequestsWaitOrAreParked := by
  intro h
  obtain ⟨-, -, -, hsuspect, -, -⟩ := h waitedTarget 3#8 0#2 0x5000#40 0 5 .write [1#64] (List.replicate 64 7#8)
    waitedTarget_arrival.accepts waitedTarget_settled waitedTarget_arrival.cls rfl nofun (fun _ => by decide)
  obtain ⟨hissued, -⟩ := hsuspect 0 5 0 1 waitedTarget_arrival rfl rfl (by decide) (by decide) rfl rfl rfl
    waitedTarget_threaded (by decide) rfl rfl (by decide) rfl
  obtain ⟨t, hexec, -, -, -, -, -, hspec⟩ := hissued (.inl rfl)
  obtain ⟨u, hrun, hwaits⟩ := waitedTarget_write
  obtain rfl : t = u := Host.Outcome.next.inj (hexec.symm.trans hrun)
  rw [hspec] at hwaits
  have hkept := sweepPast_waitingOn waitedTarget 0
  cases hkept.symm.trans hwaits

end Sys2Proof.Proofs
end

section
/-! What the shared operations keep when a table fault counts as one update (R14, R43, R148, R151): marks keep their state
but for a pressure retire, and what the entry to DEGRADED brings stands at its end. `Laws.Closed` takes the entry apart. -/

namespace Sys2Proof.Laws

open Sys2Proof.Machine

/-- `P` is kept by each update of the shared operations, a table fault with flush `flush` taken as one; no other update
changes state control, and none but a pressure check a mark's state. -/
structure FaultClosed (flush : State → State) (P : State → Prop) : Prop where
  raise : ∀ s f, P s → P (s.raise f)
  capture : ∀ s k t a w, P s → P (s.capture k t a w)
  act : ∀ s w v, P s → P (s.setAct w v)
  page : ∀ s p v, P s → P (s.setPage p v)
  slot : ∀ s i v, v.state = (s.slot i).state → ((s.slot i).damaged = true → v.damaged = true) → P s → P (s.setSlot i v)
  record : ∀ s r v, P s → P (s.setRec r v)
  entry : ∀ s n v, P s → P (s.setEntry n v)
  chan : ∀ s c v, P s → P (s.setChan c v)
  copyTag : ∀ s t v, P s → P (s.setCopyTag t v)
  pool : ∀ s v, P s → P (s.setPool v)
  wp : ∀ s v, P s → P (s.setWp v)
  sweep : ∀ s v, P s → P (s.setSweep v)
  port : ∀ s v, P s → P (s.setPort v)
  take : ∀ s t k a l m d, P s → P (s.take t k a l m d)
  pressure : ∀ s, P s → P s.pressureCheck
  fault : ∀ s, P s → P (tableFaultWith flush s)

namespace FaultClosed

variable {flush : State → State} {P : State → Prop} {s : State}

section
variable (h : FaultClosed flush P)
include h

/-! ## Request port and wait lists -/

theorem countRunning (f w) (hs : P s) : P (s.countRunning f w) := by
  cases w with
  | none => exact hs
  | some w => exact h.act _ _ _ hs

theorem damage (q) (hs : P s) : P (s.damage q) := h.slot _ _ _ rfl (fun _ => rfl) hs

theorem earnCredit (hs : P s) : P s.earnCredit := by
  unfold State.earnCredit
  exact Closed.ite hs (Closed.ite (h.port _ _ hs) (h.port _ _ hs))

theorem sendCredits (hs : P s) : P s.sendCredits := Closed.ite hs (h.port _ _ hs)

theorem noteWork (hs : P s) : P s.noteWork := Closed.ite (h.port _ _ hs) hs

theorem checkIntake (hs : P s) : P s.checkIntake := Closed.ite (h.raise _ _ (h.port _ _ hs)) hs

theorem sendUp (m) (hs : P s) : P (s.sendUp m) := Closed.ite (h.port _ _ hs) hs

theorem freeEntry (n) (hs : P s) : P (s.freeEntry n) :=
  Closed.ite hs (h.earnCredit (h.sweep _ _ (h.entry _ _ _ hs)))

theorem complete (n st r d) (hs : P s) : P (s.complete n st r d) := h.freeEntry _ (h.sendUp _ hs)

theorem refuse (n r) (hs : P s) : P (s.refuse n r) := h.complete _ _ _ _ (h.countRunning _ _ hs)

theorem endEntry_linkDown (n) (hs : P s) : P (s.endEntry n .linkDown) := by
  unfold State.endEntry
  split
  · exact h.complete _ _ _ _ hs
  · exact h.freeEntry _ hs
  · exact hs

theorem issueTo (n a) (hs : P s) : P (s.issueTo n a) :=
  Closed.ite (h.take _ _ _ _ _ _ _ (h.entry _ _ _ hs)) (h.endEntry_linkDown _ (h.entry _ _ _ hs))

theorem popHead (p n) (hs : P s) : P (s.popHead p n) := h.page _ _ _ (h.entry _ _ _ hs)

theorem issueHead (p n a) (hs : P s) : P (s.issueHead p n a) := h.issueTo _ _ (h.popHead _ _ hs)

/-! ## Chains and journals -/

theorem putRec (r v) (hs : P s) : P (s.putRec r v) := h.record _ _ _ hs

theorem chainInsert (p r) (hs : P s) : P (s.chainInsert p r) := by
  unfold State.chainInsert
  dsimp only
  split
  · exact h.page _ _ _ (h.putRec _ _ hs)
  · exact h.putRec _ _ (h.putRec _ _ hs)

theorem chainUnlink (p r) (hs : P s) : P (s.chainUnlink p r) := by
  unfold State.chainUnlink
  split
  · split
    · exact h.page _ _ _ hs
    · exact h.putRec _ _ hs
  · exact hs

theorem journalAppend (q r) (hs : P s) : P (s.journalAppend q r) := by
  unfold State.journalAppend
  dsimp only
  refine h.slot _ _ _ rfl id ?_
  split
  · exact h.slot _ _ _ rfl id (h.putRec _ _ hs)
  · exact h.putRec _ _ (h.putRec _ _ hs)

theorem walkPast (r) (hs : P s) : P (s.walkPast r) := by
  unfold State.walkPast
  split <;> exact h.sweep _ _ hs

theorem sweepPast (r) (hs : P s) : P (s.sweepPast r) := by
  have hwalk : P (if s.sweep.cursor = some r then s.walkPast r else s) := Closed.ite (h.walkPast _ hs) hs
  exact Closed.ite (h.sweep _ _ hwalk) hwalk

theorem journalUnlink (q r) (hs : P s) : P (s.journalUnlink q r) := by
  have hnewer : ∀ o v u, P u → P (u.linkNewer o v) := fun o v u hu => by
    cases o with
    | none => exact hu
    | some x => exact h.putRec _ _ hu
  have holder : ∀ o v u, P u → P (u.linkOlder o v) := fun o v u hu => by
    cases o with
    | none => exact hu
    | some x => exact h.putRec _ _ hu
  exact h.slot _ _ _ rfl id (holder _ _ _ (hnewer _ _ _ hs))

theorem journalRemove (r) (hs : P s) : P (s.journalRemove r) := by
  unfold State.journalRemove
  split
  · exact h.sweepPast _ hs
  · exact h.slot _ _ _ rfl id (Closed.ite (h.journalUnlink _ _ (h.sweepPast _ hs)) (h.sweepPast _ hs))

/-! ## Reads that check parity -/

theorem checkPageWith (p t) (hs : P s) : P (checkPageWith flush p t s) :=
  Closed.ite hs (h.fault _ (h.page _ _ _ (h.capture _ _ _ _ _ hs)))

theorem captureRec (r t) (hs : P s) : P (s.captureRec r t) := by
  unfold State.captureRec
  refine Closed.ite (h.capture _ _ _ _ _ hs) ?_
  split <;> exact h.capture _ _ _ _ _ hs

theorem checkRecWith (r t) (hs : P s) : P (checkRecWith flush r t s) :=
  Closed.ite hs (h.fault _ (h.putRec _ _ (h.captureRec _ _ hs)))

theorem checkRecsWith (l t) (hs : P s) : P (checkRecsWith flush l t s) :=
  Closed.foldl (fun _ r hs => h.checkRecWith r t hs) _ _ hs

/-! ## The decision -/

theorem holdForDemand (p n) (hs : P s) : P (s.holdForDemand p n) := by
  unfold State.holdForDemand
  extract_lets t restoring
  have ht : P t := h.entry _ _ _ hs
  exact Closed.ite ht (h.noteWork (h.sweep _ _ ht))

theorem queueJob (j) (hs : P s) : P (s.queueJob j) :=
  Closed.ite (h.noteWork (h.wp _ _ hs)) (h.noteWork (h.wp _ _ hs))

theorem allocate (r p n e) (hs : P s) : P (s.allocate r p n e) := by
  unfold State.allocate
  extract_lets number s1 s2 s3 s4
  have h2 : P s2 := h.journalAppend _ _ (h.chainInsert _ _ (h.putRec _ _ hs))
  have h3 : P s3 := Closed.ite (h.raise _ _ h2) h2
  exact h.countRunning _ _ (h.entry _ _ _ (h.queueJob _ h3))

theorem exhausted (p n e) (hs : P s) : P (s.exhausted p n e).2 := by
  have hwait : ∀ (u : State) l, P u → P ((u.setPool { u.pool with wait := l }).pressureCheck) :=
    fun u l hu => h.pressure _ (h.pool _ _ hu)
  unfold State.exhausted
  extract_lets t
  have ht : P t := h.raise _ _ hs
  split
  · exact h.refuse _ _ (h.popHead _ _ (h.capture _ _ _ _ _ ht))
  · have hbroken := h.wp (t.damage e) { t.wp with breaks := satInc t.wp.breaks } (h.damage e ht)
    exact h.issueHead _ _ _ hbroken
  · dsimp only
    exact hwait _ _ (h.entry _ _ _ ht)

theorem preserve (hand p n e) (hs : P s) : P (s.preserve hand p n e).2 := by
  unfold State.preserve
  split
  · dsimp only
    exact h.allocate _ _ _ _ hs
  · split
    · dsimp only
      exact h.allocate _ _ _ _ (h.pool _ _ hs)
    · exact h.exhausted _ _ _ hs

theorem preserveWith (hand p n e) (hs : P s) : P (preserveWith flush hand p n e s).2 := by
  unfold Machine.preserveWith
  split
  · exact h.exhausted _ _ _ hs
  · extract_lets t
    have ht : P t := h.checkRecsWith _ _ hs
    split
    · exact h.issueHead _ _ _ ht
    · exact h.preserve _ _ _ _ ht

theorem decideHeadWith (hand p n e) (hs : P s) : P (decideHeadWith flush hand p n e s).2 := by
  unfold Machine.decideHeadWith
  split
  · exact h.preserveWith _ _ _ _ hs
  · split
    · exact h.entry _ _ _ hs
    · split
      · exact h.issueHead _ _ _ hs
      · exact h.preserveWith _ _ _ _ hs

theorem decideMarksWith (hand p n) (hs : P s) : P (decideMarksWith flush hand p n s).2 := by
  unfold Machine.decideMarksWith
  split
  · exact h.issueHead _ _ _ hs
  · split
    · exact h.issueHead _ _ _ hs
    · extract_lets t
      have ht : P t := h.checkRecsWith _ _ hs
      split
      · exact h.issueHead _ _ _ ht
      · exact h.decideHeadWith _ _ _ _ ht

theorem decideWriteWith (hand p n) (hs : P s) : P (decideWriteWith flush hand p n s).2 := by
  unfold Machine.decideWriteWith
  split
  · extract_lets t
    have ht : P t := h.checkRecsWith _ _ hs
    split
    · exact h.decideMarksWith _ _ _ ht
    · exact h.holdForDemand _ _ ht
  · exact h.decideMarksWith _ _ _ hs

theorem issueReadWith (p n) (hs : P s) : P (issueReadWith flush p n s) := by
  unfold Machine.issueReadWith
  split
  · extract_lets t
    have ht : P t := h.checkRecsWith _ _ hs
    split <;> exact h.issueHead _ _ _ ht
  · exact h.issueHead _ _ _ hs

theorem decidePageWith (p k) (hs : P s) : P (decidePageWith flush p k s) := by
  induction k generalizing s with
  | zero => exact hs
  | succ k ih =>
    unfold Machine.decidePageWith
    extract_lets t
    have ht : P t := h.checkPageWith p _ hs
    split
    · exact ht
    next n _ =>
      refine Closed.ite ht ?_
      split
      · exact ih (h.issueReadWith _ _ ht)
      · have hdecided := h.decideWriteWith none p n ht
        split <;> rename_i heq <;> rw [heq] at hdecided
        · exact ih hdecided
        · exact hdecided

theorem flushWaitersWith (k) (hs : P s) : P (flushWaitersWith flush k s) := by
  induction k generalizing s with
  | zero => exact hs
  | succ k ih =>
    unfold Machine.flushWaitersWith
    split
    · exact hs
    next n rest _ =>
      have ht : P (s.setPool { s.pool with wait := rest }) := h.pool _ _ hs
      dsimp only
      split
      · exact ih (h.issueTo _ _ ht)
      · exact ih (h.decidePageWith _ _ (h.issueHead _ _ _ (h.checkPageWith _ _ ht)))

end

/-! ## Frame returns, and records that become FREE -/

section
variable (h : FaultClosed flushWaiters P)
include h

theorem returnFrameFrom (r k) (hs : P s) : P (returnFrameFrom r k s) := by
  induction k generalizing s with
  | zero => exact h.pool _ _ hs
  | succ k ih =>
    unfold Machine.returnFrameFrom
    split
    · exact h.pool _ _ hs
    next n rest _ =>
      have ht : P (s.setPool { s.pool with wait := rest }) := h.pool _ _ hs
      dsimp only
      split
      · exact ih ht
      next p _ =>
        have hdecided := h.decideWriteWith (some r) p n (h.checkPageWith p (some n) ht)
        unfold State.checkPage
        split <;> rename_i heq <;> rw [heq] at hdecided
        · exact hdecided
        · exact ih (h.decidePageWith _ _ hdecided)
        · exact ih hdecided

theorem unlinkRec (r) (hs : P s) : P (s.unlinkRec r) := by
  unfold State.unlinkRec
  split
  · exact hs
  · exact h.chainUnlink _ _ (h.checkRecsWith _ _ (h.checkPageWith _ _ hs))

theorem clearRec (r) (hs : P s) : P (s.clearRec r) :=
  Closed.ite (Closed.foldl (fun _ _ ht => h.chan _ _ _ ht) _ _ (h.wp _ _ (h.record _ _ _ hs))) (h.record _ _ _ hs)

theorem freeRecord (r) (hs : P s) : P (s.freeRecord r) := by
  have hclear := h.clearRec r (h.journalRemove r (h.checkRecsWith ((s.unlinkRec r).leaveReads r) none (h.unlinkRec r hs)))
  exact Closed.ite hclear (h.returnFrameFrom _ _ hclear)

theorem stopWaiting (r) (hs : P s) : P (s.stopWaiting r) := Closed.ite (h.sweep _ _ hs) hs

/-! ## Outcomes of copies -/

theorem redecideBehind (r p) (hs : P s) : P (s.redecideBehind r p) := by
  unfold State.redecideBehind
  split
  · exact hs
  · extract_lets t
    have ht : P t := h.checkPageWith _ _ hs
    split
    · exact ht
    · exact h.decidePageWith _ _ ht

theorem afterFailure (p n q) (hs : P s) : P (s.afterFailure p n q) := by
  unfold State.afterFailure
  split
  · split
    · exact h.decidePageWith _ _ (h.refuse _ _ (h.popHead _ _ (h.capture _ _ _ _ _ hs)))
    · exact h.decidePageWith _ _ (h.issueHead _ _ _ hs)
    · exact h.decidePageWith _ _ (h.issueHead _ _ _ hs)
  · exact h.decidePageWith _ _ hs

theorem checkPageOf (p) (hs : P s) : P (s.checkPageOf p) := by
  cases p with
  | none => exact hs
  | some p => exact h.checkPageWith _ _ hs

theorem damageUnless (q : Option Nat) (pol : Policy) (hs : P s) :
    P (match q with
      | none => s
      | some q => if s.wp.policy = pol then s else s.damage q) := by
  split
  · exact hs
  · exact Closed.ite hs (h.damage _ hs)

theorem preservationFailure (r) (hs : P s) : P (s.preservationFailure r) := by
  unfold State.preservationFailure
  extract_lets v s1 held s2 q s3 s4
  have h4 : P s4 := h.stopWaiting _ (h.freeRecord _
    (h.damageUnless _ _ (h.capture _ _ _ _ _ (h.raise _ _ (h.checkPageOf _ hs)))))
  split
  · exact h.afterFailure _ _ _ h4
  · exact h4

theorem redecideDemand (p) (hs : P s) : P (s.redecideDemand p) := by
  unfold State.redecideDemand
  split
  · exact hs
  · exact Closed.ite (h.decidePageWith _ _ (h.checkPageWith _ _ hs)) (h.checkPageWith _ _ hs)

theorem restoreFault (p) (hs : P s) : P (s.restoreFault p) := by
  have hfault : P (s.appendFault p) := by
    cases p with
    | none => exact h.sweep _ _ hs
    | some n => exact Closed.ite (h.sweep _ _ (h.sweep _ _ hs)) (h.sweep _ _ (h.sweep _ _ hs))
  exact h.capture _ _ _ _ _ (h.sweep _ _ (h.raise _ _ hfault))

theorem restoreFailure (r) (hs : P s) : P (s.restoreFailure r) :=
  h.redecideDemand _ (h.restoreFault _ (h.stopWaiting _ (h.freeRecord _ hs)))

theorem reportJob (j ok) (hs : P s) : P (s.reportJob j ok) := by
  have horphan : P (s.reportOrphan j ok) := by
    unfold State.reportOrphan
    split
    · exact h.redecideBehind _ _ hs
    · exact h.redecideBehind _ _ (h.capture _ _ _ _ _ (h.raise _ _ (h.checkPageOf _ hs)))
    · exact h.redecideDemand _ (h.sweep _ _ hs)
    · exact h.redecideDemand _ (h.restoreFault _ hs)
  unfold State.reportJob
  refine Closed.ite horphan ?_
  extract_lets t
  have ht : P t := h.checkRecWith _ _ hs
  split
  · exact Closed.ite (h.redecideBehind _ _ (h.stopWaiting _ ht))
      (h.redecideBehind _ _ (h.stopWaiting _ (h.putRec _ _ ht)))
  · exact h.preservationFailure _ ht
  · exact h.redecideDemand _ (h.sweep _ _ (h.stopWaiting _ (h.freeRecord _ ht)))
  · exact h.restoreFailure _ ht

/-! ## The copy engine -/

theorem chunkRead (c t) (hs : P s) : P (s.chunkRead c t) := by
  unfold State.chunkRead
  split
  · exact hs
  · exact Closed.ite (h.take _ _ _ _ _ _ _ (h.copyTag _ _ _ (h.chan _ _ _ hs)))
      (Closed.ite (h.chan _ _ _ (h.copyTag _ _ _ (h.chan _ _ _ hs))) (h.copyTag _ _ _ (h.chan _ _ _ hs)))

theorem settleChan (c) (hs : P s) : P (s.settleChan c) := by
  unfold State.settleChan
  split
  · exact hs
  · exact Closed.ite hs (Closed.ite (h.reportJob _ _ (h.chan _ _ _ hs)) (Closed.ite (h.reportJob _ _ (h.chan _ _ _ hs)) hs))

theorem startJob (c j) (hs : P s) : P (s.startJob c j) :=
  h.settleChan _ (Closed.foldl (fun _ t hs => h.chunkRead c t hs) _ _ (h.chan _ _ _ hs))

theorem takeTarget (c r) (hs : P s) : P (s.takeTarget c r) := by
  have hput := h.putRec r { s.record r with state := .restoring } hs
  exact Closed.ite (h.restoreFailure _ (Closed.ite (h.sweep _ _ hs) hs))
    (h.startJob _ _ (Closed.ite (h.walkPast _ (h.checkRecsWith _ _ (h.sweep _ _ hput))) hput))

theorem takeDemand (c p) (hs : P s) : P (s.takeDemand c p) := by
  have hc := h.checkRecsWith ((s.checkPage p none).sourceReads p) none (h.checkPageWith p none hs)
  unfold State.takeDemand
  dsimp only
  split
  · exact hc
  · exact Closed.ite hc (h.takeTarget _ _ (h.sweep _ _
      (Closed.foldl (fun _ x hs => h.sweep _ _ (h.freeRecord x hs)) _ _ hc)))

theorem takeOffer (c r) (hs : P s) : P (s.takeOffer c r) := by
  have hc := h.checkRecWith r none hs
  exact Closed.ite (h.takeTarget _ _ hc) (Closed.ite (h.sweep _ _ hc) hc)

theorem arbitrateFrom (k) (hs : P s) : P (arbitrateFrom k s) := by
  induction k generalizing s with
  | zero => exact hs
  | succ k ih =>
    unfold Machine.arbitrateFrom
    split
    · exact hs
    · split
      · exact ih (h.takeDemand _ _ (h.sweep _ _ hs))
      · split
        · exact ih (h.startJob _ _ (h.wp _ _ hs))
        · split
          · exact ih (h.takeOffer _ _ hs)
          · exact hs

theorem finish (hs : P s) : P s.finish := h.sendCredits (h.checkIntake (h.arbitrateFrom _ hs))

theorem failChan (c) (hs : P s) : P (s.failChan c) := by
  unfold State.failChan
  split
  · exact hs
  · exact h.reportJob _ _ (h.chan _ _ _ (Closed.foldl (fun _ _ hs => h.copyTag _ _ _ hs) _ _ hs))

theorem failChans (l : List Nat) (hs : P s) : P (l.foldl (fun s c => s.failChan c) s) :=
  Closed.foldl (fun _ c hs => h.failChan c hs) _ _ hs

theorem takeFailures (k) (hs : P s) : P (s.takeFailures k) := h.arbitrateFrom _ (h.failChans _ hs)

end

end FaultClosed

end Sys2Proof.Laws
end

section
/-! The memory-port link down in every state (O51, first parts): what the updates of its step keep (R139, R150). -/

namespace Sys2Proof.Laws

open Sys2Proof.Machine

/-! ## What the primitive updates keep -/

/-- With the link down the memory port and its tags stay as they are (R133). -/
theorem closed_linkDown {m : MemoryPort} (hm : m.up = false) : Closed fun s => s.mem = m ∧ s.tags = .empty where
  raise _ _ h := h
  capture s k t a w h := by rw [State.capture_eq]; exact h
  act _ _ _ h := h
  page _ _ _ h := h
  slot _ _ _ _ h := h
  record _ _ _ h := h
  entry _ _ _ h := h
  chan _ _ _ _ h := h
  copyTag _ _ _ h := h
  pool _ _ _ _ _ h := h
  wp _ _ _ _ h := h
  sweep _ _ _ _ h := h
  fault _ _ h := by rwa [State.appendFault_eq]
  port _ _ _ _ h := h
  take s _ _ _ _ _ _ hup h := by rw [h.1, hm] at hup; cases hup
  ctl _ _ _ _ h := h

theorem closed_sched (v : Scheduler) : Closed fun s => s.sched = v where
  raise _ _ h := h
  capture s k t a w h := by rw [State.capture_eq]; exact h
  act _ _ _ h := h
  page _ _ _ h := h
  slot _ _ _ _ h := h
  record _ _ _ h := h
  entry _ _ _ h := h
  chan _ _ _ _ h := h
  copyTag _ _ _ h := h
  pool _ _ _ _ _ h := h
  wp _ _ _ _ h := h
  sweep _ _ _ _ h := h
  fault _ _ h := by rwa [State.appendFault_eq]
  port _ _ _ _ h := h
  take _ _ _ _ _ _ _ _ h := h
  ctl _ _ _ _ h := h

/-- State control goes from GUARDING to DEGRADED alone, and holds what it holds. -/
theorem closed_grows (c : Control) : Closed fun s => c.Grows s.ctl where
  raise _ _ h := h
  capture s k t a w h := by rw [State.capture_eq]; exact h
  act _ _ _ h := h
  page _ _ _ h := h
  slot _ _ _ _ h := h
  record _ _ _ h := h
  entry _ _ _ h := h
  chan _ _ _ _ h := h
  copyTag _ _ _ h := h
  pool _ _ _ _ _ h := h
  wp _ _ _ _ h := h
  sweep _ _ _ _ h := h
  fault _ _ h := by rwa [State.appendFault_eq]
  port _ _ _ _ h := h
  take _ _ _ _ _ _ _ _ h := h
  ctl s v hv _ h := by
    refine ⟨?_, hv.link ∘ h.link, hv.table ∘ h.table, hv.command ∘ h.command, hv.tableFault ∘ h.tableFault,
      hv.spoiled ∘ h.spoiled, hv.faultDuring ∘ h.faultDuring, hv.linkLost ∘ h.linkLost⟩
    obtain hstate | ⟨hguarding, hdegraded⟩ := hv.state
    · rw [State.setCtl_ctl, hstate]
      exact h.state
    · refine .inr ⟨?_, hdegraded⟩
      obtain hsame | ⟨-, hother⟩ := h.state
      · exact hsame.symm.trans hguarding
      · rw [hguarding] at hother
        cases hother

theorem grows_refl (c : Control) : c.Grows c := ⟨.inl rfl, id, id, id, id, id, id, id⟩

namespace Closed

variable {P : State → Prop} {s : State}

theorem downEntry (h : Closed P) (n b) (hs : P s) : P (s.downEntry n b) := by
  cases b with
  | idle => exact hs
  | queued => exact h.endEntry n .linkDown hs
  | outstanding => exact h.endEntry n .linkDown hs
  | quarantined => exact h.releaseEntry n hs

theorem linkDownControl (h : Closed P) (hs : P s) : P s.linkDownControl := by
  unfold State.linkDownControl
  split
  · exact hs
  next hguarding => exact h.enterDegraded .link hguarding hs
  · exact h.addCause .link hs
  · refine h.ctl _ _ ⟨.inl rfl, id, id, id, id, fun _ => rfl, id, fun _ => rfl⟩ ?_ hs
    simp only [Control.lawful, Control.caused, Bool.and_eq_true, Bool.or_eq_true]
    tauto

end Closed

/-! ## What updates of marks keep, a table fault taken as one -/

theorem grows_degraded {c v : Control} (h : c.Grows v) (hc : c.state = .degraded) : v.state = .degraded := by
  obtain hsame | ⟨hguarding, -⟩ := h.state
  · exact hsame.trans hc
  · rw [hc] at hguarding
    cases hguarding

theorem flushWaiters_degraded {s : State} (h : s.ctl.state = .degraded) : (flushWaiters s).ctl.state = .degraded :=
  grows_degraded ((closed_grows s.ctl).flushWaiters s (grows_refl _)) h

section
variable {s : State} (flush : State → State)

/-- A table fault in GUARDING enters DEGRADED, every LIVE mark damaged. -/
theorem tableFaultWith_guarding (h : s.ctl.state = .guarding) : ∃ ctl slots,
    tableFaultWith flush s = (flush { s with ctl := ctl, slots := slots }).raise .degraded ∧ ctl.state = .degraded ∧
    ∀ q, slots.get .freed q = if q < 5 ∧ (s.slot q).state = .live then { s.slot q with damaged := true } else s.slot q := by
  obtain ⟨slots, hdamage, hslots⟩ := State.damageLive_spec
    { s with ctl := { s.ctl with tableFault := true, causeTable := true, state := .degraded } }
  refine ⟨{ s.ctl with tableFault := true, causeTable := true, state := .degraded }, slots, ?_, rfl, hslots⟩
  have hstate : (s.setCtl { s.ctl with tableFault := true }).ctl.state = .guarding := h
  unfold tableFaultWith
  dsimp only
  rw [hstate]
  exact congrArg (fun u => (flush u).raise .degraded) hdamage

/-- A table fault in another operating state adds to state control alone. -/
theorem tableFaultWith_other (h : s.ctl.state ≠ .guarding) : ∃ ctl, tableFaultWith flush s = { s with ctl := ctl } ∧
    ctl.state = s.ctl.state := by
  unfold tableFaultWith
  dsimp only
  cases hstate : (s.setCtl { s.ctl with tableFault := true }).ctl.state with
  | guarding => exact absurd hstate h
  | config => exact ⟨_, rfl, rfl⟩
  | degraded => exact ⟨_, rfl, rfl⟩
  | recovering => exact ⟨_, rfl, hstate.symm⟩

end

/-- A mark that is damaged stays so. -/
theorem faultClosed_damaged (q : Nat) {flush : State → State}
    (hflush : ∀ s, (s.slot q).damaged = true → ((flush s).slot q).damaged = true) :
    FaultClosed flush fun s => (s.slot q).damaged = true where
  raise _ _ h := h
  capture s k t a w h := by rw [State.capture_eq]; exact h
  act _ _ _ h := h
  page _ _ _ h := h
  slot s i v _ hkept h := by
    rw [State.setSlot_slot]
    split
    next hq => rw [hq] at h; exact hkept h
    · exact h
  record _ _ _ h := h
  entry _ _ _ h := h
  chan _ _ _ h := h
  copyTag _ _ _ h := h
  pool _ _ h := h
  wp _ _ h := h
  sweep _ _ h := h
  port _ _ h := h
  take _ _ _ _ _ _ _ h := h
  pressure s h := by
    unfold State.pressureCheck
    split
    · split
      · exact h
      next x _ =>
        show ((s.setSlot x { s.slot x with state := .retiring }).slot q).damaged = true
        rw [State.setSlot_slot]
        split
        next hq => rw [hq] at h; exact h
        · exact h
    · exact h
  fault s h := by
    by_cases hguarding : s.ctl.state = .guarding
    · obtain ⟨ctl, slots, hfault, -, hslots⟩ := tableFaultWith_guarding flush hguarding
      rw [hfault]
      refine hflush _ ((congrArg Slot.damaged (hslots q)).trans ?_)
      split
      · rfl
      · exact h
    · obtain ⟨ctl, hfault, -⟩ := tableFaultWith_other flush hguarding
      rw [hfault]
      exact h

theorem faultClosed_damaged_flush (q : Nat) : FaultClosed flushWaiters fun s => (s.slot q).damaged = true :=
  faultClosed_damaged q fun _ h => (faultClosed_damaged q fun _ => id).flushWaitersWith _ h

/-- DEGRADED, entered from GUARDING, has its flag. -/
theorem faultClosed_entered : FaultClosed flushWaiters fun s =>
    s.ctl.state = .guarding ∨ s.ctl.state = .degraded ∧ s.flag .degraded = true where
  raise _ _ h := h.imp_right (And.imp_right (State.raise_keeps_flag _))
  capture s k t a w h := by rwa [State.capture_ctl, State.capture_flag]
  act _ _ _ h := h
  page _ _ _ h := h
  slot _ _ _ _ _ h := h
  record _ _ _ h := h
  entry _ _ _ h := h
  chan _ _ _ h := h
  copyTag _ _ _ h := h
  pool _ _ h := h
  wp _ _ h := h
  sweep _ _ h := h
  port _ _ h := h
  take _ _ _ _ _ _ _ h := h
  pressure s h := by
    unfold State.pressureCheck
    split
    · split
      · exact h
      · exact h.imp_right (And.imp_right (State.raise_keeps_flag (s := s) _))
    · exact h
  fault s h := by
    obtain hguarding | ⟨hdegraded, hflag⟩ := h
    · obtain ⟨ctl, slots, hfault, hstate, -⟩ := tableFaultWith_guarding flushWaiters hguarding
      rw [hfault]
      refine .inr ⟨flushWaiters_degraded hstate, ?_⟩
      rw [State.raise_flag, Bool.or_eq_true]
      exact .inr (by decide)
    · obtain ⟨ctl, hfault, hstate⟩ := tableFaultWith_other flushWaiters (s := s) (by rw [hdegraded]; exact nofun)
      rw [hfault]
      exact .inr ⟨hstate.trans hdegraded, hflag⟩

/-- Without roll retention a mark that is LIVE in GUARDING stays so, until the entry to DEGRADED damages it. -/
theorem faultClosed_live {q : Nat} (hq : q < 5) : FaultClosed flushWaiters fun s => s.sched.roll = false ∧
    (s.ctl.state = .guarding ∧ (s.slot q).state = .live ∨ s.ctl.state = .degraded ∧ (s.slot q).damaged = true) where
  raise _ _ h := h
  capture s k t a w h := by rw [State.capture_eq]; exact h
  act _ _ _ h := h
  page _ _ _ h := h
  slot s i v hstate hkept h := by
    rw [State.setSlot_slot]
    split
    next hi =>
      rw [hi] at h
      exact ⟨h.1, h.2.imp (And.imp_right hstate.trans) (And.imp_right hkept)⟩
    · exact h
  record _ _ _ h := h
  entry _ _ _ h := h
  chan _ _ _ h := h
  copyTag _ _ _ h := h
  pool _ _ h := h
  wp _ _ h := h
  sweep _ _ h := h
  port _ _ h := h
  take _ _ _ _ _ _ _ h := h
  pressure s h := by rwa [pressureCheck_noRoll h.1]
  fault s h := by
    obtain ⟨hroll, ⟨hguarding, hlive⟩ | ⟨hdegraded, hdamaged⟩⟩ := h
    · obtain ⟨ctl, slots, hfault, hstate, hslots⟩ := tableFaultWith_guarding flushWaiters hguarding
      rw [hfault]
      have hsched := (closed_sched s.sched).flushWaiters { s with ctl := ctl, slots := slots } rfl
      refine ⟨(congrArg Scheduler.roll hsched).trans hroll, .inr ⟨flushWaiters_degraded hstate, ?_⟩⟩
      refine (faultClosed_damaged q fun _ => id).flushWaitersWith _ ?_
      exact congrArg Slot.damaged ((hslots q).trans (if_pos ⟨hq, hlive⟩))
    · obtain ⟨ctl, hfault, hstate⟩ := tableFaultWith_other flushWaiters (s := s) (by rw [hdegraded]; exact nofun)
      rw [hfault]
      exact ⟨hroll, .inr ⟨hstate.trans hdegraded, hdamaged⟩⟩

end Sys2Proof.Laws
end

section
/-! Entries that end with the memory-port link (R139), and what the link down does before the copy engine acts. -/

namespace Sys2Proof.Machine.State

variable {s t u v : State} {n p k c : Nat} {l : List Nat} {m : List UpMessage}

/-! ## Entries freed one after another (R106, R108, R109) -/

/-- The request port within a step, as messages `m` have been sent and `k` entries freed. -/
def portAfter (p : RequestPort) (m : List UpMessage) (k : Nat) : RequestPort :=
  if p.up = false then p else { p with
    due := if p.intake = .opened then p.due + k else p.due
    owed := if p.intake = .opened then p.owed else p.owed + k
    sent := p.sent ++ m }

theorem portAfter_nothing (p : RequestPort) : portAfter p [] 0 = p := by
  unfold portAfter
  rw [List.append_nil, Nat.add_zero, Nat.add_zero, ite_self, ite_self]
  exact ite_self p

theorem portAfter_portAfter (p : RequestPort) (m m' : List UpMessage) (k k' : Nat) :
    portAfter (portAfter p m k) m' k' = portAfter p (m ++ m') (k + k') := by
  by_cases hup : p.up = false
  · simp only [portAfter, hup, if_true]
  · by_cases ho : p.intake = .opened <;> simp [portAfter, hup, ho, List.append_assoc, Nat.add_assoc]

theorem filter_not_contains_nil (l : List Nat) : l.filter (fun n => !([] : List Nat).contains n) = l :=
  List.filter_eq_self.2 fun _ _ => rfl

theorem filter_not_contains_single (l : List Nat) (n : Nat) :
    l.filter (fun x => !([n] : List Nat).contains x) = l.filter (· != n) :=
  List.filter_congr fun x _ => by
    rw [List.contains_cons, List.contains_nil, Bool.or_false]
    rfl

/-- The entries `l` have become FREE, one after another, with the completions `m`. -/
structure Ended (s t : State) (l : List Nat) (m : List UpMessage) : Prop where
  entry : ∀ n, t.entry n = if n ∈ l then .freed else s.entry n
  rest : t = { s with
    entries := t.entries, port := portAfter s.port m l.length
    sweep := { s.sweep with drainSet := s.sweep.drainSet.filter fun n => !l.contains n } }

namespace Ended

theorem refl (s : State) : Ended s s [] [] where
  entry n := (if_neg List.not_mem_nil).symm
  rest := by
    rw [List.length_nil, portAfter_nothing, filter_not_contains_nil]

theorem trans {l' : List Nat} {m' : List UpMessage} (h : Ended s t l m) (h' : Ended t u l' m') :
    Ended s u (l ++ l') (m ++ m') where
  entry n := by
    rw [h'.entry, h.entry]
    by_cases hl : n ∈ l <;> by_cases hl' : n ∈ l' <;> simp [hl, hl']
  rest := by
    have hfilter : (s.sweep.drainSet.filter fun n => !l.contains n).filter (fun n => !l'.contains n) =
        s.sweep.drainSet.filter fun n => !(l ++ l').contains n := by
      rw [List.filter_filter]
      refine List.filter_congr fun n _ => ?_
      rw [List.contains_append, Bool.not_or, Bool.and_comm]
    have hport : portAfter t.port m' l'.length = portAfter s.port (m ++ m') (l ++ l').length := by
      rw [List.length_append, ← portAfter_portAfter]
      conv_lhs => rw [h.rest]
    have hrest := h'.rest
    rw [hport, show t.sweep = _ from congrArg State.sweep h.rest, hfilter] at hrest
    conv_lhs => rw [hrest, h.rest]

/-- Page entries have no part in it. -/
theorem withPst (h : Ended s t l m) (pst : Table PstEntry) : Ended { s with pst := pst } { t with pst := pst } l m where
  entry := h.entry
  rest := by
    conv_lhs => rw [h.rest]

theorem entry_of_not_mem (h : Ended s t l m) (hn : n ∉ l) : t.entry n = s.entry n := (h.entry n).trans (if_neg hn)

end Ended

theorem earnCredit_portAfter (s : State) : s.earnCredit = { s with port := portAfter s.port [] 1 } := by
  unfold State.earnCredit portAfter
  split
  next hup => rfl
  · rw [List.append_nil]
    split <;> rfl

theorem freeEntry_ended (hbusy : (s.entry n).state ≠ .free) : Ended s (s.freeEntry n) [n] [] := by
  rw [freeEntry_eq hbusy, earnCredit_portAfter]
  refine ⟨fun x => (Table.get_set ..).trans ?_, ?_⟩
  · rw [if_congr List.mem_singleton rfl rfl]
    rfl
  · rw [filter_not_contains_single]
    rfl

theorem sendUp_portAfter (msg : UpMessage) (s : State) : s.sendUp msg = { s with port := portAfter s.port [msg] 0 } := by
  unfold State.sendUp portAfter
  split
  next hup =>
    rw [if_neg (by rw [hup]; exact nofun), Nat.add_zero, Nat.add_zero, ite_self, ite_self]
    rfl
  next hdown => rw [if_pos (eq_false_of_ne_true hdown)]

theorem complete_ended (hbusy : (s.entry n).state ≠ .free) (status : Status) (reason : Reason) (data : List Byte) :
    Ended s (s.complete n status reason data) [n] [.completion n status reason data] := by
  have hsent : Ended s (s.sendUp (.completion n status reason data)) [] [.completion n status reason data] := by
    rw [sendUp_portAfter]
    refine ⟨fun x => (if_neg List.not_mem_nil).symm, ?_⟩
    rw [List.length_nil, filter_not_contains_nil]
  have hbusy' : ((s.sendUp (.completion n status reason data)).entry n).state ≠ .free := by
    rw [sendUp_portAfter]
    exact hbusy
  have hboth := hsent.trans (freeEntry_ended hbusy')
  exact hboth

/-! ## The transaction entries at the link down (R139) -/

/-- The completions of entries that the link has ended. -/
def linkDowns (l : List Nat) : List UpMessage := l.map fun n => .completion n .dataErr .linkDown []

@[simp] theorem linkDowns_nil : linkDowns [] = [] := rfl

theorem downEntry_ended (hn : n < 128) (hentry : u.entry n = s.entry n) :
    Ended u (u.downEntry n (s.tag n).state) ([n].filter (freedByLink s)) (linkDowns ([n].filter (cutOff s))) := by
  have hfreed : freedByLink s n = (cutOff s n || ((s.entry n).state == .orphaned && (s.tag n).state != .idle) ||
      ((s.entry n).state == .quarantined && (s.tag n).state == .quarantined)) := by
    unfold freedByLink
    rw [decide_eq_true hn, Bool.true_and]
  have hbusy : (s.entry n).state ≠ .free → (u.entry n).state ≠ .free := by rw [hentry]; exact id
  have hcomplete : (s.entry n).state = .issued → Ended u (u.complete n .dataErr .linkDown []) [n] (linkDowns [n]) :=
    fun h => complete_ended (hbusy (by rw [h]; exact nofun)) ..
  have hfree : (s.entry n).state = .orphaned ∨ (s.entry n).state = .quarantined → Ended u (u.freeEntry n) [n] [] :=
    fun h => freeEntry_ended (hbusy (by rintro hf; rw [hf] at h; rcases h with h | h <;> cases h))
  cases htag : (s.tag n).state with
  | idle =>
    have hcut : cutOff s n = false := by simp [cutOff, htag]
    simp only [List.filter_cons, List.filter_nil, hfreed, hcut, htag]
    unfold State.downEntry
    simpa using Ended.refl u
  | quarantined =>
    have hcut : cutOff s n = false := by simp [cutOff, htag]
    simp only [List.filter_cons, List.filter_nil, hfreed, hcut, htag]
    unfold State.downEntry State.releaseEntry
    rw [hentry]
    cases hstate : (s.entry n).state with
    | orphaned => simpa using hfree (.inl hstate)
    | quarantined => simpa using hfree (.inr hstate)
    | _ => simpa using Ended.refl u
  | _ =>
    simp only [List.filter_cons, List.filter_nil, hfreed, cutOff, htag]
    unfold State.downEntry State.endEntry
    rw [hentry]
    cases hstate : (s.entry n).state with
    | issued => simpa using hcomplete hstate
    | orphaned => simpa using hfree (.inl hstate)
    | _ => simpa using Ended.refl u

theorem downEntries_fold (hl : ∀ n, n ∈ l → n < 128 ∧ u.entry n = s.entry n) (hnodup : l.Nodup) :
    Ended u (l.foldl (fun t n => t.downEntry n (s.tag n).state) u) (l.filter (freedByLink s))
      (linkDowns (l.filter (cutOff s))) := by
  induction l generalizing u with
  | nil => exact Ended.refl u
  | cons n l ih =>
    obtain ⟨hnl, hnodup⟩ := List.nodup_cons.1 hnodup
    obtain ⟨hn, hentry⟩ := hl n (List.mem_cons_self ..)
    have hone := downEntry_ended hn hentry
    have hrest := ih (u := u.downEntry n (s.tag n).state) (fun x hx => by
      obtain ⟨hlt, hx'⟩ := hl x (List.mem_cons_of_mem _ hx)
      refine ⟨hlt, (hone.entry_of_not_mem fun hmem => ?_).trans hx'⟩
      rw [List.mem_singleton.1 (List.mem_of_mem_filter hmem)] at hx
      exact hnl hx) hnodup
    have hboth := hone.trans hrest
    rw [← List.filter_append, linkDowns, linkDowns, ← List.map_append, ← List.filter_append] at hboth
    exact hboth

/-- The state at a link down as the memory port has ended its requests. -/
theorem downEntries_ended (s : State) : Ended s.memDown s.downEntries ((List.range 128).filter (freedByLink s))
    (linkDowns ((List.range 128).filter (cutOff s))) :=
  downEntries_fold (fun _ hn => ⟨List.mem_range.1 hn, rfl⟩) List.nodup_range

end Sys2Proof.Machine.State
end

section
/-! The stages of the memory-port link down (R139, R150), and what holds of them in every state (O51, first parts). -/

namespace Sys2Proof.Machine.State

variable {s t u v : State} {n p k c : Nat} {l : List Nat} {m : List UpMessage}

theorem chan_congr (h : t.channels = s.channels) : t.chan = s.chan := by
  unfold State.chan
  rw [h]

theorem copyTag_congr (h : t.copyTags = s.copyTags) : t.copyTag = s.copyTag := by
  unfold State.copyTag
  rw [h]

/-! ## The copy channels' tags out of quarantine (R139) -/

theorem foldl_freeQuarantined (l : List Nat) (s : State) : ∃ copyTags,
    l.foldl (fun s t => if (s.copyTag t).use = .quarantined then s.useTag t .free else s) s =
      { s with copyTags := copyTags } ∧
    ∀ x, copyTags.get .reset x =
      if x ∈ l ∧ (s.copyTag x).use = .quarantined then { s.copyTag x with use := .free } else s.copyTag x := by
  induction l generalizing s with
  | nil => exact ⟨s.copyTags, rfl, fun x => (if_neg fun h => List.not_mem_nil h.1).symm⟩
  | cons a l ih =>
    rw [List.foldl_cons]
    by_cases hq : (s.copyTag a).use = .quarantined
    · rw [if_pos hq]
      obtain ⟨copyTags, hfold, hget⟩ := ih (s.useTag a .free)
      refine ⟨copyTags, hfold, fun x => (hget x).trans ?_⟩
      have hx : (s.useTag a .free).copyTag x = if x = a then { s.copyTag a with use := .free } else s.copyTag x :=
        Table.get_set ..
      rw [hx]
      by_cases hxa : x = a
      · subst hxa
        simp [hq]
      · simp [hxa]
    · rw [if_neg hq]
      obtain ⟨copyTags, hfold, hget⟩ := ih s
      refine ⟨copyTags, hfold, fun x => (hget x).trans ?_⟩
      by_cases hxa : x = a
      · subst hxa
        simp [hq]
      · simp [hxa]

theorem foldl_freeBlocked (l : List Nat) (s : State) : ∃ channels,
    l.foldl (fun s c => if (s.chan c).state = .blocked then s.setChan c { s.chan c with state := .idle } else s) s =
      { s with channels := channels } ∧
    ∀ x, channels.get .reset x =
      if x ∈ l ∧ (s.chan x).state = .blocked then { s.chan x with state := .idle } else s.chan x := by
  induction l generalizing s with
  | nil => exact ⟨s.channels, rfl, fun x => (if_neg fun h => List.not_mem_nil h.1).symm⟩
  | cons a l ih =>
    rw [List.foldl_cons]
    by_cases hb : (s.chan a).state = .blocked
    · rw [if_pos hb]
      obtain ⟨channels, hfold, hget⟩ := ih (s.setChan a { s.chan a with state := .idle })
      refine ⟨channels, hfold, fun x => (hget x).trans ?_⟩
      rw [setChan_chan]
      by_cases hxa : x = a
      · subst hxa
        simp [hb]
      · simp [hxa]
    · rw [if_neg hb]
      obtain ⟨channels, hfold, hget⟩ := ih s
      refine ⟨channels, hfold, fun x => (hget x).trans ?_⟩
      by_cases hxa : x = a
      · subst hxa
        simp [hb]
      · simp [hxa]

theorem mem_channelTags {x : Nat} : x ∈ chanIds.flatMap chanTags ↔ 128 ≤ x ∧ x < 144 := by
  simp only [List.mem_flatMap, mem_chanTags, mem_chanIds]
  constructor
  · rintro ⟨c, hc, hx⟩
    omega
  · rintro ⟨hlow, hhigh⟩
    exact ⟨(x - 128) / 4, by omega, by omega⟩

theorem releaseChannels_spec (s : State) : ∃ channels copyTags,
    s.releaseChannels = { s with channels := channels, copyTags := copyTags } ∧
    (∀ c, channels.get .reset c =
      if c < 4 ∧ (s.chan c).state = .blocked then { s.chan c with state := .idle } else s.chan c) ∧
    ∀ x, copyTags.get .reset x = if (128 ≤ x ∧ x < 144) ∧ (s.copyTag x).use = .quarantined then
      { s.copyTag x with use := .free } else s.copyTag x := by
  obtain ⟨copyTags, htags, hget⟩ := foldl_freeQuarantined (chanIds.flatMap chanTags) s
  obtain ⟨channels, hchannels, hget'⟩ := foldl_freeBlocked chanIds { s with copyTags := copyTags }
  refine ⟨channels, copyTags, ?_, fun c => ?_, fun x => ?_⟩
  · unfold State.releaseChannels
    dsimp only
    rw [htags, hchannels]
  · refine (hget' c).trans (if_congr ?_ rfl rfl)
    rw [mem_chanIds]
    rfl
  · refine (hget x).trans (if_congr ?_ rfl rfl)
    rw [mem_channelTags]

/-! ## The stages -/

/-- The memory port at a link down (R139). -/
def cutMem (m : MemoryPort) : MemoryPort := { m with up := false, credits := 0, takeList := [], sendQueue := [] }

/-- As the memory port has told the owners of its tags. -/
def portLost (s : State) : State := (s.downEntries.raise .linkChange).releaseChannels

/-- As `k` failures have been taken, and state control has been told. -/
def controlLost (s : State) (k : Nat) : State := (s.portLost.takeFailures k).linkDownControl

/-- As every channel's job has failed, at the end of the step. -/
def linkLost (s : State) (k : Nat) : State :=
  ((s.controlLost k).busyChannels.foldl (fun s c => s.failChan c) (s.controlLost k)).finish

theorem exec_memoryPortLinkDown (hup : s.mem.up = true) (k : Nat) :
    exec (.memoryPortLinkDown k) s = .next (s.linkLost k) := if_neg (by rw [hup]; exact nofun)

/-- What the link down changes before the copy engine acts. -/
theorem portLost_spec (s : State) :
    (∀ n, s.portLost.entry n = if freedByLink s n = true then .freed else s.entry n) ∧
    (∀ c, s.portLost.chan c =
      if c < 4 ∧ (s.chan c).state = .blocked then { s.chan c with state := .idle } else s.chan c) ∧
    (∀ x, s.portLost.copyTag x = if (128 ≤ x ∧ x < 144) ∧ (s.copyTag x).use = .quarantined then
      { s.copyTag x with use := .free } else s.copyTag x) ∧
    s.portLost = { s with
      entries := s.portLost.entries, channels := s.portLost.channels, copyTags := s.portLost.copyTags
      tags := .empty, mem := cutMem s.mem
      port := portAfter s.port (linkDowns ((List.range 128).filter (cutOff s))) (howMany 128 (freedByLink s))
      sweep := { s.sweep with drainSet := s.sweep.drainSet.filter fun n => !freedByLink s n }
      mgmt := { s.mgmt with flags := s.mgmt.flags ||| BitVec.twoPow 21 19 } } := by
  have hended := s.downEntries_ended
  obtain ⟨channels, copyTags, hrelease, hchan, hcopy⟩ := (s.downEntries.raise .linkChange).releaseChannels_spec
  have hmem : ∀ n, n ∈ (List.range 128).filter (freedByLink s) ↔ freedByLink s n = true := fun n => by
    rw [List.mem_filter, List.mem_range]
    refine and_iff_right_of_imp fun h => ?_
    unfold freedByLink at h
    exact of_decide_eq_true (Bool.and_eq_true_iff.1 h).1
  have hdrain : (s.sweep.drainSet.filter fun n => !((List.range 128).filter (freedByLink s)).contains n) =
      s.sweep.drainSet.filter fun n => !freedByLink s n := by
    refine List.filter_congr fun n _ => ?_
    rw [Bool.eq_iff_iff, Bool.not_eq_true', Bool.not_eq_true', ← Bool.not_eq_true, ← Bool.not_eq_true,
      List.contains_iff_mem, hmem]
  have hlost : s.portLost = { s.downEntries.raise .linkChange with channels := channels, copyTags := copyTags } := hrelease
  have hchannels : s.downEntries.channels = s.channels := by rw [hended.rest]; rfl
  have hcopyTags : s.downEntries.copyTags = s.copyTags := by rw [hended.rest]; rfl
  refine ⟨fun n => ?_, fun c => ?_, fun x => ?_, ?_⟩
  · rw [entry_congr (show s.portLost.entries = s.downEntries.entries by rw [hlost]; rfl), hended.entry,
      if_congr (hmem n) rfl rfl]
    rfl
  · have hsame : (s.downEntries.raise .linkChange).chan c = s.chan c :=
      congrFun (chan_congr hchannels) c
    rw [← hsame, hlost]
    exact hchan c
  · have hsame : (s.downEntries.raise .linkChange).copyTag x = s.copyTag x :=
      congrFun (copyTag_congr hcopyTags) x
    rw [← hsame, hlost]
    exact hcopy x
  · have hrest := hended.rest
    rw [hlost]
    conv_lhs => rw [hrest]
    have hdrain' : (s.memDown.sweep.drainSet.filter fun n => !((List.range 128).filter (freedByLink s)).contains n) =
        s.sweep.drainSet.filter fun n => !freedByLink s n := hdrain
    rw [hdrain']
    rfl

end Sys2Proof.Machine.State
end

section
namespace Sys2Proof.Laws

open Sys2Proof.Machine

namespace Closed

variable {P : State → Prop} {s : State} {k : Nat}

theorem controlLost (h : Closed P) (hs : P s.portLost) : P (s.controlLost k) := h.linkDownControl (h.takeFailures k hs)

theorem linkLost (h : Closed P) (hs : P (s.controlLost k)) : P (s.linkLost k) :=
  h.finish (foldl (fun _ c hs => h.failChan c hs) _ _ hs)

end Closed

theorem FaultClosed.linkLost {P : State → Prop} {s : State} {k : Nat} (h : FaultClosed flushWaiters P)
    (hs : P (s.controlLost k)) : P (s.linkLost k) := h.finish (h.failChans _ hs)

end Sys2Proof.Laws

namespace Sys2Proof.Machine.State

open Sys2Proof.Laws

variable {s : State} {k : Nat}

/-! ## State control at the link down (R150) -/

theorem linkDownControl_config (h : s.ctl.state = .config) : s.linkDownControl = s := by
  unfold State.linkDownControl
  rw [h]

theorem linkDownControl_degraded (h : s.ctl.state = .degraded) :
    s.linkDownControl = { s with ctl := { s.ctl with causeLink := true } } := by
  unfold State.linkDownControl
  rw [h]
  rfl

theorem linkDownControl_recovering (h : s.ctl.state = .recovering) :
    s.linkDownControl = { s with ctl := { s.ctl with spoiled := true, linkLost := true } } := by
  unfold State.linkDownControl
  rw [h]
  rfl

/-- In GUARDING the link down enters DEGRADED, every LIVE mark damaged. -/
theorem linkDownControl_guarding (h : s.ctl.state = .guarding) : ∃ slots,
    s.linkDownControl = (flushWaiters { s with
      ctl := { s.ctl with causeLink := true, state := .degraded }, slots := slots }).raise .degraded ∧
    ∀ q, slots.get .freed q = if q < 5 ∧ (s.slot q).state = .live then { s.slot q with damaged := true } else s.slot q := by
  obtain ⟨slots, hdamage, hslots⟩ :=
    damageLive_spec { s with ctl := { s.ctl with causeLink := true, state := .degraded } }
  refine ⟨slots, ?_, hslots⟩
  unfold State.linkDownControl
  rw [h]
  exact congrArg (fun u => (flushWaiters u).raise .degraded) hdamage

theorem linkDownControl_adds (h : s.ctl.state = .degraded) : s.linkDownControl.ctl.state = .degraded ∧
    s.linkDownControl.ctl.causeLink = true ∧ s.linkDownControl.mgmt = s.mgmt ∧ s.linkDownControl.slots = s.slots := by
  rw [linkDownControl_degraded h]
  exact ⟨h, rfl, rfl, rfl⟩

theorem linkDownControl_spoils (h : s.ctl.state = .recovering) : s.linkDownControl.ctl.state = .recovering ∧
    s.linkDownControl.ctl.spoiled = true ∧ s.linkDownControl.ctl.linkLost = true := by
  rw [linkDownControl_recovering h]
  exact ⟨h, rfl, rfl⟩

theorem linkDownControl_enters (h : s.ctl.state = .guarding) : s.linkDownControl.ctl.state = .degraded ∧
    s.linkDownControl.ctl.causeLink = true ∧ s.linkDownControl.flag .degraded = true := by
  obtain ⟨slots, hcontrol, -⟩ := linkDownControl_guarding h
  rw [hcontrol]
  have hgrows := (closed_grows _).flushWaiters { s with
    ctl := { s.ctl with causeLink := true, state := .degraded }, slots := slots } (grows_refl _)
  refine ⟨grows_degraded hgrows rfl, hgrows.link rfl, ?_⟩
  rw [raise_flag, Bool.or_eq_true]
  exact .inr (by decide)

theorem controlLost_eq (s : State) (k : Nat) : s.controlLost k = (s.portLost.takeFailures k).linkDownControl := rfl

theorem takeFailures_zero (s : State) : s.takeFailures 0 = s := by
  have hrounds : ∀ n u, arbitrateFrom (0 - n) u = u := fun n u => by
    rw [Nat.zero_sub]
    rfl
  exact hrounds _ _

theorem portLost_ctl (s : State) : s.portLost.ctl = s.ctl := by rw [s.portLost_spec.2.2.2]

theorem portLost_sched (s : State) : s.portLost.sched = s.sched := by rw [s.portLost_spec.2.2.2]

theorem portLost_slot (s : State) (q : Nat) : s.portLost.slot q = s.slot q :=
  congrFun (slot_congr (by rw [s.portLost_spec.2.2.2])) q

/-! ## What holds at the end of every link down -/

theorem linkLost_memory (s : State) (k : Nat) : (s.linkLost k).mem = cutMem s.mem ∧ (s.linkLost k).tags = .empty := by
  have h := closed_linkDown (m := cutMem s.mem) rfl
  refine h.linkLost (h.controlLost ?_)
  rw [s.portLost_spec.2.2.2]
  exact ⟨rfl, rfl⟩

theorem linkLost_flag (s : State) (k : Nat) : (s.linkLost k).flag .linkChange = true := by
  have h := (commandClosed_flag .linkChange).toClosed
  refine h.linkLost (h.controlLost ?_)
  rw [s.portLost_spec.2.2.2]
  show (s.raise .linkChange).flag .linkChange = true
  rw [raise_flag, Bool.or_eq_true]
  exact .inr (by decide)

/-- State control as the failures before its entry leave it. -/
theorem takeFailures_grows (s : State) (k : Nat) : s.ctl.Grows (s.portLost.takeFailures k).ctl := by
  refine (closed_grows s.ctl).takeFailures k ?_
  rw [portLost_ctl]
  exact grows_refl _

/-- What state control is told at the link down stands at its end. -/
theorem linkLost_grows (s : State) (k : Nat) : (s.controlLost k).ctl.Grows (s.linkLost k).ctl :=
  (closed_grows _).linkLost (grows_refl _)

theorem grows_same {c v : Control} (h : c.Grows v) (hc : c.state ≠ .guarding) : v.state = c.state :=
  h.state.resolve_right fun hboth => hc hboth.1

theorem linkLost_config (h : s.ctl.state = .config) : (s.linkLost k).ctl.state = .config := by
  have hfailed := grows_same (takeFailures_grows s k) (by rw [h]; exact nofun)
  have hcontrol : s.controlLost k = s.portLost.takeFailures k := linkDownControl_config (hfailed.trans h)
  have hend := linkLost_grows s k
  rw [hcontrol] at hend
  rw [grows_same hend (by rw [hfailed, h]; exact nofun), hfailed, h]

theorem linkLost_degraded (h : s.ctl.state = .degraded) :
    (s.linkLost k).ctl.state = .degraded ∧ (s.linkLost k).ctl.causeLink = true := by
  have hfailed := (grows_same (takeFailures_grows s k) (by rw [h]; exact nofun)).trans h
  obtain ⟨hstate, hlink, -⟩ := linkDownControl_adds hfailed
  rw [← controlLost_eq] at hstate hlink
  have hend := linkLost_grows s k
  exact ⟨grows_degraded hend hstate, hend.link hlink⟩

theorem linkLost_recovering (h : s.ctl.state = .recovering) : (s.linkLost k).ctl.state = .recovering ∧
    (s.linkLost k).ctl.spoiled = true ∧ (s.linkLost k).ctl.linkLost = true := by
  have hfailed := (grows_same (takeFailures_grows s k) (by rw [h]; exact nofun)).trans h
  obtain ⟨hstate, hspoiled, hlatch⟩ := linkDownControl_spoils hfailed
  rw [← controlLost_eq] at hstate hspoiled hlatch
  have hend := linkLost_grows s k
  exact ⟨(grows_same hend fun hc => nomatch hstate.symm.trans hc).trans hstate, hend.spoiled hspoiled,
    hend.linkLost hlatch⟩

section
variable (h : s.ctl.state = .guarding)
include h

/-- In GUARDING the failures before the entry stay in it, or a table fault has entered DEGRADED. -/
theorem takeFailures_entered (k : Nat) : (s.portLost.takeFailures k).ctl.state = .guarding ∨
    (s.portLost.takeFailures k).ctl.state = .degraded ∧ (s.portLost.takeFailures k).flag .degraded = true :=
  faultClosed_entered.takeFailures k (.inl (by rw [portLost_ctl]; exact h))

theorem controlLost_entered (k : Nat) : (s.controlLost k).ctl.state = .degraded ∧
    (s.controlLost k).ctl.causeLink = true ∧ (s.controlLost k).flag .degraded = true := by
  rw [controlLost_eq]
  obtain hguarding | ⟨hdegraded, hflag⟩ := takeFailures_entered h k
  · exact linkDownControl_enters hguarding
  · obtain ⟨hstate, hlink, hmgmt, -⟩ := linkDownControl_adds hdegraded
    refine ⟨hstate, hlink, ?_⟩
    unfold State.flag at hflag ⊢
    rw [hmgmt]
    exact hflag

theorem linkLost_entered (k : Nat) : (s.linkLost k).ctl.state = .degraded ∧ (s.linkLost k).ctl.causeLink = true ∧
    (s.linkLost k).flag .degraded = true := by
  obtain ⟨hstate, hlink, hflag⟩ := controlLost_entered h k
  have hend := linkLost_grows s k
  exact ⟨grows_degraded hend hstate, hend.link hlink, (commandClosed_flag .degraded).toClosed.linkLost hflag⟩

theorem linkLost_damaged {q : Nat} (hq : q < 5) (hlive : (s.slot q).state = .live) (hk : k = 0 ∨ s.sched.roll = false) :
    ((s.linkLost k).slot q).damaged = true := by
  refine (faultClosed_damaged_flush q).linkLost ?_
  have hentry : ∀ u : State, u.ctl.state = .guarding → (u.slot q).state = .live →
      (u.linkDownControl.slot q).damaged = true := fun u hguarding hlive => by
    obtain ⟨slots, hcontrol, hslots⟩ := linkDownControl_guarding hguarding
    rw [hcontrol]
    refine (faultClosed_damaged q fun _ => id).flushWaitersWith _ ?_
    exact congrArg Slot.damaged ((hslots q).trans (if_pos ⟨hq, hlive⟩))
  have hguarding : s.portLost.ctl.state = .guarding := by rw [portLost_ctl]; exact h
  have hlost : (s.portLost.slot q).state = .live := by rw [portLost_slot]; exact hlive
  rw [controlLost_eq]
  obtain rfl | hroll := hk
  · rw [takeFailures_zero]
    exact hentry _ hguarding hlost
  · obtain ⟨-, hfell⟩ := (faultClosed_live hq).takeFailures k
      ⟨by rw [portLost_sched]; exact hroll, .inl ⟨hguarding, hlost⟩⟩
    obtain ⟨hstill, hlive⟩ | ⟨hdegraded, hdamaged⟩ := hfell
    · exact hentry _ hstill hlive
    · rw [slot_congr (linkDownControl_adds hdegraded).2.2.2]
      exact hdamaged

end

end Sys2Proof.Machine.State
end

section
/-! The writes in FRAME_WAIT as a memory-port link down in GUARDING issues them: each ends at once with the link (R133, R139,
R148, step 3). -/

namespace Sys2Proof.Machine.State

variable {s t u v : State} {n m p : Nat} {e : Entry} {l l' : List Nat} {flush : State → State}

/-! ## Requests issued with the link down -/

@[simp] theorem linkDowns_append (l l' : List Nat) : linkDowns (l ++ l') = linkDowns l ++ linkDowns l' := List.map_append

/-- The requests `l` have left their lists and ended with the link, in order; page entries are as `t` has them. -/
def Gone (s t : State) (l : List Nat) : Prop := Ended { s with pst := t.pst } t l (linkDowns l)

namespace Gone

theorem refl (s : State) : Gone s s [] := Ended.refl s

theorem trans (h : Gone s t l) (h' : Gone t u l') : Gone s u (l ++ l') := by
  have hboth := (h.withPst u.pst).trans h'
  rw [← linkDowns_append] at hboth
  exact hboth

theorem entry (h : Gone s t l) (n : Nat) : t.entry n = if n ∈ l then .freed else s.entry n := Ended.entry h n

theorem entry_of_not_mem (h : Gone s t l) (hn : n ∉ l) : t.entry n = s.entry n := (h.entry n).trans (if_neg hn)

theorem rest (h : Gone s t l) : t = { s with
    entries := t.entries, pst := t.pst, port := portAfter s.port (linkDowns l) l.length
    sweep := { s.sweep with drainSet := s.sweep.drainSet.filter fun n => !l.contains n } } := Ended.rest h

theorem agree (h : Gone s t l) (hchain : (t.page p).chainHead = (s.page p).chainHead) : Agree s t p where
  records := by rw [h.rest]
  slots := by rw [h.rest]
  kind := by rw [h.rest]
  phase := by rw [h.rest]
  target := by rw [h.rest]
  boundary := by rw [h.rest]
  chainHead := hchain

theorem withPool (h : Gone s t l) (q : Pool) : Gone { s with pool := q } { t with pool := q } l where
  entry := h.entry
  rest := by
    conv_lhs => rw [h.rest]

end Gone

/-- A list's head leaves it, is issued and ends. -/
theorem issueHead_gone (hdown : s.mem.up = false) : Gone s (s.issueHead p n (s.entry n).address) [n] ∧
    ∀ j, (s.issueHead p n (s.entry n).address).page j = if j = p then
      { s.page p with
        waitHead := (s.entry n).next
        waitTail := if (s.entry n).next = none then none else (s.page p).waitTail, parityOk := true }
      else s.page j := by
  generalize hu : ({ s.popHead p n with
    entries := (s.popHead p n).entries.set .freed n (issuedAt ((s.popHead p n).entry n) (s.entry n).address) } : State) = u
  have hissue : s.issueHead p n (s.entry n).address = u.complete n .dataErr .linkDown [] := by
    unfold State.issueHead
    rw [issueTo_down (by rw [popHead_eq rfl]; exact hdown), ← hu]
  have hself : (u.entry n).state = .issued := by
    rw [← hu]
    exact congrArg Entry.state (Table.get_set_same ..)
  have hother : ∀ x, x ≠ n → u.entry x = s.entry x := fun x hx => by
    rw [← hu, popHead_eq rfl]
    exact (Table.get_set_other _ _ _ hx).trans (Table.get_set_other _ _ _ hx)
  have hended := complete_ended (s := u) (n := n) (by rw [hself]; exact nofun) .dataErr .linkDown []
  rw [hissue]
  generalize u.complete n .dataErr .linkDown [] = t at hended
  have hrest : u = { s with entries := u.entries, pst := u.pst } := by
    rw [← hu, popHead_eq rfl]
    rfl
  have hpst : t.pst = u.pst := by rw [hended.rest]
  refine ⟨⟨fun x => ?_, ?_⟩, fun j => ?_⟩
  · rw [hended.entry]
    split
    · rfl
    next hx => exact hother x fun h => hx (List.mem_singleton.2 h)
  · have hspec := hended.rest
    rw [hpst]
    conv_lhs => rw [hspec, hrest]
    rfl
  · rw [show t.page j = u.page j by unfold State.page; rw [hpst], ← hu, popHead_eq rfl]
    exact Table.get_set ..

/-- What a page's list is in DEGRADED, with the link down, for its requests to end: sound, without a rollback source. -/
structure EndsAll (u : State) (p : Nat) : Prop where
  degraded : u.ctl.state = .degraded
  down : u.mem.up = false
  parity : (u.page p).parityOk = true
  source : noSource u p
  records : u.restoring = true → ∀ y, (u.record y).parityOk = true

theorem EndsAll.congr (h : EndsAll s p) (hgone : Gone s t l) (hchain : (t.page p).chainHead = (s.page p).chainHead)
    (hparity : (t.page p).parityOk = true) : EndsAll t p := by
  have hagree := hgone.agree hchain
  refine ⟨?_, ?_, hparity, fun hrestoring => ?_, fun hrestoring y => ?_⟩
  · rw [hgone.rest]
    exact h.degraded
  · rw [hgone.rest]
    exact h.down
  · rw [hagree.restoring] at hrestoring
    rw [hagree.sources]
    exact h.source hrestoring
  · rw [hagree.restoring] at hrestoring
    rw [record_congr hagree.records]
    exact h.records hrestoring y

/-- In DEGRADED, with the link down, the requests of a list end in order, and the list is empty. -/
theorem decidePageWith_gone {k : Nat} (h : EndsAll u p) (hlinked : u.Linked (u.page p).waitHead l)
    (hlisted : ∀ m, m ∈ l → u.isListed m = true) (hnodup : l.Nodup) (hempty : l = [] → (u.page p).waitTail = none)
    (hk : l.length < k) : ∃ v, decidePageWith flush p k u = v ∧ Gone u v l ∧
      ∀ j, v.page j = if j = p then { u.page p with waitHead := none, waitTail := none } else u.page j := by
  induction l generalizing u k with
  | nil =>
    obtain ⟨k, rfl⟩ : ∃ k', k = k' + 1 := ⟨k - 1, by simp at hk; omega⟩
    have hhead : (u.page p).waitHead = none := hlinked
    refine ⟨u, decidePageWith_none h.parity hhead, .refl u, fun j => ?_⟩
    rw [emptied_eq hhead (hempty rfl)]
    split
    next hj => rw [hj]
    · rfl
  | cons m l ih =>
    obtain ⟨k, rfl⟩ : ∃ k', k = k' + 1 := ⟨k - 1, by simp at hk; omega⟩
    obtain ⟨hhead, hlinked⟩ := hlinked
    obtain ⟨hml, hnodup⟩ := List.nodup_cons.1 hnodup
    obtain ⟨hone, hpage⟩ := issueHead_gone (p := p) (n := m) h.down
    rw [decidePageWith_passes h.parity hhead (hlisted m (List.mem_cons_self ..)) h.source
      (fun hrestoring y _ => h.records hrestoring y) (.inr (.inl h.degraded))]
    generalize u.issueHead p m (u.entry m).address = w at hone hpage
    have hself := (hpage p).trans (if_pos rfl)
    have hother : ∀ x, x ∈ l → w.entry x = u.entry x := fun x hx =>
      hone.entry_of_not_mem fun h => hml (List.mem_singleton.1 h ▸ hx)
    obtain ⟨v, hv, hgone, hpages⟩ := ih (u := w) (k := k) (h.congr hone (by rw [hself]) (by rw [hself]))
      (by rw [hself]; exact hlinked.congr fun x hx => by rw [hother x hx])
      (fun x hx => (isListed_congr (hother x hx)).trans (hlisted x (List.mem_cons_of_mem _ hx)))
      hnodup (fun hl => by
        subst hl
        rw [hself, show (u.entry m).next = none from hlinked]
        rfl)
      (Nat.lt_of_succ_lt_succ hk)
    refine ⟨v, hv, hone.trans hgone, fun j => ?_⟩
    rw [hpages, hself]
    split
    · rw [← h.parity]
    next hj => rw [hpage, if_neg hj]

/-! ## The flush (R148, step 3) -/

/-- Write `n` in FRAME_WAIT heads page `p`'s list, before the requests `l`, the link down. -/
structure LastWaiter (u : State) (n p : Nat) (l : List Nat) : Prop where
  pst : (u.entry n).pst = some p
  ends : EndsAll u p
  linked : u.Linked (u.page p).waitHead (n :: l)
  listed : ∀ m, m ∈ l → u.isListed m = true
  short : l.length < 129

namespace LastWaiter

/-- A waiter of another page stands while other requests end. -/
theorem congr (h : LastWaiter s n p l) (hgone : Gone s t l') (hpage : t.page p = s.page p)
    (hdisjoint : l'.Disjoint (n :: l)) : LastWaiter t n p l := by
  have hentry : ∀ m, m ∈ n :: l → t.entry m = s.entry m := fun m hm =>
    hgone.entry_of_not_mem fun hk => hdisjoint hk hm
  refine ⟨?_, h.ends.congr hgone (by rw [hpage]) (by rw [hpage]; exact h.ends.parity), ?_, fun m hm => ?_, h.short⟩
  · rw [hentry n (List.mem_cons_self ..)]
    exact h.pst
  · rw [hpage]
    exact h.linked.congr fun m hm => by rw [hentry m hm]
  · rw [isListed_congr (hentry m (List.mem_cons_of_mem _ hm))]
    exact h.listed m hm

/-- A waiter and the requests behind it end, in order. -/
theorem gone (h : LastWaiter u n p l) (hnodup : (n :: l).Nodup) : ∃ v,
    decidePageWith flush p listRounds (u.issueHead p n (u.entry n).address) = v ∧ Gone u v (n :: l) ∧
    ∀ j, v.page j = if j = p then { u.page p with waitHead := none, waitTail := none } else u.page j := by
  obtain ⟨hnl, hnodup⟩ := List.nodup_cons.1 hnodup
  obtain ⟨hone, hpage⟩ := issueHead_gone (p := p) (n := n) h.ends.down
  generalize u.issueHead p n (u.entry n).address = w at hone hpage
  have hself := (hpage p).trans (if_pos rfl)
  have hother : ∀ m, m ∈ l → w.entry m = u.entry m := fun m hm =>
    hone.entry_of_not_mem fun h => hnl (List.mem_singleton.1 h ▸ hm)
  obtain ⟨v, hv, hgone, hpages⟩ := decidePageWith_gone (flush := flush) (u := w) (l := l) (k := listRounds)
    (h.ends.congr hone (by rw [hself]) (by rw [hself]))
    (by rw [hself]; exact h.linked.2.congr fun x hx => by rw [hother x hx])
    (fun m hm => (isListed_congr (hother m hm)).trans (h.listed m hm)) hnodup
    (fun hl => by
      have hnext := h.linked.2
      subst hl
      rw [hself, show (u.entry n).next = none from hnext]
      rfl)
    h.short
  refine ⟨v, hv, hone.trans hgone, fun j => ?_⟩
  rw [hpages, hself]
  split
  · rw [← h.ends.parity]
  next hj => rw [hpage, if_neg hj]

theorem withPool (h : LastWaiter u n p l) (q : Pool) : LastWaiter { u with pool := q } n p l where
  pst := h.pst
  ends :=
    have hagree : Agree u { u with pool := q } p := ⟨rfl, rfl, rfl, rfl, rfl, rfl, rfl⟩
    ⟨h.ends.degraded, h.ends.down, h.ends.parity,
      fun hrestoring => hagree.sources.trans (h.ends.source hrestoring), h.ends.records⟩
  linked := h.linked.congr fun _ _ => rfl
  listed := h.listed
  short := h.short

end LastWaiter

/-- The flush of the writes in FRAME_WAIT with the link down. -/
theorem flushWaitersWith_gone {ws : List (Nat × Nat × List Nat)} {k : Nat}
    (hwaiters : ∀ w, w ∈ ws → LastWaiter u w.1 w.2.1 w.2.2) (hwait : u.pool.wait = ws.map (·.1))
    (hnodup : (waitersList ws).Nodup) (hk : ws.length < k) : ∃ v, flushWaitersWith flush k u = v ∧
    Gone { u with pool := { u.pool with wait := [] } } v (waitersList ws) ∧
    ∀ j, v.page j = if j ∈ ws.map (·.2.1) then { u.page j with waitHead := none, waitTail := none } else u.page j := by
  induction ws generalizing u k with
  | nil =>
    obtain ⟨k, rfl⟩ : ∃ k', k = k' + 1 := ⟨k - 1, by simp at hk; omega⟩
    refine ⟨u, ?_, ?_, fun j => (if_neg List.not_mem_nil).symm⟩
    · unfold Machine.flushWaitersWith
      rw [hwait]
      rfl
    · have hpool : ({ u with pool := { u.pool with wait := [] } } : State) = u := by
        rw [← show u.pool.wait = [] from hwait]
      rw [hpool]
      exact .refl u
  | cons w ws ih =>
    obtain ⟨k, rfl⟩ : ∃ k', k = k' + 1 := ⟨k - 1, by simp at hk; omega⟩
    obtain ⟨n, p, l⟩ := w
    have hfirst : LastWaiter u n p l := hwaiters _ (List.mem_cons_self ..)
    obtain ⟨hnl, hrest, hdisjoint⟩ := List.nodup_append'.1 (show ((n :: l) ++ waitersList ws).Nodup from hnodup)
    generalize hu : ({ u with pool := { u.pool with wait := ws.map (·.1) } } : State) = u'
    have hfirst' : LastWaiter u' n p l := by rw [← hu]; exact hfirst.withPool _
    obtain ⟨v', hv', hgone', hpages'⟩ := hfirst'.gone (flush := flush) hnl
    have hpage' : ∀ j, u'.page j = u.page j := fun j => by rw [← hu]; rfl
    have hstep : flushWaitersWith flush (k + 1) u = flushWaitersWith flush k v' := by
      rw [flushWaitersWith_cons hwait hfirst.pst hfirst.ends.parity hu, hv']
    have hlater : ∀ w, w ∈ ws → w.2.1 ≠ p ∧ LastWaiter v' w.1 w.2.1 w.2.2 := by
      intro w hw
      have hwaiter := hwaiters w (List.mem_cons_of_mem _ hw)
      have hsub : ∀ m, m ∈ w.1 :: w.2.2 → m ∈ waitersList ws := fun m hm => List.mem_flatMap.2 ⟨w, hw, hm⟩
      have hne : w.2.1 ≠ p := by
        intro hp
        have hhead := hwaiter.linked.1
        rw [hp, hfirst.linked.1] at hhead
        exact hdisjoint (List.mem_cons_self ..) (hsub n (by rw [Option.some.inj hhead]; exact List.mem_cons_self ..))
      refine ⟨hne, LastWaiter.congr (s := u') (by rw [← hu]; exact hwaiter.withPool _) hgone' ?_ fun m hm hmw =>
        hdisjoint hm (hsub m hmw)⟩
      rw [hpages', if_neg hne]
    have hpool' : v'.pool = { u.pool with wait := ws.map (·.1) } := by rw [hgone'.rest, ← hu]
    obtain ⟨v, hv, hgone, hpages⟩ := ih (u := v') (k := k) (fun w hw => (hlater w hw).2) (by rw [hpool'])
      hrest (Nat.lt_of_succ_lt_succ hk)
    refine ⟨v, hstep.trans hv, ?_, fun j => ?_⟩
    · have hboth := (hgone'.withPool { v'.pool with wait := [] }).trans hgone
      rw [← hu, hpool'] at hboth
      exact hboth
    · rw [hpages, hpages', hpage', hpage', List.map_cons]
      by_cases hj : j = p
      · subst hj
        rw [if_pos rfl, if_neg fun hmem => ?_, if_pos (List.mem_cons_self ..)]
        obtain ⟨w, hw, hp⟩ := List.mem_map.1 hmem
        exact (hlater w hw).1 hp
      · rw [if_neg hj]
        exact if_congr ⟨List.mem_cons_of_mem _, fun h => (List.mem_cons.1 h).resolve_left hj⟩ rfl rfl

end Sys2Proof.Machine.State
end

section
/-! State control at the link down (R148, R150), and the end of a step with several credits. -/

namespace Sys2Proof.Machine.State

variable {s t u v : State} {n p k : Nat} {l : List Nat} {m : List UpMessage}

/-! ## The writes in FRAME_WAIT as the link down finds them -/

/-- The writes in FRAME_WAIT stand while other entries change. -/
theorem WaitersStand.congr (h : WaitersStand s) (hagree : ∀ p, Agree s t p) (hpst : t.pst = s.pst)
    (hpool : t.pool.wait = s.pool.wait) (hentry : ∀ m, m ∈ waitersIssued s → t.entry m = s.entry m) :
    waitersIssued t = waitersIssued s ∧ WaitersStand t := by
  have hpage : t.page = s.page := by
    unfold State.page
    rw [hpst]
  have hwaiter : ∀ n, n ∈ s.pool.wait → n ∈ waitersIssued s ∧
      ∃ x, (s.entry n).pst = some x ∧ t.waitList x = s.waitList x := by
    intro n hn
    obtain ⟨x, hx, hlist, -, hlinked, -, -, hsub⟩ := waiter_of_mem h hn
    refine ⟨hsub n (List.mem_cons_self ..), x, hx, ?_⟩
    rw [hlist]
    refine waitList_of_linked ?_ ?_
    · rw [hpage]
      exact hlinked.congr fun y hy => by rw [hentry y (hsub y hy)]
    · rw [← hlist]
      have hnodup : (s.waitList x).Nodup := by
        have hone := (List.nodup_flatMap.1 h.once).1 n hn
        rwa [hx] at hone
      exact length_le_of_lt hnodup fun y hy => (h.listed y (hsub y (by rwa [hlist] at hy))).1
  have hissued : waitersIssued t = waitersIssued s := by
    unfold waitersIssued
    rw [hpool]
    refine List.flatMap_congr fun n hn => ?_
    obtain ⟨hmem, x, hx, hlist⟩ := hwaiter n hn
    rw [hentry n hmem, hx]
    exact hlist
  refine ⟨hissued, fun n hn => ?_, fun y hy => ?_, ?_, fun hrestoring y => ?_⟩
  · rw [hpool] at hn
    obtain ⟨hstate, x, hx, hhead, hparity, hsource⟩ := h.heads n hn
    rw [hentry n (hwaiter n hn).1, hpage]
    refine ⟨hstate, x, hx, hhead, hparity, fun hrestoring => ?_⟩
    rw [(hagree x).restoring] at hrestoring
    rw [(hagree x).sources]
    exact hsource hrestoring
  · rw [hissued] at hy
    rw [hentry y hy]
    exact h.listed y hy
  · rw [hissued]
    exact h.once
  · rw [(hagree 0).restoring] at hrestoring
    rw [record_congr (hagree 0).records]
    exact h.records hrestoring y

/-- No write is in FRAME_WAIT, or those that are stand. -/
def WaitersClear (s : State) : Prop := s.pool.wait = [] ∨ WaitersStand s

theorem waitersIssued_none (h : s.pool.wait = []) : waitersIssued s = [] := by
  unfold waitersIssued
  rw [h]
  rfl

theorem waitersPage_none (h : s.pool.wait = []) (y : Nat) : waitersPage s y = s.page y := by
  unfold waitersPage
  rw [h]
  rfl

/-- The flush of the writes in FRAME_WAIT, the link down, in a state that differs from `s` in the operating state and the
damage of marks. -/
theorem flushWaiters_gone (h : WaitersClear s) (hsame : SameMarks s t) (hdegraded : t.ctl.state = .degraded)
    (hdown : t.mem.up = false) (hentries : t.entries = s.entries) (hpool : t.pool = s.pool) :
    ∃ v, flushWaiters t = v ∧ Gone { t with pool := { s.pool with wait := [] } } v (waitersIssued s) ∧
      ∀ y, v.page y = waitersPage s y := by
  obtain hwait | h := h
  · refine ⟨t, flushWaiters_none (by rw [hpool]; exact hwait), ?_, fun y => ?_⟩
    · have hsame : ({ t with pool := { s.pool with wait := [] } } : State) = t := by rw [← hwait, ← hpool]
      rw [waitersIssued_none hwait, hsame]
      exact .refl t
    · rw [waitersPage_none hwait]
      unfold State.page
      rw [hsame.pst]
  have hwaiters : ∀ w, w ∈ s.waiters → LastWaiter t w.1 w.2.1 w.2.2 := fun w hw => by
    obtain ⟨hpst, hlinked, hparity, hsource, hrecords, hlisted, hshort⟩ := waiters_stand h hsame hentries hw
    exact ⟨hpst, ⟨hdegraded, hdown, hparity, hsource, hrecords⟩, hlinked, hlisted, hshort⟩
  obtain ⟨v, hv, hgone, hpages⟩ := flushWaitersWith_gone (flush := id) hwaiters
    (by rw [hpool]; exact s.waiters_heads.symm) (waiters_nodup h) (waiters_short h)
  rw [waitersList_waiters h, hpool] at hgone
  refine ⟨v, hv, hgone, fun y => ?_⟩
  rw [hpages, waitersPage_eq h]
  unfold State.page
  rw [hsame.pst]

/-! ## State control -/

theorem linkDownCtl_degraded {c : Control} (h : c.state = .degraded) : linkDownCtl c = { c with causeLink := true } := by
  cases c
  cases h
  rfl

theorem linkDownCtl_recovering {c : Control} (h : c.state = .recovering) :
    linkDownCtl c = { c with spoiled := true, linkLost := true } := by
  cases c
  cases h
  rfl

theorem linkDownCtl_guarding {c : Control} (h : c.state = .guarding) :
    linkDownCtl c = { c with causeLink := true, state := .degraded } := by
  cases c
  cases h
  rfl

/-- The flags of the entry to DEGRADED at a link down. -/
def entryFlags (s : State) : BitVec 21 := if s.ctl.state = .guarding then BitVec.twoPow 21 17 else 0#21

/-- What state control's part of a link down leaves, the requests that it issues ended. -/
structure Controlled (s t : State) : Prop where
  entry : ∀ n, t.entry n = if n ∈ linkDownWaiters s then .freed else s.entry n
  page : ∀ y, t.page y = linkDownPage s y
  slot : ∀ q, t.slot q = linkDownSlot s q (s.slot q)
  pst : s.pool.wait = [] → t.pst = s.pst
  rest : t = { s with
    entries := t.entries, pst := t.pst, slots := t.slots, pool := linkDownPool s, ctl := linkDownCtl s.ctl
    port := portAfter s.port (linkDowns (linkDownWaiters s)) (linkDownWaiters s).length
    sweep := { s.sweep with drainSet := s.sweep.drainSet.filter fun n => !(linkDownWaiters s).contains n }
    mgmt := { s.mgmt with flags := s.mgmt.flags ||| entryFlags s } }

/-- Outside GUARDING state control alone changes. -/
theorem controlled_of_ctl (hstate : s.ctl.state ≠ .guarding) (ht : t = { s with ctl := linkDownCtl s.ctl }) :
    Controlled s t := by
  have hwaiters : linkDownWaiters s = [] := if_neg hstate
  subst ht
  refine ⟨fun n => ?_, fun y => (if_neg hstate).symm, fun q => (if_neg fun h => hstate h.1).symm, fun _ => rfl, ?_⟩
  · rw [hwaiters]
    exact (if_neg List.not_mem_nil).symm
  · rw [hwaiters, show linkDownPool s = s.pool from if_neg hstate, show entryFlags s = 0#21 from if_neg hstate,
      BitVec.or_zero, linkDowns_nil, List.length_nil, portAfter_nothing, filter_not_contains_nil]

theorem linkDownControl_spec (hstands : s.ctl.state = .guarding → WaitersClear s) (hdown : s.mem.up = false) :
    Controlled s s.linkDownControl := by
  cases hstate : s.ctl.state with
  | config =>
    refine controlled_of_ctl (by rw [hstate]; exact nofun) ?_
    rw [linkDownControl_config hstate, linkDownCtl, hstate]
  | degraded =>
    refine controlled_of_ctl (by rw [hstate]; exact nofun) ?_
    rw [linkDownControl_degraded hstate, linkDownCtl_degraded hstate]
  | recovering =>
    refine controlled_of_ctl (by rw [hstate]; exact nofun) ?_
    rw [linkDownControl_recovering hstate, linkDownCtl_recovering hstate]
  | guarding =>
    obtain ⟨slots, hcontrol, hslots⟩ := linkDownControl_guarding hstate
    generalize ht : ({ s with
      ctl := { s.ctl with causeLink := true, state := .degraded }, slots := slots } : State) = t at hcontrol
    have hslot : ∀ q, t.slot q =
        if q < 5 ∧ (s.slot q).state = .live then { s.slot q with damaged := true } else s.slot q := by
      rw [← ht]
      exact hslots
    have hsame : SameMarks s t := by
      refine ⟨by rw [← ht], by rw [← ht], by rw [← ht], fun q => ?_, fun q => ?_, fun q => ?_⟩ <;> rw [hslot] <;>
        split <;> rfl
    obtain ⟨v, hv, hgone, hpage⟩ := flushWaiters_gone (hstands hstate) hsame (by rw [← ht]) (by rw [← ht]; exact hdown)
      (by rw [← ht]) (by rw [← ht])
    have hwaiters : linkDownWaiters s = waitersIssued s := if_pos hstate
    rw [hcontrol, hv]
    refine ⟨fun n => ?_, fun y => ?_, fun q => ?_, fun hwait => ?_, ?_⟩
    · rw [hwaiters]
      refine (hgone.entry n).trans ?_
      rw [← ht]
      rfl
    · exact (hpage y).trans (if_pos hstate).symm
    · rw [show (v.raise .degraded).slot q = t.slot q from congrFun (slot_congr (by rw [hgone.rest]; rfl)) q, hslot]
      refine if_congr ?_ rfl rfl
      rw [and_iff_right hstate]
    · have hflush : v = t := by rw [← hv, flushWaiters_none (by rw [← ht]; exact hwait)]
      rw [hflush, ← ht]
      rfl
    · have hrest := hgone.rest
      rw [hwaiters, show linkDownPool s = { s.pool with wait := [] } from if_pos hstate,
        show entryFlags s = BitVec.twoPow 21 17 from if_pos hstate, linkDownCtl_guarding hstate]
      have hvslots : v.slots = slots := by rw [hrest, ← ht]
      rw [show (v.raise .degraded).slots = slots from hvslots]
      conv_lhs => rw [hrest, ← ht]
      rfl

/-! ## The end of the step (R109, R120) -/

/-- The port as the step's credits are sent. -/
theorem sendCredits_eq (s : State) : s.sendCredits = { s with port := { s.port with
    credits := s.port.credits + s.port.due, due := 0
    sent := s.port.sent ++ if 0 < s.port.due then [.credit s.port.due] else [] } } := by
  unfold State.sendCredits
  split
  next hdue =>
    rw [if_neg (by rw [hdue]; exact lt_irrefl 0), hdue, List.append_nil, Nat.add_zero, ← hdue]
  next hdue =>
    rw [if_pos (Nat.pos_of_ne_zero hdue)]
    rfl

/-- The messages at a link down behind those of the entries that it ends. -/
def lastMessages (s : State) (held : List UpMessage) : List UpMessage := linkDowns (linkDownWaiters s) ++ held

theorem linkDownPort_eq (hdue : s.port.due = 0) (t : State) (held : List UpMessage) :
    let q := portAfter s.port (linkDowns ((List.range 128).filter (cutOff s)) ++ lastMessages s held)
      (howMany 128 (freedByLink s) + (lastMessages s held).length)
    { q with
      intake := intakeAfter s t, credits := q.credits + q.due, due := 0
      sent := q.sent ++ if 0 < q.due then [.credit q.due] else [] } = linkDownPort s t held := by
  unfold linkDownPort portAfter
  rw [show lastMessages s held =
    (linkDownWaiters s).map (fun n => .completion n .dataErr .linkDown []) ++ held from rfl]
  dsimp only
  by_cases hup : s.port.up = false
  · rw [if_pos hup, if_pos hup, hdue]
    rw [if_neg (lt_irrefl 0), List.append_nil, Nat.add_zero, ← hdue]
  · rw [if_neg hup, if_neg hup]
    by_cases ho : s.port.intake = .opened
    · simp only [ho, if_true, hdue, Nat.zero_add, true_and, linkDowns, List.append_assoc]
    · simp only [ho, if_false, hdue, Nat.add_zero, false_and, lt_irrefl, List.append_nil, linkDowns, List.append_assoc]

/-- The end of a link down, as nothing is left for the arbiter. -/
theorem finish_linkDown {held : List UpMessage} (hdue : s.port.due = 0) (hidle : v.ArbiterIdle)
    (hport : v.port = portAfter s.port (linkDowns ((List.range 128).filter (cutOff s)) ++ lastMessages s held)
      (howMany 128 (freedByLink s) + (lastMessages s held).length)) :
    ∃ t, v.finish = t ∧ t = { v with port := linkDownPort s t held, mgmt := quiesced s t v.mgmt } := by
  have hfinish : v.finish = { v with
      port := { v.port with
        intake := intakeAfter v v, credits := v.port.credits + v.port.due, due := 0
        sent := v.port.sent ++ if 0 < v.port.due then [.credit v.port.due] else [] }
      mgmt := quiesced v v v.mgmt } := by
    rw [finish_idle hidle, checkIntake_eq, sendCredits_eq]
  have hintake : s.port.intake = v.port.intake := by
    rw [hport]
    unfold portAfter
    split <;> rfl
  refine ⟨v.finish, rfl, ?_⟩
  have hempty : v.finish.emptyCondition = v.emptyCondition := by
    rw [hfinish]
    exact emptyCondition_congr (fun _ => rfl) rfl rfl rfl rfl
  have hequal := linkDownPort_eq hdue v.finish held
  rw [← hport, intakeAfter_congr (s := s) (t := v.finish) hintake hempty] at hequal
  rw [← hequal, quiesced_congr_port hintake hempty]
  exact hfinish

end Sys2Proof.Machine.State
end

section
/-! The memory-port link down with no copy job (O51). -/

namespace Sys2Proof.Machine.State

variable {s t v : State} {n k : Nat}

/-! ## What state control finds after the memory port's part (R139) -/

theorem freedByLink_state (h : freedByLink s n = true) : (s.entry n).state = .issued ∨ (s.entry n).state = .orphaned ∨
    (s.entry n).state = .quarantined := by
  unfold freedByLink cutOff at h
  simp only [Bool.and_eq_true, Bool.or_eq_true, beq_iff_eq] at h
  obtain ⟨-, (⟨hstate, -⟩ | ⟨hstate, -⟩) | ⟨hstate, -⟩⟩ := h
  · exact .inl hstate
  · exact .inr (.inl hstate)
  · exact .inr (.inr hstate)

/-- The memory port's part leaves alone what state control's part reads. -/
structure SameWaiters (s t : State) : Prop where
  clear : s.ctl.state = .guarding → WaitersClear t
  waiters : linkDownWaiters t = linkDownWaiters s
  page : ∀ y, linkDownPage t y = linkDownPage s y

theorem portLost_agree (s : State) (p : Nat) : Agree s s.portLost p := by
  obtain ⟨-, -, -, hrest⟩ := s.portLost_spec
  refine ⟨?_, ?_, ?_, ?_, ?_, ?_, ?_⟩
  · rw [hrest]
  · rw [hrest]
  · rw [hrest]
  · rw [hrest]
  · rw [hrest]
  · rw [hrest]
  · unfold State.page
    rw [hrest]

theorem portLost_waiters (hclear : s.ctl.state = .guarding → WaitersClear s) : SameWaiters s s.portLost := by
  obtain ⟨hentry, -, -, hrest⟩ := s.portLost_spec
  have hctl : s.portLost.ctl = s.ctl := s.portLost_ctl
  have hpool : s.portLost.pool = s.pool := by rw [hrest]
  have hpst : s.portLost.pst = s.pst := by rw [hrest]
  have hpage : s.portLost.page = s.page := by
    unfold State.page
    rw [hpst]
  by_cases hguarding : s.ctl.state = .guarding
  · have hguarding' : s.portLost.ctl.state = .guarding := by rw [hctl]; exact hguarding
    have hboth : (waitersIssued s.portLost = waitersIssued s ∧ WaitersClear s.portLost) ∧
        ∀ n, n ∈ s.pool.wait → (s.portLost.entry n).pst = (s.entry n).pst := by
      obtain hwait | hstands := hclear hguarding
      · have hwait' : s.portLost.pool.wait = [] := by rw [hpool]; exact hwait
        refine ⟨⟨by rw [waitersIssued_none hwait, waitersIssued_none hwait'], .inl hwait'⟩, fun n hn => ?_⟩
        rw [hwait] at hn
        cases hn
      · have hsame : ∀ m, m ∈ waitersIssued s → s.portLost.entry m = s.entry m := fun m hm => by
          rw [hentry]
          refine if_neg fun hfreed => ?_
          obtain ⟨-, hstate | hstate⟩ := hstands.listed m hm <;>
            obtain h | h | h := freedByLink_state hfreed <;> rw [hstate] at h <;> cases h
        obtain ⟨hissued, hstands'⟩ := WaitersStand.congr hstands s.portLost_agree hpst (by rw [hpool]) hsame
        refine ⟨⟨hissued, .inr hstands'⟩, fun n hn => ?_⟩
        obtain ⟨-, -, -, -, -, -, -, hsub⟩ := waiter_of_mem hstands hn
        rw [hsame n (hsub n (List.mem_cons_self ..))]
    obtain ⟨⟨hissued, hclear'⟩, hlisted⟩ := hboth
    refine ⟨fun _ => hclear', ?_, fun y => ?_⟩
    · unfold linkDownWaiters
      rw [if_pos hguarding, if_pos hguarding', hissued]
    · unfold linkDownPage
      rw [if_pos hguarding, if_pos hguarding']
      unfold waitersPage
      rw [hpool, hpage]
      refine if_congr ?_ rfl rfl
      rw [List.any_eq_true, List.any_eq_true]
      refine exists_congr fun n => and_congr_right fun hn => ?_
      rw [hlisted n hn]
  · have hother : s.portLost.ctl.state ≠ .guarding := by rw [hctl]; exact hguarding
    refine ⟨fun h => absurd h hguarding, ?_, fun y => ?_⟩
    · unfold linkDownWaiters
      rw [if_neg hguarding, if_neg hother]
    · unfold linkDownPage
      rw [if_neg hguarding, if_neg hother, hpage]

theorem portLost_busyChannels (s : State) : s.portLost.busyChannels = s.busyChannels := by
  unfold State.busyChannels
  refine List.filter_congr fun c _ => ?_
  rw [s.portLost_spec.2.1]
  split <;> rfl

/-! ## With no copy job -/

theorem copyIdle_iff : s.copyIdle = true ↔ s.wp.queue = [] ∧ s.wp.backlog = [] ∧ s.sweep.demand = [] ∧
    s.sweep.offer = none ∧ s.busyChannels = [] := by
  unfold State.copyIdle State.busyChannels
  simp only [Bool.and_eq_true, List.isEmpty_iff, Option.isNone_iff_eq_none, List.all_eq_true,
    List.filter_eq_nil_iff, Option.isSome_iff_ne_none, ne_eq, Decidable.not_not, and_assoc]

theorem busyChannels_congr (h : t.channels = s.channels) : t.busyChannels = s.busyChannels := by
  unfold State.busyChannels
  rw [chan_congr h]

/-- State control's part of the link down, where no failure comes before it. -/
structure LostAlone (s v : State) : Prop where
  controlled : Controlled s.portLost v
  same : SameWaiters s s.portLost

theorem LostAlone.of_clear (hclear : s.ctl.state = .guarding → WaitersClear s) : LostAlone s s.portLost.linkDownControl := by
  have hsame := portLost_waiters hclear
  refine ⟨linkDownControl_spec (fun h => hsame.clear ?_) ?_, hsame⟩
  · rw [← portLost_ctl]
    exact h
  · rw [s.portLost_spec.2.2.2]
    rfl

namespace LostAlone

variable (h : LostAlone s v)
include h

theorem entry (n : Nat) : v.entry n = if freedByLink s n = true ∨ n ∈ linkDownWaiters s then .freed else s.entry n := by
  rw [h.controlled.entry, h.same.waiters, s.portLost_spec.1]
  by_cases hfreed : freedByLink s n = true <;> by_cases hn : n ∈ linkDownWaiters s <;> simp [hfreed, hn]

theorem page (y : Nat) : v.page y = linkDownPage s y := (h.controlled.page y).trans (h.same.page y)

theorem pst (hwait : s.pool.wait = []) : v.pst = s.pst := by
  have hrest := s.portLost_spec.2.2.2
  rw [h.controlled.pst (by rw [hrest]; exact hwait), hrest]

theorem slot (q : Nat) : v.slot q = linkDownSlot s q (s.slot q) := by
  rw [h.controlled.slot]
  unfold linkDownSlot
  rw [portLost_ctl, portLost_slot]

theorem channels : v.channels = s.portLost.channels := by rw [h.controlled.rest]

theorem copyTags : v.copyTags = s.portLost.copyTags := by rw [h.controlled.rest]

/-- All of the state after state control's part. -/
theorem rest : v = { s with
    entries := v.entries, pst := v.pst, slots := v.slots, channels := v.channels, copyTags := v.copyTags
    tags := .empty, mem := cutMem s.mem, pool := linkDownPool s, ctl := linkDownCtl s.ctl
    port := portAfter s.port (linkDowns ((List.range 128).filter (cutOff s)) ++ lastMessages s [])
      (howMany 128 (freedByLink s) + (lastMessages s []).length)
    sweep := { s.sweep with
      drainSet := s.sweep.drainSet.filter fun n => !freedByLink s n && !(linkDownWaiters s).contains n }
    mgmt := { s.mgmt with flags := s.mgmt.flags ||| BitVec.twoPow 21 19 ||| entryFlags s } } := by
  have hlost := s.portLost_spec.2.2.2
  have hlength : (lastMessages s []).length = (linkDownWaiters s).length := by
    unfold lastMessages linkDowns
    rw [List.append_nil, List.length_map]
  have hdrain : (s.sweep.drainSet.filter fun n => !freedByLink s n).filter (fun n => !(linkDownWaiters s).contains n) =
      s.sweep.drainSet.filter fun n => !freedByLink s n && !(linkDownWaiters s).contains n := by
    rw [List.filter_filter]
    exact List.filter_congr fun _ _ => Bool.and_comm ..
  have hport : portAfter s.portLost.port (linkDowns (linkDownWaiters s)) (linkDownWaiters s).length =
      portAfter s.port (linkDowns ((List.range 128).filter (cutOff s)) ++ lastMessages s [])
        (howMany 128 (freedByLink s) + (lastMessages s []).length) := by
    rw [hlength, show lastMessages s [] = linkDowns (linkDownWaiters s) from List.append_nil _, ← portAfter_portAfter,
      hlost]
  have hpool : linkDownPool s.portLost = linkDownPool s := by
    unfold linkDownPool
    rw [hlost]
  have hflags : entryFlags s.portLost = entryFlags s := by
    unfold entryFlags
    rw [hlost]
  have hrest := h.controlled.rest
  rw [h.same.waiters, hport, hpool, hflags, portLost_ctl] at hrest
  rw [h.channels, h.copyTags]
  conv_lhs => rw [hrest, hlost]
  rw [← hdrain]

end LostAlone

theorem takeFailures_idle (hbusy : s.busyChannels = []) (hidle : s.ArbiterIdle) (k : Nat) : s.takeFailures k = s := by
  unfold State.takeFailures
  rw [hbusy]
  dsimp only
  rw [List.take_nil]
  exact arbitrateFrom_idle hidle _

theorem controlLost_idle (h : s.copyIdle = true) (k : Nat) : s.controlLost k = s.portLost.linkDownControl := by
  obtain ⟨hqueue, -, hdemand, hoffer, hbusy⟩ := copyIdle_iff.1 h
  have hrest := s.portLost_spec.2.2.2
  have hidle : s.portLost.ArbiterIdle := by
    rw [hrest]
    exact arbiterIdle_of_empty hqueue hdemand hoffer
  rw [controlLost_eq, takeFailures_idle ((portLost_busyChannels s).trans hbusy) hidle]

/-- The end of a step without a job leaves all but the port and the management block. -/
theorem finish_frame (hidle : s.ArbiterIdle) : ∃ port mgmt, s.finish = { s with port := port, mgmt := mgmt } := by
  rw [finish_idle hidle, checkIntake_eq, sendCredits_eq]
  exact ⟨_, _, rfl⟩

/-- The memory-port link down with no copy job. -/
theorem linkLost_idle (hidle : s.copyIdle = true) (hclear : s.ctl.state = .guarding → WaitersClear s) (k : Nat) :
    let t := s.linkLost k
    (∀ n, t.entry n = if freedByLink s n = true ∨ n ∈ linkDownWaiters s then .freed else s.entry n) ∧
    (∀ y, t.page y = linkDownPage s y) ∧ (s.pool.wait = [] → t.pst = s.pst) ∧
    (∀ c, t.chan c = if c < 4 ∧ (s.chan c).state = .blocked then { s.chan c with state := .idle } else s.chan c) ∧
    (∀ x, 128 ≤ x → x < 144 → (t.copyTag x).use ≠ .quarantined) ∧
    (s.Settled → (∀ y, t.slot y = linkDownSlot s y (s.slot y)) ∧
      t = { s with
        entries := t.entries, tags := t.tags, mem := t.mem, channels := t.channels, copyTags := t.copyTags
        slots := t.slots, pst := t.pst, pool := linkDownPool s, port := linkDownPort s t []
        ctl := linkDownCtl s.ctl
        sweep := { s.sweep with
          drainSet := s.sweep.drainSet.filter fun n => !freedByLink s n && !(linkDownWaiters s).contains n }
        mgmt := quiesced s t (linkDownMgmt s s.mgmt) }) := by
  obtain ⟨hqueue, -, hdemand, hoffer, hbusy⟩ := copyIdle_iff.1 hidle
  have h := LostAlone.of_clear hclear
  generalize hv : s.portLost.linkDownControl = v at h
  have hrest := h.rest
  have harbiter : v.ArbiterIdle := by
    rw [hrest]
    exact arbiterIdle_of_empty hqueue hdemand hoffer
  have hend : s.linkLost k = v.finish := by
    unfold linkLost
    rw [controlLost_idle hidle, hv, busyChannels_congr h.channels, portLost_busyChannels, hbusy]
    rfl
  rw [hend]
  obtain ⟨port, mgmt, hframe⟩ := finish_frame harbiter
  obtain ⟨-, hchan, hcopy, -⟩ := s.portLost_spec
  refine ⟨fun n => ?_, fun y => ?_, fun hwait => ?_, fun c => ?_, fun x hlow hhigh => ?_, fun hsettled => ?_⟩
  · rw [hframe]
    exact h.entry n
  · rw [hframe]
    exact h.page y
  · rw [hframe]
    exact h.pst hwait
  · rw [← hchan, ← chan_congr h.channels, hframe]
    rfl
  · have hx : v.finish.copyTag x = s.portLost.copyTag x := by
      rw [← copyTag_congr h.copyTags, hframe]
      rfl
    rw [hx, hcopy]
    split
    · exact nofun
    next hne => exact fun hq => hne ⟨⟨hlow, hhigh⟩, hq⟩
  · obtain ⟨t, ht, hspec⟩ := finish_linkDown (s := s) (v := v) (held := []) hsettled.due harbiter (by rw [hrest])
    rw [ht]
    refine ⟨fun y => ?_, ?_⟩
    · rw [← h.slot, hspec]
      rfl
    · have hmgmt : v.mgmt = linkDownMgmt s s.mgmt := by rw [hrest]; rfl
      rw [hmgmt] at hspec
      rw [show t.entries = v.entries by rw [hspec], show t.tags = .empty by rw [hspec, hrest],
        show t.mem = cutMem s.mem by rw [hspec, hrest], show t.channels = v.channels by rw [hspec],
        show t.copyTags = v.copyTags by rw [hspec], show t.slots = v.slots by rw [hspec],
        show t.pst = v.pst by rw [hspec]]
      conv_lhs => rw [hspec, hrest]

end Sys2Proof.Machine.State
end

section
/-! A record freed in a state that has lost requests and taken damage: what freeing reads is as before (O51). -/

namespace Sys2Proof.Machine.State

variable {s t f : State} {r x q : Nat} {d : List Nat} {p : Table PstEntry}

/-! ## Waiting lists and the drain set -/

/-- State `s` with other wait lists, and another drain set. -/
def relisted (s : State) (p : Table PstEntry) (d : List Nat) : State :=
  { s with pst := p, sweep := { s.sweep with drainSet := d } }

section
variable (s : State) (p : Table PstEntry) (d : List Nat) (r : Nat)

theorem journal_relisted (q : Nat) : (s.relisted p d).journal q = s.journal q := by
  unfold State.journal
  rw [journalFrom_congr (s := s) (show (s.relisted p d).records = s.records from rfl)]
  rfl

theorem newerLink_relisted : newerLink (s.relisted p d) r = newerLink s r := by
  unfold newerLink
  simp only [journal_relisted]
  rfl

theorem olderLink_relisted : olderLink (s.relisted p d) r = olderLink s r := by
  unfold olderLink
  simp only [newerLink_relisted]
  rfl

theorem slotAfter_relisted (q : Nat) : slotAfter (s.relisted p d) r q = slotAfter s r q := by
  unfold slotAfter
  rw [newerLink_relisted, olderLink_relisted]
  rfl

end

theorem sweepPast_relisted (s : State) (p : Table PstEntry) (d : List Nat) (r : Nat) :
    ((s.relisted p d).sweepPast r).sweep = { (s.sweepPast r).sweep with drainSet := d } := by
  have hlink : ∀ met o, (s.relisted p d).walkLink met o = s.walkLink met o := fun _ _ => rfl
  have hto : (s.relisted p d).walkTo r = s.walkTo r := rfl
  have hwalk : ((s.relisted p d).walkPast r).sweep = { (s.walkPast r).sweep with drainSet := d } := by
    unfold State.walkPast
    rw [hto]
    cases s.walkTo r <;> rfl
  have hmoved : ((s.relisted p d).movedPast r).sweep = { (s.movedPast r).sweep with drainSet := d } := by
    unfold movedPast
    rw [show (s.relisted p d).sweep.cursor = s.sweep.cursor from rfl]
    split
    · exact hwalk
    · rfl
  rw [sweepPast_sweep, sweepPast_sweep, hmoved, leaveOlder_eq, leaveOlder_eq, olderLink_relisted]
  dsimp only
  split <;> rfl

theorem sweepFreed_relisted (s : State) (p : Table PstEntry) (d : List Nat) (r : Nat) :
    sweepFreed (s.relisted p d) r = { sweepFreed s r with drainSet := d } := by
  unfold sweepFreed
  rw [sweepPast_relisted]
  rfl

theorem sweepFollows_relisted (h : sweepFollows (s.relisted p d) t r) : sweepFollows s t r := by
  have hstart : nextStart (s.relisted p d) = nextStart s := by
    unfold nextStart
    simp only [journalLink_congr (s := s) (show (s.relisted p d).records = s.records from rfl)]
    rfl
  have hcursor : cursorAfter (s.relisted p d) r = cursorAfter s r := by
    unfold cursorAfter
    rw [hstart]
    rfl
  unfold sweepFollows at h ⊢
  rw [hcursor, olderLink_relisted] at h
  exact h

/-- State `f` has the records, the chains and the journals of `s`, and its sweep engine but for the drain set. -/
structure Kin (s f : State) : Prop where
  records : f.records = s.records
  chainHead : ∀ y, (f.page y).chainHead = (s.page y).chainHead
  parity : ∀ y, (f.page y).parityOk = (s.page y).parityOk
  sweep : f.sweep = { s.sweep with drainSet := f.sweep.drainSet }
  free : f.pool.free = s.pool.free
  slot : ∀ i, f.slot i = { s.slot i with damaged := (f.slot i).damaged }

namespace Kin

variable (h : Kin s f)
include h

theorem damaged : Damaged (s.relisted f.pst f.sweep.drainSet) f where
  records := h.records
  pst := rfl
  sweep := h.sweep
  slot := h.slot

theorem record : f.record = s.record := record_congr h.records

theorem slotOf (v : Record) : f.slotOf v = s.slotOf v := h.damaged.slotOf v

theorem effective (z : Seq) : f.effective z = s.effective z :=
  effective_congr_live (fun i => by rw [h.slot]) (fun i => by rw [h.slot]) z

theorem chain : f.chain x = s.chain x := by
  unfold State.chain
  rw [chainFrom_congr h.records, h.records, h.chainHead]

theorem olderBorneOut_eq : olderBorneOut f r x = olderBorneOut s r x := by
  unfold olderBorneOut
  simp only [h.record, h.chain]

theorem headAfter_eq : headAfter f r x = headAfter s r x := by
  unfold headAfter
  rw [h.chainHead, h.olderBorneOut_eq]

theorem freedRecords_of (hfreed : freedRecords f t r x) : freedRecords s t r x := by
  intro y
  rw [hfreed, h.record, h.chain, h.olderBorneOut_eq, h.damaged.olderLink_eq, h.damaged.newerLink_eq,
    olderLink_relisted, newerLink_relisted]

theorem sweepFollows_of (hfollows : sweepFollows f t r) : sweepFollows s t r :=
  sweepFollows_relisted (h.damaged.sweepFollows_of hfollows)

theorem sweepFreed_eq : sweepFreed f r = { sweepFreed s r with drainSet := f.sweep.drainSet } :=
  h.damaged.sweepFreed_eq.trans (sweepFreed_relisted ..)

theorem slotAfter_eq : slotAfter f r q = { slotAfter s r q with damaged := (f.slot q).damaged } := by
  rw [h.damaged.slotAfter_eq, slotAfter_relisted]

theorem threaded (hthreaded : Threaded s r x q) : Threaded f r x q where
  page := by rw [h.record]; exact hthreaded.page
  slot := by rw [h.record]; exact hthreaded.slot
  occupied := ⟨hthreaded.occupied.1, by rw [h.slot]; exact hthreaded.occupied.2⟩
  chain := by rw [h.chain]; exact hthreaded.chain
  journal := by rw [h.damaged.journal, journal_relisted]; exact hthreaded.journal
  allocated := by rw [h.free]; exact hthreaded.allocated
  records := by rw [h.record]; exact hthreaded.records
  entry := by rw [h.parity]; exact hthreaded.entry

end Kin

end Sys2Proof.Machine.State
end

section
/-! A copy job that fails with the memory-port link, whatever tags its channel holds (R66, R99, R139; O51). -/

namespace Sys2Proof.Machine.State

variable {s t u v w : State} {c n x q g r : Nat} {j : Job}

/-! ## The channel gives up its job -/

theorem foldl_useFree (l : List Nat) (s : State) : ∃ copyTags,
    l.foldl (fun s t => s.useTag t .free) s = { s with copyTags := copyTags } ∧
    ∀ x, copyTags.get .reset x = if x ∈ l then { s.copyTag x with use := .free } else s.copyTag x := by
  induction l generalizing s with
  | nil => exact ⟨s.copyTags, rfl, fun x => (if_neg List.not_mem_nil).symm⟩
  | cons a l ih =>
    obtain ⟨copyTags, hfold, hget⟩ := ih (s.useTag a .free)
    refine ⟨copyTags, hfold, fun x => (hget x).trans ?_⟩
    have hx : (s.useTag a .free).copyTag x = if x = a then { s.copyTag a with use := .free } else s.copyTag x :=
      Table.get_set ..
    rw [hx]
    by_cases hxa : x = a
    · subst hxa
      simp
    · simp [hxa]

/-- Channel `c` of state `s` has given up its job, its tags FREE. -/
structure GivenUp (s w : State) (c : Nat) : Prop where
  chan : ∀ d, w.chan d = if d = c then { s.chan c with state := .idle, job := none } else s.chan d
  copyTag : ∀ y, w.copyTag y = if y ∈ chanTags c then { s.copyTag y with use := .free } else s.copyTag y
  rest : w = { s with channels := w.channels, copyTags := w.copyTags }

theorem failChan_none (hjob : (s.chan c).job = none) : s.failChan c = s := by
  unfold State.failChan
  rw [hjob]

theorem failChan_some (hjob : (s.chan c).job = some j) : ∃ w, s.failChan c = w.reportJob j false ∧ GivenUp s w c := by
  obtain ⟨copyTags, hfold, hget⟩ := foldl_useFree (chanTags c) s
  refine ⟨({ s with copyTags := copyTags } : State).idleChan c, ?_, ?_⟩
  · unfold State.failChan
    rw [hjob]
    dsimp only
    rw [hfold]
  · have hfree : ({ s with copyTags := copyTags } : State).hasFreeTag c = true :=
      hasFreeTag_of (List.mem_cons_self ..) (congrArg CopyTag.use ((hget _).trans (if_pos (List.mem_cons_self ..))))
    rw [idleChan_free hfree]
    exact ⟨fun d => Table.get_set .., hget, rfl⟩

namespace GivenUp

variable (h : GivenUp s w c)
include h

theorem exists_eq : ∃ channels copyTags, w = { s with channels := channels, copyTags := copyTags } := ⟨_, _, h.rest⟩

theorem kin : Kin s w := by
  obtain ⟨channels, copyTags, rfl⟩ := h.exists_eq
  exact ⟨rfl, fun _ => rfl, fun _ => rfl, rfl, rfl, fun _ => rfl⟩

/-- With no other job, no job names a record. -/
theorem unnamed (hqueue : s.wp.queue = []) (hbacklog : s.wp.backlog = [])
    (hothers : ∀ d, d < 4 → d ≠ c → (s.chan d).job = none) (r : Nat) : w.namesJob r = false := by
  have hwp : w.wp = s.wp := by rw [h.rest]
  refine namesJob_eq_false (by rw [hwp]; exact hqueue) (by rw [hwp]; exact hbacklog) fun d y hd hy => ?_
  rw [h.chan] at hy
  split at hy
  · cases hy
  next hne =>
    rw [hothers d hd hne] at hy
    cases hy

end GivenUp

/-! ## The job's record, freed -/

/-- A job in a channel with its record's page index, slot and page number. -/
structure JobAt where
  chan : Nat
  job : Job
  page : Nat
  slot : Nat
  number : Nat

/-- The sweep engine after a failed job, but for the drain set. -/
def failedSweep (s : State) (a : JobAt) : Sweep :=
  match a.job.kind with
  | .preservation => sweepFreed s a.job.record
  | .restore => pageFaulted (sweepFreed s a.job.record) a.number

/-- Slot `a.slot` after its record has been freed with the failed job. -/
def failedSlot (s : State) (a : JobAt) : Slot :=
  { slotAfter s a.job.record a.slot with
    damaged := (s.slot a.slot).damaged || (a.job.kind == .preservation && s.wp.policy != .refuse) }

/-- The job's page after its record has been freed, the write `held` for it gone. -/
def failedPage (s : State) (a : JobAt) (held : Option Nat) : PstEntry :=
  { s.page a.page with
    chainHead := headAfter s a.job.record a.page
    waitHead := if held = none then (s.page a.page).waitHead else none
    waitTail := if held = none then (s.page a.page).waitTail else none }

/-- In state `t` the job `a` of state `s` has failed, and the write `held`, which waited for it, is completed by `m`. -/
structure JobFailed (s t : State) (a : JobAt) (held : Option Nat) (m : List UpMessage) (activity : Table Activity)
    (mgmt : Mgmt) : Prop where
  records : freedRecords s t a.job.record a.page
  follows : sweepFollows s t a.job.record
  chan : ∀ d, t.chan d = if d = a.chan then { s.chan a.chan with state := .idle, job := none } else s.chan d
  copyTag : ∀ y, t.copyTag y = if y ∈ chanTags a.chan then { s.copyTag y with use := .free } else s.copyTag y
  entry : ∀ n, t.entry n = if held = some n then .freed else s.entry n
  page : ∀ y, t.page y = if y = a.page then failedPage s a held else s.page y
  slot : ∀ y, t.slot y = if y = a.slot then failedSlot s a else s.slot y
  rest : t = { s with
    records := t.records, pst := t.pst, slots := t.slots, channels := t.channels, copyTags := t.copyTags
    entries := t.entries, pool := { s.pool with free := s.pool.free ++ [a.job.record] }
    port := portAfter s.port m m.length, activity := activity
    sweep := { failedSweep s a with drainSet := s.sweep.drainSet.filter fun n => held != some n }
    mgmt := mgmt }

/-- Job `a` is the one copy job, and its record stands in the tables. -/
structure LoneJob (s : State) (a : JobAt) : Prop where
  job : (s.chan a.chan).job = some a.job
  orphaned : a.job.orphaned = false
  number : (s.record a.job.record).pageNumber = some a.number
  threaded : Threaded s a.job.record a.page a.slot
  others : ∀ d, d < 4 → d ≠ a.chan → (s.chan d).job = none
  queue : s.wp.queue = []
  backlog : s.wp.backlog = []

/-- Job `a` fails where no write waits for its frame. -/
structure Fails (s : State) (a : JobAt) : Prop extends LoneJob s a where
  wait : s.pool.wait = []

end Sys2Proof.Machine.State
end

section
/-! The record of a job that fails with the link, freed, and its outcome noted (R66, R99; O51). -/

namespace Sys2Proof.Machine.State

variable {s u w f : State} {n : Nat} {a : JobAt} {held : Option Nat} {mgmt : Mgmt}

theorem sweepFreed_drainSet (s : State) (r : Nat) : (sweepFreed s r).drainSet = s.sweep.drainSet := by
  obtain ⟨_, _, _, _, _, h⟩ := s.sweepPast_place r
  unfold sweepFreed
  rw [h]

theorem failedSweep_drainSet (s : State) (a : JobAt) : (failedSweep s a).drainSet = s.sweep.drainSet := by
  unfold failedSweep
  cases a.job.kind <;> exact sweepFreed_drainSet ..

theorem failedPage_none (s : State) (a : JobAt) :
    failedPage s a none = { s.page a.page with chainHead := headAfter s a.job.record a.page } := by
  unfold failedPage
  rw [if_pos rfl, if_pos rfl]

/-- A failed job that no write has waited for. -/
theorem GivenUp.jobFailed (hw : GivenUp s w a.chan) (hrec : freedRecords s u a.job.record a.page)
    (hfollows : sweepFollows s u a.job.record)
    (hpage : ∀ y, u.page y = if y = a.page then
      { s.page a.page with chainHead := headAfter s a.job.record a.page } else s.page y)
    (hslot : ∀ y, u.slot y = if y = a.slot then failedSlot s a else s.slot y)
    (hrest : u = { w with
      records := u.records, pst := u.pst, slots := u.slots, pool := { s.pool with free := s.pool.free ++ [a.job.record] }
      sweep := failedSweep s a, mgmt := mgmt }) : JobFailed s u a none [] s.activity mgmt := by
  have hentries : u.entries = s.entries := by rw [hrest, hw.rest]
  refine ⟨hrec, hfollows, fun d => ?_, fun y => ?_, fun n => ?_, fun y => ?_, hslot, ?_⟩
  · rw [chan_congr (show u.channels = w.channels by rw [hrest])]
    exact hw.chan d
  · rw [copyTag_congr (show u.copyTags = w.copyTags by rw [hrest])]
    exact hw.copyTag y
  · rw [entry_congr hentries]
    exact (if_neg nofun).symm
  · rw [failedPage_none]
    exact hpage y
  · have hdrain : s.sweep.drainSet.filter (fun n => (none : Option Nat) != some n) = (failedSweep s a).drainSet := by
      rw [failedSweep_drainSet]
      exact List.filter_eq_self.2 fun _ _ => rfl
    rw [List.length_nil, portAfter_nothing, hdrain, hentries, show u.channels = w.channels by rw [hrest],
      show u.copyTags = w.copyTags by rw [hrest]]
    conv_lhs => rw [hrest]
    obtain ⟨channels, copyTags, rfl⟩ := hw.exists_eq
    rfl

section
variable (h : Fails s a) (hw : GivenUp s w a.chan)
include h hw

theorem GivenUp.fails_unnamed : w.namesJob a.job.record = false := hw.unnamed h.queue h.backlog h.others _

/-- A failed preservation's record, freed. -/
theorem preserveFailed_given (hkind : a.job.kind = .preservation) (held : Option Nat) : ∃ u,
    ((w.preserveFailed a.slot a.number held).freeRecord a.job.record).stopWaiting a.job.record = u ∧
    JobFailed s u a none [] s.activity (copyFailed s a.job a.number held) := by
  have hwslots : w.slots = s.slots := by rw [hw.rest]
  have hwwp : w.wp = s.wp := by rw [hw.rest]
  have hslotf : ∀ i, (w.preserveFailed a.slot a.number held).slot i = if i = a.slot then
      { s.slot a.slot with damaged := (s.slot a.slot).damaged || s.wp.policy != .refuse } else s.slot i := fun i => by
    rw [preserveFailed_slot, slot_congr hwslots, hwwp]
  have hunnamed := hw.fails_unnamed h
  have hjobf : (w.preserveFailed a.slot a.number held).namesJob a.job.record = false := hunnamed
  have hpool : (w.preserveFailed a.slot a.number held).pool = s.pool := by
    rw [hw.rest]
    rfl
  have hd : Damaged s (w.preserveFailed a.slot a.number held) := by
    refine ⟨?_, ?_, ?_, fun i => ?_⟩
    · rw [hw.rest]; rfl
    · rw [hw.rest]; rfl
    · rw [hw.rest]; rfl
    · rw [hslotf]
      split
      next hi => rw [hi]
      · rfl
  obtain ⟨u, hu, hrec, hfollows, hpage, hslot, hrest⟩ := freeRecord_stopped (hd.threaded h.threaded hpool) hjobf
    (by rw [hpool]; exact h.wait)
  refine ⟨u, hu, hw.jobFailed (hd.freedRecords_of hrec) (hd.sweepFollows_of hfollows) (fun y => ?_) (fun y => ?_) ?_⟩
  · rw [hpage, hd.headAfter_eq, hd.page]
  · rw [hslot, hd.slotAfter_eq, hslotf, hslotf, if_pos rfl]
    unfold failedSlot
    rw [hkind, show ((JobKind.preservation == .preservation) && s.wp.policy != .refuse) = (s.wp.policy != .refuse)
      from Bool.true_and _]
    split <;> rfl
  · have hmgmt : (w.preserveFailed a.slot a.number held).mgmt = copyFailed s a.job a.number held := by
      unfold copyFailed
      rw [hkind, hw.rest]
      rfl
    have hsweep : failedSweep s a = sweepFreed s a.job.record := by
      unfold failedSweep
      rw [hkind]
    rw [hsweep, ← hmgmt, ← hpool, ← hd.sweepFreed_eq]
    exact hrest

/-- A failed restore's target, freed, with its outcome noted. -/
theorem restoreFailed_given (hkind : a.job.kind = .restore) (held : Option Nat) : ∃ t,
    (w.freeRecord a.job.record).stopWaiting a.job.record = t ∧
    JobFailed s { t with sweep := restoredSweep t.sweep a.number false, mgmt := restoredMgmt t a.number false } a none []
      s.activity (copyFailed s a.job a.number held) := by
  have hwslots : w.slots = s.slots := by rw [hw.rest]
  have hpool : w.pool = s.pool := by rw [hw.rest]
  have hd : Damaged s w := ⟨by rw [hw.rest], by rw [hw.rest], by rw [hw.rest], fun i => by rw [slot_congr hwslots]⟩
  obtain ⟨t, ht, hrec, hfollows, hpage, hslot, hrest⟩ := freeRecord_stopped (hd.threaded h.threaded hpool)
    (hw.fails_unnamed h) (by rw [hpool]; exact h.wait)
  have hsweep : t.sweep = sweepFreed s a.job.record := by rw [← hd.sweepFreed_eq, hrest]
  have hmgmt : restoredMgmt t a.number false = copyFailed s a.job a.number held := by
    unfold restoredMgmt copyFailed
    rw [hkind, hrest, hw.rest]
    rfl
  obtain ⟨hcursor, hboundary, horder, -⟩ := restoredSweep_kept t.sweep a.number false
  refine ⟨t, ht, hw.jobFailed (hd.freedRecords_of hrec)
    (sweepFollows_congr (hd.sweepFollows_of hfollows) hcursor hboundary horder) (fun y => ?_) (fun y => ?_) ?_⟩
  · refine (hpage y).trans ?_
    rw [hd.headAfter_eq, hd.page]
  · refine (hslot y).trans ?_
    rw [hd.slotAfter_eq, slot_congr hwslots]
    unfold failedSlot
    rw [hkind, show ((JobKind.restore == .preservation) && s.wp.policy != .refuse) = false from Bool.false_and _,
      Bool.or_false]
  · have hfailed : failedSweep s a = restoredSweep t.sweep a.number false := by
      unfold failedSweep
      rw [hkind, hsweep]
      rfl
    rw [hfailed, hmgmt, hsweep]
    rw [hpool] at hrest
    conv_lhs => rw [hrest]

end

end Sys2Proof.Machine.State
end

section
/-! The write that waits for a job that fails with the link: it ends with the link, or is refused (R66, R94, R133; O51). -/

namespace Sys2Proof.Machine.State

variable {s t u v w : State} {n x : Nat} {j : Job} {a : JobAt} {held : Option Nat} {m : List UpMessage} {mgmt mgmt' : Mgmt}
  {activity : Table Activity}

theorem heldOnJob_preservation (hkind : j.kind = .preservation) : heldOnJob s j x = s.heldBehind x j.record := by
  unfold heldOnJob
  rw [hkind]

theorem heldOnJob_restore (hkind : j.kind = .restore) :
    heldOnJob s j x = if s.heldForDemand x = true then (s.page x).waitHead else none := by
  unfold heldOnJob
  rw [hkind]

/-- A write waits for a restore of the page where the head of its list is HELD for a demand. -/
theorem heldOnJob_restore_isSome (hkind : j.kind = .restore) : (heldOnJob s j x).isSome = s.heldForDemand x := by
  rw [heldOnJob_restore hkind]
  split
  next h =>
    rw [h]
    unfold State.heldForDemand at h
    cases hhead : (s.page x).waitHead with
    | none =>
      rw [hhead] at h
      cases h
    | some n => rfl
  next h => exact (Bool.not_eq_true _ ▸ h).symm

theorem heldOnJob_eq_some (h : heldOnJob s j x = some n) : (s.page x).waitHead = some n ∧ (s.entry n).state = .held := by
  cases hkind : j.kind with
  | preservation =>
    rw [heldOnJob_preservation hkind] at h
    obtain ⟨hhead, hheld, -⟩ := heldBehind_eq_some h
    exact ⟨hhead, hheld⟩
  | restore =>
    rw [heldOnJob_restore hkind] at h
    split at h
    next hdemand => exact ⟨h, heldForDemand_head hdemand h⟩
    · cases h

/-! ## The job's outcome up to the write (R66, steps 1 to 3; R99) -/

/-- Write `n`, which has waited for job `a`, is decided again. -/
def decidedAgain (a : JobAt) (n : Nat) (u : State) : State :=
  match a.job.kind with
  | .preservation => u.afterFailure a.page n (some a.slot)
  | .restore => u.decidePage a.page

theorem JobFailed.waitHead (h : JobFailed s u a none m activity mgmt) (y : Nat) :
    (u.page y).waitHead = (s.page y).waitHead := by
  rw [h.page, failedPage_none]
  split
  next hy => rw [hy]
  · rfl

theorem JobFailed.parity (h : JobFailed s u a none m activity mgmt) (y : Nat) :
    (u.page y).parityOk = (s.page y).parityOk := by
  rw [h.page, failedPage_none]
  split
  next hy => rw [hy]
  · rfl

theorem JobFailed.entries (h : JobFailed s u a none m activity mgmt) : u.entry = s.entry := by
  funext n
  rw [h.entry]
  exact if_neg nofun

theorem JobFailed.effective (h : JobFailed s u a held m activity mgmt) (z : Seq) : u.effective z = s.effective z := by
  refine effective_congr_live (fun i => ?_) (fun i => ?_) z <;> rw [h.slot] <;> split
  next hi => rw [hi]; rfl
  · rfl
  next hi => rw [hi]; rfl
  · rfl

theorem JobFailed.sound (h : JobFailed s u a held m activity mgmt) (hrecords : ∀ y, (s.record y).parityOk = true)
    (y : Nat) : (u.record y).parityOk = true := by
  rw [h.records]
  split
  · rfl
  · exact hrecords y

theorem JobFailed.restoring (h : JobFailed s u a held m activity mgmt) : u.restoring = s.restoring := by
  obtain ⟨hkind, hphase, -, -⟩ := s.sweepPast_kept a.job.record
  have hboth : (failedSweep s a).kind = s.sweep.kind ∧ (failedSweep s a).phase = s.sweep.phase := by
    unfold failedSweep sweepFreed pageFaulted
    cases a.job.kind <;> exact ⟨hkind, hphase⟩
  rw [h.rest]
  unfold State.restoring
  rw [hboth.1, hboth.2]

/-- The job's outcome, until the write that has waited for it is decided again. -/
theorem reportJob_given (h : Fails s a) (hw : GivenUp s w a.chan) : ∃ u,
    JobFailed s u a none [] s.activity (copyFailed s a.job a.number (heldOnJob s a.job a.page)) ∧
    w.reportJob a.job false = match heldOnJob s a.job a.page with
      | none => u
      | some n => decidedAgain a n u := by
  have hwrecord : w.record = s.record := record_congr (by rw [hw.rest])
  have hwpage : w.page = s.page := by
    unfold State.page
    rw [hw.rest]
  have hwentries : w.entries = s.entries := by rw [hw.rest]
  have hparity : (w.record a.job.record).parityOk = true := by rw [hwrecord]; exact h.threaded.records _
  have hindex : (w.record a.job.record).pageIndex = some a.page := by rw [hwrecord]; exact h.threaded.page
  have hnumber : (w.record a.job.record).pageNumber = some a.number := by rw [hwrecord]; exact h.number
  have hsound : (w.page a.page).parityOk = true := by rw [hwpage]; exact h.threaded.entry
  cases hkind : a.job.kind with
  | preservation =>
    have hbehind : w.heldBehind a.page a.job.record = heldOnJob s a.job a.page := by
      rw [heldOnJob_preservation hkind]
      exact heldBehind_congr hwentries (by rw [hwpage]) _
    have hslot : w.slotOf (w.record a.job.record) = some a.slot := by
      rw [hwrecord, hw.kin.slotOf]
      exact slotOf_threaded h.threaded
    obtain ⟨u, hu, hfailed⟩ := preserveFailed_given h hw hkind (heldOnJob s a.job a.page)
    refine ⟨u, hfailed, ?_⟩
    rw [Proofs.reportJob_failed h.orphaned hkind hparity, preservationFailure_eq hindex hnumber hslot hsound, hbehind]
    cases hheld : heldOnJob s a.job a.page with
    | none =>
      rw [hheld] at hu
      exact hu
    | some n =>
      rw [hheld] at hu
      dsimp only
      unfold decidedAgain
      rw [hkind, hu]
  | restore =>
    obtain ⟨t, ht, hfailed⟩ := restoreFailed_given h hw hkind (heldOnJob s a.job a.page)
    refine ⟨_, hfailed, ?_⟩
    rw [reportJob_restore h.orphaned hkind hparity hindex hnumber false ht]
    generalize ({ t with
      sweep := restoredSweep t.sweep a.number false, mgmt := restoredMgmt t a.number false } : State) = u at hfailed
    have husound : (u.page a.page).parityOk = true := (hfailed.parity _).trans h.threaded.entry
    have hdemand : u.heldForDemand a.page = (heldOnJob s a.job a.page).isSome := by
      rw [heldOnJob_restore_isSome hkind]
      unfold State.heldForDemand
      rw [hfailed.waitHead, hfailed.entries]
    cases hheld : heldOnJob s a.job a.page with
    | none =>
      rw [hheld] at hdemand
      exact redecideDemand_none husound hdemand
    | some n =>
      rw [hheld] at hdemand
      dsimp only
      unfold decidedAgain
      rw [hkind, redecideDemand_some husound hdemand]

end Sys2Proof.Machine.State
end

section
/-! The write that waits for a job that fails with the link: it ends with the link, or is refused (R66, R94, R133; O51). -/

namespace Sys2Proof.Machine.State

variable {s t u v w : State} {n x : Nat} {j : Job} {a : JobAt} {held : Option Nat} {m : List UpMessage} {mgmt mgmt' : Mgmt}
  {activity : Table Activity} {msg : UpMessage}

/-- Write `n`, alone in page `x`'s list, has left it and ended by message `msg`. -/
structure HeldEnds (u t : State) (x n : Nat) (msg : UpMessage) : Prop where
  ended : Ended { u with pst := t.pst, activity := t.activity, mgmt := t.mgmt } t [n] [msg]
  page : ∀ y, t.page y = if y = x then { u.page x with waitHead := none, waitTail := none } else u.page y

theorem failedPage_some (s : State) (a : JobAt) (n : Nat) :
    failedPage s a (some n) = { failedPage s a none with waitHead := none, waitTail := none } := by
  simp [failedPage]

theorem JobFailed.thenHeld (h : JobFailed s u a none [] activity mgmt) (ht : HeldEnds u t a.page n msg) :
    JobFailed s t a (some n) [msg] t.activity t.mgmt := by
  have hrest := ht.ended.rest
  have hrecords : t.records = u.records := by rw [hrest]
  have hsweep : t.sweep = { u.sweep with drainSet := u.sweep.drainSet.filter fun n' => !([n] : List Nat).contains n' } := by
    rw [hrest]
  have hentry : ∀ n', t.entry n' = if some n = some n' then .freed else s.entry n' := fun n' => by
    rw [ht.ended.entry]
    refine if_congr ?_ rfl (congrFun h.entries n')
    rw [List.mem_singleton, Option.some.injEq, eq_comm]
  refine ⟨fun y => ?_, ?_, fun d => ?_, fun y => ?_, hentry, fun y => ?_, fun y => ?_, ?_⟩
  · rw [record_congr hrecords]
    exact h.records y
  · exact sweepFollows_congr h.follows (by rw [hsweep]) (by rw [hsweep]) (by rw [hsweep])
  · rw [chan_congr (show t.channels = u.channels by rw [hrest])]
    exact h.chan d
  · rw [copyTag_congr (show t.copyTags = u.copyTags by rw [hrest])]
    exact h.copyTag y
  · rw [ht.page, h.page, h.page, if_pos rfl]
    split
    · exact (failedPage_some ..).symm
    · rfl
  · rw [slot_congr (show t.slots = u.slots by rw [hrest])]
    exact h.slot y
  · have hdrain : (s.sweep.drainSet.filter fun n' => (none : Option Nat) != some n').filter
        (fun n' => !([n] : List Nat).contains n') = s.sweep.drainSet.filter fun n' => some n != some n' := by
      rw [List.filter_filter]
      refine List.filter_congr fun y _ => ?_
      rw [show ((none : Option Nat) != some y) = true from rfl, Bool.and_true, Bool.eq_iff_iff, Bool.not_eq_true',
        ← Bool.not_eq_true, List.contains_iff_mem, List.mem_singleton, bne_iff_ne, ne_eq, Option.some.injEq, eq_comm]
    rw [hrecords, show t.slots = u.slots by rw [hrest], show t.channels = u.channels by rw [hrest],
      show t.copyTags = u.copyTags by rw [hrest], ← hdrain]
    conv_lhs => rw [hrest, h.rest, List.length_nil, portAfter_nothing]
    rfl

/-! ## The write ends with the link -/

theorem Gone.heldEnds (h : Gone u t [n]) (hpage : ∀ y, t.page y = if y = x then
    { u.page x with waitHead := none, waitTail := none } else u.page y) :
    HeldEnds u t x n (.completion n .dataErr .linkDown []) ∧ t.activity = u.activity ∧ t.mgmt = u.mgmt := by
  have hactivity : t.activity = u.activity := by rw [h.rest]
  have hmgmt : t.mgmt = u.mgmt := by rw [h.rest]
  refine ⟨⟨?_, hpage⟩, hactivity, hmgmt⟩
  rw [hactivity, hmgmt]
  exact h

section
variable (hdown : u.mem.up = false) (hparity : (u.page x).parityOk = true) (hnext : (u.entry n).next = none)
include hdown hparity hnext

/-- A list's only entry issued with the link down, and the page decided again. -/
theorem issueHead_heldEnds : HeldEnds u ((u.issueHead x n (u.entry n).address).decidePage x) x n
      (.completion n .dataErr .linkDown []) ∧
    ((u.issueHead x n (u.entry n).address).decidePage x).activity = u.activity ∧
    ((u.issueHead x n (u.entry n).address).decidePage x).mgmt = u.mgmt := by
  obtain ⟨hgone, hpage⟩ := issueHead_gone (p := x) (n := n) hdown
  rw [hnext, if_pos rfl] at hpage
  generalize u.issueHead x n (u.entry n).address = w at hgone hpage
  have hself := (hpage x).trans (if_pos rfl)
  have hdecide : w.decidePage x = w := decidePageWith_none (k := 128) (by rw [hself]) (by rw [hself])
  rw [hdecide]
  refine hgone.heldEnds fun y => (hpage y).trans ?_
  rw [← hparity]

/-- A head that passes, alone in its list, ends with the link. -/
theorem decidePage_heldEnds (hhead : (u.page x).waitHead = some n) (hheld : (u.entry n).state = .held)
    (hsource : noSource u x) (hrecords : ∀ y, (u.record y).parityOk = true) (hpasses : u.Passes n) :
    HeldEnds u (u.decidePage x) x n (.completion n .dataErr .linkDown []) ∧ (u.decidePage x).activity = u.activity ∧
    (u.decidePage x).mgmt = u.mgmt := by
  obtain ⟨hgone, hpage⟩ := issueHead_gone (p := x) (n := n) hdown
  rw [hnext, if_pos rfl] at hpage
  have hdecide : u.decidePage x = decidePageWith flushWaiters x 128 (u.issueHead x n (u.entry n).address) :=
    decidePageWith_passes hparity hhead (Proofs.isListed_iff.2 (.inr (.inl hheld))) hsource (fun _ y _ => hrecords y) hpasses
  rw [hdecide]
  generalize u.issueHead x n (u.entry n).address = w at hgone hpage
  have hself := (hpage x).trans (if_pos rfl)
  rw [decidePageWith_none (k := 127) (by rw [hself]) (by rw [hself])]
  refine hgone.heldEnds fun y => (hpage y).trans ?_
  rw [← hparity]

end

/-! ## The write is refused -/

/-- Under REFUSE the write is refused, whether the request port is up or down. -/
theorem afterFailure_heldEnds {q : Nat} (hparity : (u.page x).parityOk = true) (hbusy : (u.entry n).state ≠ .free)
    (hnext : (u.entry n).next = none) (hctl : u.ctl.state ≠ .degraded)
    (heffective : u.effective (u.entry n).stamp = some q) (hpolicy : u.wp.policy = .refuse)
    (hfilled : u.mgmt.firstError.kind ≠ .none) :
    HeldEnds u (u.afterFailure x n (some q)) x n (.completion n .refused .preserveFailed []) ∧
    (u.afterFailure x n (some q)).activity =
      counted u (u.entry n).window (fun c => { c with refusals := satInc c.refusals }) ∧
    (u.afterFailure x n (some q)).mgmt =
      { u.mgmt with firstError := { u.mgmt.firstError with more := true } } := by
  have hself : ∀ y, (u.refusing x n).page y = if y = x then
      { u.page x with waitHead := none, waitTail := none, parityOk := true } else u.page y := fun y => Table.get_set ..
  have hentry : (u.refusing x n).entry n = { u.entry n with next := none } := Table.get_set_same ..
  have hpop : (u.captureEntry .refusal n).popHead x n = u.refusing x n := by
    unfold State.captureEntry
    rw [capture_filled hfilled, popHead_single (by exact rfl) (by exact hnext)]
    rfl
  have hrefuse : (u.refusing x n).refuse n .preserveFailed = State.complete n .refused .preserveFailed []
      { u.refusing x n with
        activity := counted u (u.entry n).window fun c => { c with refusals := satInc c.refusals } } := by
    unfold State.refuse State.countRefusal
    rw [countRunning_eq, hentry]
    rfl
  have hended := complete_ended (s := { u.refusing x n with
    activity := counted u (u.entry n).window fun c => { c with refusals := satInc c.refusals } }) (n := n)
    (fun h => hbusy ((congrArg Entry.state hentry).symm.trans h)) .refused .preserveFailed []
  rw [← hrefuse] at hended
  have hafter : u.afterFailure x n (some q) = ((u.refusing x n).refuse n .preserveFailed).decidePage x := by
    unfold State.afterFailure
    rw [if_pos ⟨hctl, rfl, heffective⟩, hpolicy]
    dsimp only
    rw [hpop]
  rw [hafter]
  generalize (u.refusing x n).refuse n .preserveFailed = t at hended
  have hrest := hended.rest
  have hpage : ∀ y, t.page y = (u.refusing x n).page y := fun y => by
    unfold State.page
    rw [hrest]
  have hdecide : t.decidePage x = t :=
    decidePageWith_none (k := 128) (by rw [hpage, hself, if_pos rfl]) (by rw [hpage, hself, if_pos rfl])
  rw [hdecide]
  refine ⟨⟨⟨fun n' => ?_, ?_⟩, fun y => ?_⟩, by rw [hrest], by rw [hrest]; rfl⟩
  · rw [hended.entry]
    split
    · rfl
    next hne => exact Table.get_set_other _ _ _ fun h => hne (List.mem_singleton.2 h)
  · rw [show t.pst = (u.refusing x n).pst by rw [hrest], show t.activity = _ by rw [hrest],
      show t.mgmt = (u.refusing x n).mgmt by rw [hrest]]
    conv_lhs => rw [hrest]
    rfl
  · rw [hpage, hself, ← hparity]

end Sys2Proof.Machine.State
end

section
/-! A channel's failure by link down, with the write that has waited for its job (R66, R99, R139; O51). -/

namespace Sys2Proof.Machine.State

variable {s t u : State} {n : Nat} {a : JobAt} {activity : Table Activity} {mgmt : Mgmt}

/-- Write `n`, alone in its list, waits for job `a`; in a restore phase its page holds the job's record alone. -/
structure Waits (s : State) (a : JobAt) (n : Nat) : Prop where
  held : heldOnJob s a.job a.page = some n
  next : (s.entry n).next = none
  write : (s.entry n).kind = .write
  alone : s.restoring = true → s.chain a.page = [a.job.record]

/-- The write that waits passes: in DEGRADED, without an effective mark, and under BREAK and WAIT at the failed
record's mark. -/
def PassesJob (s : State) (a : JobAt) (n : Nat) : Prop :=
  s.ctl.state = .degraded ∨ s.effective (s.entry n).stamp = none ∨
    (s.ctl.state ≠ .degraded ∧ a.job.kind = .preservation ∧ s.effective (s.entry n).stamp = some a.slot ∧
      s.wp.policy ≠ .refuse)

/-- The write that waits is refused: under REFUSE at the failed record's mark. -/
structure RefusedByJob (s : State) (a : JobAt) (n : Nat) : Prop where
  state : s.ctl.state ≠ .degraded
  kind : a.job.kind = .preservation
  effective : s.effective (s.entry n).stamp = some a.slot
  policy : s.wp.policy = .refuse

theorem failChan_quiet (h : Fails s a) (hheld : heldOnJob s a.job a.page = none) : ∃ t, s.failChan a.chan = t ∧
    JobFailed s t a none [] s.activity (copyFailed s a.job a.number none) := by
  obtain ⟨w, hfail, hw⟩ := failChan_some h.job
  obtain ⟨u, hu, hreport⟩ := reportJob_given h hw
  rw [hheld] at hu hreport
  exact ⟨u, hfail.trans hreport, hu⟩

/-- With a write that waits, the channel's failure decides it again. -/
theorem failChan_held (h : Fails s a) (hn : Waits s a n) : ∃ u, s.failChan a.chan = decidedAgain a n u ∧
    JobFailed s u a none [] s.activity (copyFailed s a.job a.number (some n)) := by
  obtain ⟨w, hfail, hw⟩ := failChan_some h.job
  obtain ⟨u, hu, hreport⟩ := reportJob_given h hw
  rw [hn.held] at hu hreport
  exact ⟨u, hfail.trans hreport, hu⟩

theorem noSource_freed (h : JobFailed s u a none [] activity mgmt) (hn : Waits s a n) : noSource u a.page := by
  intro hrestoring
  rw [h.restoring] at hrestoring
  refine noSource_of_noHead ?_ (by rw [h.restoring]; exact hrestoring)
  rw [h.page, if_pos rfl]
  exact headAfter_of_alone (hn.alone hrestoring)

theorem JobFailed.passesJob (hu : JobFailed s u a none [] activity mgmt) (h : PassesJob s a n) : PassesJob u a n := by
  unfold PassesJob
  rw [congrFun hu.entries n, hu.effective, show u.ctl = s.ctl by rw [hu.rest], show u.wp = s.wp by rw [hu.rest]]
  exact h

/-- A write that passes ends with the link as it is decided again. -/
theorem decidedAgain_heldEnds (hdown : u.mem.up = false) (hparity : (u.page a.page).parityOk = true)
    (hnext : (u.entry n).next = none) (hhead : (u.page a.page).waitHead = some n) (hheld : (u.entry n).state = .held)
    (hsource : noSource u a.page) (hrecords : ∀ y, (u.record y).parityOk = true) (hpasses : PassesJob u a n) :
    HeldEnds u (decidedAgain a n u) a.page n (.completion n .dataErr .linkDown []) ∧
      (decidedAgain a n u).activity = u.activity ∧ (decidedAgain a n u).mgmt = u.mgmt := by
  by_cases hbroken : u.ctl.state ≠ .degraded ∧ a.job.kind = .preservation ∧ u.effective (u.entry n).stamp = some a.slot
  · obtain ⟨hstate, hkind, heffective⟩ := hbroken
    have hissue := issueHead_heldEnds hdown hparity hnext
    have hpolicy : u.wp.policy ≠ .refuse := by
      obtain hdegraded | hnone | ⟨-, -, -, hpolicy⟩ := hpasses
      · exact absurd hdegraded hstate
      · rw [hnone] at heffective
        cases heffective
      · exact hpolicy
    unfold decidedAgain
    rw [hkind]
    dsimp only
    unfold State.afterFailure
    rw [if_pos ⟨hstate, rfl, heffective⟩]
    cases hp : u.wp.policy with
    | refuse => exact absurd hp hpolicy
    | _ => exact hissue
  · have hpassed : u.Passes n := .inr <| hpasses.imp id fun hrest => hrest.resolve_right
      fun ⟨hstate, hkind, heffective, _⟩ => hbroken ⟨hstate, hkind, heffective⟩
    have hsame : decidedAgain a n u = u.decidePage a.page := by
      unfold decidedAgain
      cases hkind : a.job.kind with
      | restore => rfl
      | preservation =>
        dsimp only
        unfold State.afterFailure
        exact if_neg fun ⟨hstate, _, heffective⟩ => hbroken ⟨hstate, hkind, heffective⟩
    rw [hsame]
    exact decidePage_heldEnds hdown hparity hnext hhead hheld hsource hrecords hpassed

/-- A write that passes ends with the link. -/
theorem failChan_passes (h : Fails s a) (hn : Waits s a n) (hdown : s.mem.up = false) (hpasses : PassesJob s a n) :
    ∃ t, s.failChan a.chan = t ∧ JobFailed s t a (some n) [.completion n .dataErr .linkDown []] s.activity
      (copyFailed s a.job a.number (some n)) := by
  obtain ⟨u, hfail, hu⟩ := failChan_held h hn
  obtain ⟨hhead, hheld⟩ := heldOnJob_eq_some hn.held
  have hentry : u.entry n = s.entry n := congrFun hu.entries n
  obtain ⟨hends, hactivity, hmgmt⟩ := decidedAgain_heldEnds (a := a) (by rw [hu.rest]; exact hdown)
    ((hu.parity _).trans h.threaded.entry) (by rw [hentry]; exact hn.next) ((hu.waitHead _).trans hhead)
    (by rw [hentry]; exact hheld) (noSource_freed hu hn) (hu.sound h.threaded.records) (hu.passesJob hpasses)
  have hfailed := hu.thenHeld hends
  rw [hactivity, hmgmt, show u.activity = s.activity by rw [hu.rest], show u.mgmt = _ by rw [hu.rest]] at hfailed
  exact ⟨_, hfail, hfailed⟩

/-- A write at the failed record's mark is refused under REFUSE. -/
theorem failChan_refused (h : Fails s a) (hn : Waits s a n) (hrefused : RefusedByJob s a n) :
    ∃ t, s.failChan a.chan = t ∧ JobFailed s t a (some n) [.completion n .refused .preserveFailed []]
      (counted s (s.entry n).window fun c => { c with refusals := satInc c.refusals })
      { copyFailed s a.job a.number (some n) with
        firstError := { (copyFailed s a.job a.number (some n)).firstError with more := true } } := by
  obtain ⟨u, hfail, hu⟩ := failChan_held h hn
  obtain ⟨-, hheld⟩ := heldOnJob_eq_some hn.held
  have hentry : u.entry n = s.entry n := congrFun hu.entries n
  have hmgmtu : u.mgmt = copyFailed s a.job a.number (some n) := by rw [hu.rest]
  have hfilled : u.mgmt.firstError.kind ≠ .none := by
    rw [hmgmtu]
    unfold copyFailed
    rw [hrefused.kind]
    exact reported_filled (kind := .copy) s.mgmt 9 (by decide) _ _ _
  have hends := afterFailure_heldEnds (u := u) (x := a.page) (n := n) (q := a.slot) ((hu.parity _).trans h.threaded.entry)
    (by rw [hentry, hheld]; exact nofun) (by rw [hentry]; exact hn.next)
    (by rw [hu.rest]; exact hrefused.state) (by rw [hentry, hu.effective]; exact hrefused.effective)
    (by rw [hu.rest]; exact hrefused.policy) hfilled
  obtain ⟨hends, hactivity, hmgmt⟩ := hends
  have hfailed := hu.thenHeld hends
  have hcounted : counted u (u.entry n).window (fun c => { c with refusals := satInc c.refusals }) =
      counted s (s.entry n).window fun c => { c with refusals := satInc c.refusals } := by
    rw [hentry, hu.rest]
    rfl
  rw [hactivity, hmgmt, hcounted, hmgmtu] at hfailed
  refine ⟨_, ?_, hfailed⟩
  rw [hfail]
  unfold decidedAgain
  rw [hrefused.kind]

end Sys2Proof.Machine.State
end

section
/-! One copy job, in a channel, as the memory-port link goes down: the job as the stages before its failure leave it (O51). -/

namespace Sys2Proof.Machine.State

variable {s t u v : State} {n x y : Nat} {a : JobAt} {j : Job}

/-- State `v` has lost requests with the link, of which none was HELD. -/
structure Lost (s v : State) : Prop where
  kin : Kin s v
  entry : ∀ n, v.entry n = s.entry n ∨ ((s.entry n).state ≠ .held ∧ v.entry n = .freed)
  page : ∀ y, v.page y = s.page y ∨
    ((v.page y).waitHead = none ∧ ∀ n, (s.page y).waitHead = some n → (s.entry n).state ≠ .held)
  job : ∀ c, (v.chan c).job = (s.chan c).job
  wp : v.wp = s.wp
  windows : v.windows = s.windows
  wait : v.pool.wait = []
  down : v.mem.up = false

namespace Lost

variable (h : Lost s v)
include h

/-- The head of a list that is HELD stands, and no other is. -/
theorem head_held (y : Nat) :
    (v.page y).waitHead = (s.page y).waitHead ∧
      (∀ n, (s.page y).waitHead = some n → v.entry n = s.entry n) ∨
    (∀ n, (v.page y).waitHead = some n → (v.entry n).state ≠ .held) ∧
      ∀ n, (s.page y).waitHead = some n → (s.entry n).state ≠ .held := by
  obtain hsame | ⟨hnone, hheld⟩ := h.page y
  · by_cases hkept : ∀ n, (s.page y).waitHead = some n → v.entry n = s.entry n
    · exact .inl ⟨by rw [hsame], hkept⟩
    · push Not at hkept
      obtain ⟨m, hhead, hne⟩ := hkept
      obtain ⟨hm, hfreed⟩ := (h.entry m).resolve_left hne
      refine .inr ⟨fun n hn => ?_, fun n hn => ?_⟩
      · rw [hsame, hhead] at hn
        rw [← Option.some.inj hn, hfreed]
        exact nofun
      · rw [hhead] at hn
        rw [← Option.some.inj hn]
        exact hm
  · exact .inr ⟨fun n hn => (nomatch hnone.symm.trans hn), hheld⟩

theorem heldBehind (x r : Nat) : v.heldBehind x r = s.heldBehind x r := by
  obtain ⟨hhead, hentry⟩ | ⟨hv, hs⟩ := h.head_held x
  · unfold State.heldBehind
    rw [hhead]
    cases hn : (s.page x).waitHead with
    | none => rfl
    | some n =>
      dsimp only
      rw [hentry n hn]
  · have hnone : ∀ u : State, (∀ n, (u.page x).waitHead = some n → (u.entry n).state ≠ .held) →
        u.heldBehind x r = none := fun u hu => by
      refine Option.eq_none_iff_forall_ne_some.2 fun n hn => ?_
      obtain ⟨hhead, hheld, -⟩ := heldBehind_eq_some hn
      exact hu n hhead hheld
    rw [hnone v hv, hnone s hs]

theorem heldForDemand (x : Nat) : v.heldForDemand x = s.heldForDemand x := by
  obtain ⟨hhead, hentry⟩ | ⟨hv, hs⟩ := h.head_held x
  · unfold State.heldForDemand
    rw [hhead]
    cases hn : (s.page x).waitHead with
    | none => rfl
    | some n =>
      dsimp only
      rw [hentry n hn]
  · have hnone : ∀ u : State, (∀ n, (u.page x).waitHead = some n → (u.entry n).state ≠ .held) →
        u.heldForDemand x = false := fun u hu => by
      rw [← Bool.not_eq_true]
      intro hdemand
      cases hhead : (u.page x).waitHead with
      | none =>
        unfold State.heldForDemand at hdemand
        rw [hhead] at hdemand
        cases hdemand
      | some n => exact hu n hhead (heldForDemand_head hdemand hhead)
    rw [hnone v hv, hnone s hs]

theorem heldOnJob (j : Job) (x : Nat) : heldOnJob v j x = heldOnJob s j x := by
  cases hkind : j.kind with
  | preservation => rw [heldOnJob_preservation hkind, heldOnJob_preservation hkind, h.heldBehind]
  | restore =>
    rw [heldOnJob_restore hkind, heldOnJob_restore hkind, h.heldForDemand]
    split
    next hdemand =>
      obtain ⟨hhead, -⟩ | ⟨-, hs⟩ := h.head_held x
      · exact hhead
      · cases hhead : (s.page x).waitHead with
        | none =>
          unfold State.heldForDemand at hdemand
          rw [hhead] at hdemand
          cases hdemand
        | some n => exact absurd (heldForDemand_head hdemand hhead) (hs n hhead)
    · rfl

theorem held_entry (hheld : (s.entry n).state = .held) : v.entry n = s.entry n :=
  (h.entry n).resolve_right fun hfreed => hfreed.1 hheld

theorem fails (ha : LoneJob s a) : Fails v a where
  job := (h.job _).trans ha.job
  orphaned := ha.orphaned
  number := by rw [h.kin.record]; exact ha.number
  threaded := h.kin.threaded ha.threaded
  others d hd hne := (h.job d).trans (ha.others d hd hne)
  queue := by rw [h.wp]; exact ha.queue
  backlog := by rw [h.wp]; exact ha.backlog
  wait := h.wait

theorem restoring : v.restoring = s.restoring := by
  unfold State.restoring
  rw [h.kin.sweep]

theorem waits (hn : Waits s a n) : Waits v a n := by
  obtain ⟨-, hheld⟩ := heldOnJob_eq_some hn.held
  have hentry := h.held_entry hheld
  refine ⟨(h.heldOnJob ..).trans hn.held, by rw [hentry]; exact hn.next, by rw [hentry]; exact hn.write, fun hr => ?_⟩
  rw [h.restoring] at hr
  rw [h.kin.chain]
  exact hn.alone hr

theorem windowOf (g : Nat) : v.windowOf g = s.windowOf g := by
  unfold State.windowOf State.window
  rw [h.windows]

end Lost

end Sys2Proof.Machine.State
end

section
/-! The stages before a job's failure: the memory port's part, and state control's behind it (O51). -/

namespace Sys2Proof.Machine.State

variable {s v : State} {k n y : Nat}

/-- No write waits for a frame, or the entry to DEGRADED comes first and those that do stand. -/
def WaitersEnd (s : State) (k : Nat) : Prop :=
  s.pool.wait = [] ∨ (s.ctl.state = .guarding ∧ k = 0 ∧ WaitersStand s)

theorem WaitersEnd.clear (h : WaitersEnd s k) : WaitersClear s := h.imp id fun ⟨_, _, hstands⟩ => hstands

theorem WaitersEnd.wait (h : WaitersEnd s k) (hk : 0 < k) : s.pool.wait = [] :=
  h.resolve_right fun ⟨_, hzero, _⟩ => hk.ne' hzero

theorem linkDownWaiters_none (h : s.pool.wait = []) : linkDownWaiters s = [] := by
  unfold linkDownWaiters
  rw [waitersIssued_none h, ite_self]

theorem linkDownPage_none (h : s.pool.wait = []) (y : Nat) : linkDownPage s y = s.page y := by
  unfold linkDownPage
  rw [waitersPage_none h, ite_self]

theorem linkDownPool_none (h : s.pool.wait = []) : linkDownPool s = s.pool := by
  unfold linkDownPool
  rw [← h]
  exact ite_self _

theorem linkDownPage_kept (s : State) (y : Nat) : (linkDownPage s y).chainHead = (s.page y).chainHead ∧
    (linkDownPage s y).parityOk = (s.page y).parityOk := by
  unfold linkDownPage waitersPage
  split_ifs <;> exact ⟨rfl, rfl⟩

theorem linkDownPool_free (s : State) : (linkDownPool s).free = s.pool.free := by
  unfold linkDownPool
  split <;> rfl

theorem WaitersEnd.pool (h : WaitersEnd s k) : (linkDownPool s).wait = [] := by
  obtain hwait | ⟨hguarding, -⟩ := h
  · rw [linkDownPool_none hwait]
    exact hwait
  · rw [show linkDownPool s = { s.pool with wait := [] } from if_pos hguarding]

theorem freedByLink_not_held (h : freedByLink s n = true) : (s.entry n).state ≠ .held := by
  obtain hstate | hstate | hstate := freedByLink_state h <;> rw [hstate] <;> exact nofun

theorem linkDownWaiters_not_held (hclear : WaitersClear s) (h : n ∈ linkDownWaiters s) : (s.entry n).state ≠ .held := by
  have hissued : n ∈ waitersIssued s := by
    unfold linkDownWaiters at h
    split at h
    · exact h
    · cases h
  obtain hwait | hstands := hclear
  · rw [waitersIssued_none hwait] at hissued
    cases hissued
  · obtain ⟨-, hstate | hstate⟩ := hstands.listed n hissued <;> rw [hstate] <;> exact nofun

/-- A list that the link down empties has no HELD head. -/
theorem linkDownPage_cases (hclear : WaitersClear s) (y : Nat) : linkDownPage s y = s.page y ∨
    ((linkDownPage s y).waitHead = none ∧ ∀ n, (s.page y).waitHead = some n → (s.entry n).state ≠ .held) := by
  unfold linkDownPage
  split
  · obtain hwait | hstands := hclear
    · exact .inl (waitersPage_none hwait y)
    · unfold waitersPage
      split
      next hany =>
        obtain ⟨n, hn, hpst⟩ := List.any_eq_true.1 hany
        obtain ⟨hstate, x, hx, hhead, -⟩ := hstands.heads n hn
        obtain rfl : x = y := Option.some.inj (hx.symm.trans (beq_iff_eq.1 hpst))
        refine .inr ⟨rfl, fun m hm => ?_⟩
        obtain rfl := Option.some.inj (hhead.symm.trans hm)
        rw [hstate]
        exact nofun
      · exact .inl rfl
  · exact .inl rfl

theorem portLost_lost (hwait : s.pool.wait = []) : Lost s s.portLost := by
  obtain ⟨hentry, hchan, -, hrest⟩ := s.portLost_spec
  have hpage : s.portLost.page = s.page := by
    unfold State.page
    rw [hrest]
  refine ⟨⟨by rw [hrest], fun y => by rw [hpage], fun y => by rw [hpage], by rw [hrest], by rw [hrest], fun i => ?_⟩,
    fun n => ?_, fun y => .inl (by rw [hpage]), fun c => ?_, by rw [hrest], by rw [hrest], by rw [hrest]; exact hwait,
    by rw [hrest]; rfl⟩
  · rw [portLost_slot]
  · rw [hentry]
    split
    next hfreed => exact .inr ⟨freedByLink_not_held hfreed, rfl⟩
    · exact .inl rfl
  · rw [hchan]
    split <;> rfl

theorem LostAlone.lost (h : LostAlone s v) (hwaiters : WaitersEnd s k) : Lost s v := by
  have hrest := h.rest
  have hpool : v.pool = linkDownPool s := by rw [hrest]
  obtain ⟨-, hchan, -, -⟩ := s.portLost_spec
  refine ⟨⟨by rw [hrest], fun y => ?_, fun y => ?_, by rw [hrest], ?_, fun i => ?_⟩, fun n => ?_, fun y => ?_, fun c => ?_,
    by rw [hrest], by rw [hrest], ?_, by rw [hrest]; rfl⟩
  · rw [h.page, (linkDownPage_kept s y).1]
  · rw [h.page, (linkDownPage_kept s y).2]
  · rw [hpool, linkDownPool_free]
  · rw [h.slot]
    unfold linkDownSlot
    split <;> rfl
  · rw [h.entry]
    split
    next hended =>
      exact .inr ⟨hended.elim freedByLink_not_held (linkDownWaiters_not_held hwaiters.clear), rfl⟩
    · exact .inl rfl
  · rw [h.page]
    exact linkDownPage_cases hwaiters.clear y
  · rw [chan_congr h.channels, hchan]
    split <;> rfl
  · rw [hpool]
    exact hwaiters.pool

end Sys2Proof.Machine.State
end

section
/-! One copy job, in a channel, as the memory-port link goes down: the state before the end of the step (O51). -/

namespace Sys2Proof.Machine.State

variable {s t u v z : State} {k n y : Nat} {a : JobAt} {held : Option Nat} {m : List UpMessage} {activity : Table Activity}
  {mgmt mgmt' : Mgmt}

/-- Page `a.page` after the link down, its record freed and the write `held` gone. -/
def lostPage (s : State) (a : JobAt) (held : Option Nat) : PstEntry :=
  { linkDownPage s a.page with
    chainHead := headAfter s a.job.record a.page
    waitHead := if held = none then (linkDownPage s a.page).waitHead else none
    waitTail := if held = none then (linkDownPage s a.page).waitTail else none }

/-- State `z` is `s` after the link down in which the one copy job, `a`, has failed, before the end of the step. -/
structure LostJob (s z : State) (a : JobAt) (held : Option Nat) (m : List UpMessage) (activity : Table Activity)
    (mgmt : Mgmt) : Prop where
  records : freedRecords s z a.job.record a.page
  follows : sweepFollows s z a.job.record
  channels : channelsDown s z
  entry : ∀ n, z.entry n =
    if freedByLink s n = true ∨ n ∈ linkDownWaiters s ∨ held = some n then .freed else s.entry n
  page : ∀ y, z.page y = if y = a.page then lostPage s a held else linkDownPage s y
  slot : ∀ y, z.slot y = linkDownSlot s y (if y = a.slot then failedSlot s a else s.slot y)
  rest : z = { s with
    records := z.records, pst := z.pst, slots := z.slots, channels := z.channels, copyTags := z.copyTags
    entries := z.entries, tags := .empty, mem := cutMem s.mem
    pool := { linkDownPool s with free := s.pool.free ++ [a.job.record] }
    port := portAfter s.port (linkDowns ((List.range 128).filter (cutOff s)) ++ lastMessages s m)
      (howMany 128 (freedByLink s) + (lastMessages s m).length)
    ctl := linkDownCtl s.ctl, activity := activity
    sweep := { failedSweep s a with
      drainSet := s.sweep.drainSet.filter fun n => !freedByLink s n && !(linkDownWaiters s).contains n && held != some n }
    mgmt := linkDownMgmt s mgmt }

/-! ## The parts -/

theorem failedSweep_kin (h : Kin s v) (a : JobAt) :
    failedSweep v a = { failedSweep s a with drainSet := v.sweep.drainSet } := by
  unfold failedSweep
  rw [h.sweepFreed_eq]
  cases a.job.kind <;> rfl

theorem failedSlot_lost (h : Lost s v) (a : JobAt) : failedSlot v a = { failedSlot s a with
    damaged := (v.slot a.slot).damaged || (a.job.kind == .preservation && s.wp.policy != .refuse) } := by
  unfold failedSlot
  rw [h.kin.slotAfter_eq, h.wp]

theorem channelsDown_of_failed (ha : LoneJob s a) (hc : a.chan < 4)
    (hchan : ∀ d, z.chan d = if d = a.chan then { s.portLost.chan a.chan with state := .idle, job := none }
      else s.portLost.chan d)
    (hcopy : ∀ y, z.copyTag y = if y ∈ chanTags a.chan then { s.portLost.copyTag y with use := .free }
      else s.portLost.copyTag y) : channelsDown s z := by
  obtain ⟨-, hlost, hlostCopy, -⟩ := s.portLost_spec
  refine ⟨fun d => ?_, fun y => ?_⟩
  · rw [hchan, hlost, hlost]
    by_cases hd : d = a.chan
    · subst hd
      have hends : a.chan < 4 ∧ ((s.chan a.chan).job ≠ none ∨ (s.chan a.chan).state = .blocked) :=
        ⟨hc, .inl (by rw [ha.job]; exact nofun)⟩
      rw [if_pos rfl]
      conv_rhs => rw [if_pos hends]
      split <;> rfl
    · rw [if_neg hd]
      by_cases hlt : d < 4
      · have hnone : (s.chan d).job = none := ha.others d hlt hd
        have hidle : ({ s.chan d with state := .idle, job := none } : Channel) = { s.chan d with state := .idle } := by
          rw [← hnone]
        rw [hidle]
        exact if_congr (and_congr_right fun _ => (or_iff_right fun h => h hnone).symm) rfl rfl
      · rw [if_neg fun h => hlt h.1, if_neg fun h => hlt h.1]
  · rw [hcopy, hlostCopy]
    by_cases hy : y ∈ chanTags a.chan
    · have hrange := mem_chanTags.1 hy
      have hown : (y - 128) / 4 = a.chan := by omega
      have hends : 128 ≤ y ∧ y < 144 ∧ ((s.chan ((y - 128) / 4)).job ≠ none ∨ (s.copyTag y).use = .quarantined) :=
        ⟨by omega, by omega, .inl (by rw [hown, ha.job]; exact nofun)⟩
      rw [if_pos hy]
      conv_rhs => rw [if_pos hends]
      split <;> rfl
    · rw [if_neg hy]
      refine if_congr ?_ rfl rfl
      rw [and_assoc]
      refine and_congr_right fun hlow => and_congr_right fun hhigh => ?_
      have hne : (y - 128) / 4 ≠ a.chan := fun heq => hy (mem_chanTags.2 (by omega))
      rw [ha.others _ (by omega) hne]
      exact (or_iff_right fun h => h rfl).symm

/-- What a job's failure reports, with flags set before it. -/
theorem copyFailed_flags (h : Lost s v) {f : BitVec 21} (hmgmt : v.mgmt = { s.mgmt with flags := s.mgmt.flags ||| f })
    (a : JobAt) (held : Option Nat) : copyFailed v a.job a.number held =
      { copyFailed s a.job a.number held with flags := (copyFailed s a.job a.number held).flags ||| f } := by
  unfold copyFailed
  rw [hmgmt, h.windowOf]
  cases a.job.kind <;> simp only [reported, BitVec.or_assoc, BitVec.or_comm f]

end Sys2Proof.Machine.State
end

section
/-! One copy job as the memory-port link goes down: its failure behind the entry to DEGRADED, and before it (O51). -/

namespace Sys2Proof.Machine.State

variable {s t u v y z : State} {k n : Nat} {a : JobAt} {held : Option Nat} {m : List UpMessage} {activity : Table Activity}
  {mgmt mgmt' : Mgmt}

theorem lastMessages_append (s : State) (m : List UpMessage) : lastMessages s m = lastMessages s [] ++ m := by
  unfold lastMessages
  rw [List.append_nil]

theorem linkDownMgmt_eq (s : State) (m : Mgmt) :
    linkDownMgmt s m = { m with flags := m.flags ||| (BitVec.twoPow 21 19 ||| entryFlags s) } := by
  unfold linkDownMgmt entryFlags
  rw [BitVec.or_assoc]

/-- The failure of the job behind the entry to DEGRADED. -/
theorem LostAlone.lostJob (h : LostAlone s v) (hlost : Lost s v) (ha : LoneJob s a) (hc : a.chan < 4)
    (hz : JobFailed v z a held m v.activity (copyFailed v a.job a.number held)) :
    LostJob s z a held m s.activity (copyFailed s a.job a.number held) := by
  have hrest := h.rest
  have hmgmt : copyFailed v a.job a.number held = linkDownMgmt s (copyFailed s a.job a.number held) := by
    rw [linkDownMgmt_eq]
    refine copyFailed_flags hlost ?_ a held
    rw [hrest, BitVec.or_assoc]
  refine ⟨hlost.kin.freedRecords_of hz.records, hlost.kin.sweepFollows_of hz.follows,
    channelsDown_of_failed ha hc ?_ ?_, fun n => ?_, fun i => ?_, fun i => ?_, ?_⟩
  · rw [← chan_congr h.channels]
    exact hz.chan
  · rw [← copyTag_congr h.copyTags]
    exact hz.copyTag
  · rw [hz.entry, h.entry]
    by_cases hn : held = some n
    · rw [if_pos hn, if_pos (.inr (.inr hn))]
    · rw [if_neg hn]
      refine if_congr (or_congr_right ?_) rfl rfl
      exact (or_iff_left hn).symm
  · rw [hz.page]
    unfold failedPage lostPage
    rw [hlost.kin.headAfter_eq, h.page, h.page]
  · rw [hz.slot, failedSlot_lost hlost, h.slot, h.slot]
    by_cases hi : i = a.slot
    · subst hi
      rw [if_pos rfl, if_pos rfl]
      unfold linkDownSlot
      split
      · rfl
      · rfl
    · rw [if_neg hi, if_neg hi]
  · have hsweep : failedSweep v a = { failedSweep s a with drainSet := v.sweep.drainSet } := failedSweep_kin hlost.kin a
    have hdrain : v.sweep.drainSet.filter (fun n => held != some n) = s.sweep.drainSet.filter fun n =>
        !freedByLink s n && !(linkDownWaiters s).contains n && held != some n := by
      rw [hrest, List.filter_filter]
      exact List.filter_congr fun _ _ => Bool.and_comm ..
    have hport : portAfter v.port m m.length =
        portAfter s.port (linkDowns ((List.range 128).filter (cutOff s)) ++ lastMessages s m)
          (howMany 128 (freedByLink s) + (lastMessages s m).length) := by
      rw [lastMessages_append, List.length_append, ← List.append_assoc, ← Nat.add_assoc, ← portAfter_portAfter, hrest]
    have hpool : v.pool = linkDownPool s := by rw [hrest]
    have hzrest := hz.rest
    rw [hsweep, hdrain, hport, hmgmt, hpool, linkDownPool_free] at hzrest
    conv_lhs => rw [hzrest, hrest]

end Sys2Proof.Machine.State
end

section
/-! One copy job as the memory-port link goes down: its failure before the entry to DEGRADED (O51). -/

namespace Sys2Proof.Machine.State

variable {s t u v y z : State} {k n : Nat} {a : JobAt} {held : Option Nat} {m : List UpMessage} {activity : Table Activity}
  {mgmt mgmt' : Mgmt}

theorem linkDownSlot_congr (hctl : y.ctl = s.ctl) (hstate : ∀ i, (y.slot i).state = (s.slot i).state) (i : Nat) (w : Slot) :
    linkDownSlot y i w = linkDownSlot s i w := by
  unfold linkDownSlot
  rw [hctl, hstate]

/-- The failure of the job before state control is told, no write waiting for a frame. -/
theorem lostJob_first (hwait : s.pool.wait = []) (ha : LoneJob s a) (hc : a.chan < 4)
    (hy : JobFailed s.portLost y a held m activity
      { mgmt with flags := mgmt.flags ||| BitVec.twoPow 21 19 }) :
    LostJob s y.linkDownControl a held m activity mgmt := by
  have hlost := portLost_lost hwait
  obtain ⟨hentry, -, -, hrest⟩ := s.portLost_spec
  have hrestY := hy.rest
  have hctl : y.ctl = s.ctl := by rw [hrestY, hrest]
  have hywait : y.pool.wait = [] := by rw [hrestY, hrest]; exact hwait
  have hz := linkDownControl_spec (s := y) (fun _ => .inl hywait) (by rw [hrestY, hrest]; rfl)
  have hwaiters : linkDownWaiters y = [] := linkDownWaiters_none hywait
  have hslotY : ∀ i, y.slot i = if i = a.slot then failedSlot s a else s.slot i := fun i => by
    rw [hy.slot, failedSlot_lost hlost, portLost_slot, portLost_slot]
    rfl
  generalize y.linkDownControl = z at hz
  have hzrest := hz.rest
  have hdrainZ : y.sweep.drainSet.filter (fun n => !(linkDownWaiters y).contains n) = y.sweep.drainSet := by
    rw [hwaiters]
    exact filter_not_contains_nil _
  have hflags : entryFlags y = entryFlags s := by
    unfold entryFlags
    rw [hctl]
  rw [hwaiters, linkDowns_nil, List.length_nil, portAfter_nothing, linkDownPool_none hywait, hz.pst hywait, ← hwaiters,
    hdrainZ, hflags, hctl] at hzrest
  have hrecords : z.records = y.records := by rw [hzrest]
  have hsweep : z.sweep = y.sweep := by rw [hzrest]
  refine ⟨fun i => ?_, ?_, channelsDown_of_failed ha hc ?_ ?_, fun n => ?_, fun i => ?_, fun i => ?_, ?_⟩
  · rw [record_congr hrecords]
    exact hlost.kin.freedRecords_of hy.records i
  · exact sweepFollows_congr (hlost.kin.sweepFollows_of hy.follows) (by rw [hsweep]) (by rw [hsweep]) (by rw [hsweep])
  · rw [chan_congr (show z.channels = y.channels by rw [hzrest])]
    exact hy.chan
  · rw [copyTag_congr (show z.copyTags = y.copyTags by rw [hzrest])]
    exact hy.copyTag
  · rw [hz.entry, hwaiters, if_neg List.not_mem_nil, hy.entry, hentry, linkDownWaiters_none hwait]
    by_cases hn : held = some n <;> by_cases hfreed : freedByLink s n = true <;> simp [hn, hfreed]
  · have hpage : s.portLost.page = s.page := by
      unfold State.page
      rw [hrest]
    rw [hz.page, linkDownPage_none hywait, hy.page, linkDownPage_none hwait]
    unfold failedPage lostPage
    rw [hlost.kin.headAfter_eq, hpage, linkDownPage_none hwait]
  · rw [hz.slot, ← hslotY]
    refine linkDownSlot_congr hctl (fun i => ?_) i _
    rw [hslotY]
    split
    next hi => rw [hi]; rfl
    · rfl
  · have hfailed : failedSweep s.portLost a = { failedSweep s a with drainSet := s.portLost.sweep.drainSet } :=
      failedSweep_kin hlost.kin a
    have hdrain : s.portLost.sweep.drainSet.filter (fun n => held != some n) = s.sweep.drainSet.filter fun n =>
        !freedByLink s n && !(linkDownWaiters s).contains n && held != some n := by
      rw [hrest, linkDownWaiters_none hwait, List.filter_filter]
      exact List.filter_congr fun n _ => (Bool.and_comm ..).trans (by rw [show ([] : List Nat).contains n = false from rfl,
        Bool.not_false, Bool.and_true])
    have hport : portAfter s.portLost.port m m.length =
        portAfter s.port (linkDowns ((List.range 128).filter (cutOff s)) ++ lastMessages s m)
          (howMany 128 (freedByLink s) + (lastMessages s m).length) := by
      rw [show lastMessages s m = m by unfold lastMessages; rw [linkDownWaiters_none hwait]; rfl, ← portAfter_portAfter,
        hrest]
    rw [hfailed, hdrain, hport] at hrestY
    rw [hrecords, show z.pst = y.pst by rw [hzrest], show z.channels = y.channels by rw [hzrest],
      show z.copyTags = y.copyTags by rw [hzrest], linkDownPool_none hwait, linkDownMgmt_eq, ← BitVec.or_assoc]
    conv_lhs => rw [hzrest, hrestY, hrest]

end Sys2Proof.Machine.State
end

section
/-! One copy job as the memory-port link goes down: the whole step (O51). -/

namespace Sys2Proof.Machine.State

variable {s t u v y z : State} {k n : Nat} {a : JobAt} {held : Option Nat} {m : List UpMessage} {activity : Table Activity}
  {mgmt mgmt' : Mgmt}

theorem filter_chanIds {c : Nat} (hc : c < 4) {f : Nat → Bool} (hself : f c = true)
    (hothers : ∀ d, d < 4 → d ≠ c → f d = false) : chanIds.filter f = [c] := by
  have hf : ∀ d, d ∈ chanIds → f d = (d == c) := fun d hd => by
    by_cases h : d = c
    · rw [h, hself, beq_self_eq_true]
    · rw [hothers d (mem_chanIds.1 hd) h, beq_eq_false_iff_ne.2 h]
  rw [List.filter_congr hf]
  interval_cases c <;> rfl

theorem busyChannels_lone (ha : LoneJob s a) (hc : a.chan < 4) : s.busyChannels = [a.chan] :=
  filter_chanIds hc (by rw [ha.job]; rfl) fun d hd hne => by rw [ha.others d hd hne]; rfl

theorem failedSweep_kept (s : State) (a : JobAt) :
    (failedSweep s a).demand = s.sweep.demand ∧ (failedSweep s a).offer = s.sweep.offer := by
  obtain ⟨hdemand, hoffer⟩ := Proofs.sweepFreed_kept s a.job.record
  unfold failedSweep pageFaulted
  cases a.job.kind <;> exact ⟨hdemand, hoffer⟩

/-- Nothing is queued for the copy engine but the job in a channel. -/
structure NothingQueued (s : State) : Prop where
  queue : s.wp.queue = []
  demand : s.sweep.demand = []
  offer : s.sweep.offer = none

theorem NothingQueued.failed (h : NothingQueued s) (hwp : z.wp = s.wp)
    (hdemand : z.sweep.demand = (failedSweep s a).demand) (hoffer : z.sweep.offer = (failedSweep s a).offer) :
    z.ArbiterIdle := by
  obtain ⟨hkeptd, hkepto⟩ := failedSweep_kept s a
  exact arbiterIdle_of_empty (by rw [hwp]; exact h.queue) (hdemand.trans (hkeptd.trans h.demand))
    (hoffer.trans (hkepto.trans h.offer))

namespace LostJob

/-- The end of the step. -/
theorem finish (h : LostJob s z a held m activity mgmt) (hsettled : s.Settled) (hqueued : NothingQueued s) :
    jobFailedByLink s z.finish a.job a.page a.slot a.number held m activity mgmt := by
  have hidle : z.ArbiterIdle :=
    hqueued.failed (a := a) (by rw [h.rest]) (by rw [h.rest]) (by rw [h.rest])
  have hport : z.port = portAfter s.port (linkDowns ((List.range 128).filter (cutOff s)) ++ lastMessages s m)
      (howMany 128 (freedByLink s) + (lastMessages s m).length) := by rw [h.rest]
  obtain ⟨t, ht, hspec⟩ := finish_linkDown hsettled.due hidle hport
  rw [ht]
  have hrecords : t.records = z.records := by rw [hspec]
  have hpst : t.pst = z.pst := by rw [hspec]
  have hslots : t.slots = z.slots := by rw [hspec]
  have hentries : t.entries = z.entries := by rw [hspec]
  have hchannels : t.channels = z.channels := by rw [hspec]
  have hcopyTags : t.copyTags = z.copyTags := by rw [hspec]
  have hsweep : t.sweep = z.sweep := by rw [hspec]
  obtain ⟨hchan, hcopy⟩ := h.channels
  refine ⟨fun i => ?_, sweepFollows_congr h.follows (by rw [hsweep]) (by rw [hsweep]) (by rw [hsweep]),
    ⟨fun c => ?_, fun x => ?_⟩, fun n => ?_, fun i => ?_, fun i => ?_, ?_⟩
  · rw [record_congr hrecords]
    exact h.records i
  · rw [chan_congr hchannels]
    exact hchan c
  · rw [copyTag_congr hcopyTags]
    exact hcopy x
  · rw [entry_congr hentries]
    exact h.entry n
  · rw [show t.page = z.page by unfold State.page; rw [hpst]]
    exact h.page i
  · rw [slot_congr hslots]
    exact h.slot i
  · have hrest := h.rest
    rw [hrecords, hpst, hslots, hentries, hchannels, hcopyTags, show t.tags = .empty by rw [hspec, hrest],
      show t.mem = cutMem s.mem by rw [hspec, hrest]]
    have hmgmt : z.mgmt = linkDownMgmt s mgmt := by rw [hrest]
    rw [hmgmt] at hspec
    conv_lhs => rw [hspec, hrest]
    rfl

end LostJob

/-! ## The step -/

/-- With no failure first, the job fails behind the entry to DEGRADED. -/
theorem linkLost_one_behind (ha : LoneJob s a) (hc : a.chan < 4)
    (hchannels : s.portLost.linkDownControl.channels = s.portLost.channels) :
    s.linkLost 0 = (s.portLost.linkDownControl.failChan a.chan).finish := by
  have hbusy : s.portLost.linkDownControl.busyChannels = [a.chan] :=
    (busyChannels_congr hchannels).trans ((portLost_busyChannels s).trans (busyChannels_lone ha hc))
  unfold linkLost
  rw [controlLost_eq, takeFailures_zero, hbusy, List.foldl_cons, List.foldl_nil]

/-- With failures first, the job fails before the entry to DEGRADED. -/
theorem linkLost_one_first (ha : LoneJob s a) (hc : a.chan < 4) (hk : 0 < k) (hqueued : NothingQueued s)
    (hwait : s.pool.wait = []) (hfail : s.portLost.failChan a.chan = y)
    (hy : JobFailed s.portLost y a held m activity mgmt) : s.linkLost k = y.linkDownControl.finish := by
  have hbusy : s.portLost.busyChannels = [a.chan] := (portLost_busyChannels s).trans (busyChannels_lone ha hc)
  have hidle : y.ArbiterIdle := by
    refine NothingQueued.failed (s := s.portLost) (a := a) ?_ (by rw [hy.rest]) (by rw [hy.rest]) (by rw [hy.rest])
    rw [s.portLost_spec.2.2.2]
    exact ⟨hqueued.queue, hqueued.demand, hqueued.offer⟩
  have htaken : s.portLost.takeFailures k = y := by
    unfold State.takeFailures
    rw [hbusy]
    dsimp only
    rw [List.take_of_length_le (by exact hk)]
    rw [List.foldl_cons, List.foldl_nil, hfail]
    exact arbitrateFrom_idle hidle _
  have hnone : y.linkDownControl.busyChannels = [] := by
    obtain ⟨-, hchan, -, hrest⟩ := s.portLost_spec
    have hcontrolled := linkDownControl_spec (s := y) (fun _ => .inl (by rw [hy.rest, hrest]; exact hwait))
      (by rw [hy.rest, hrest]; rfl)
    rw [busyChannels_congr (show y.linkDownControl.channels = y.channels by rw [hcontrolled.rest])]
    refine List.filter_eq_nil_iff.2 fun d hd => ?_
    rw [hy.chan]
    split
    · exact nofun
    next hne =>
      have hd : (s.portLost.chan d).job = none := by
        rw [(portLost_lost hwait).job, ha.others d (mem_chanIds.1 hd) hne]
      rw [hd]
      exact nofun
  unfold linkLost
  rw [controlLost_eq, htaken, hnone, List.foldl_nil]

end Sys2Proof.Machine.State
end

section
/-! One copy job as the memory-port link goes down: the outcomes of the step (O51). -/

namespace Sys2Proof.Machine.State

variable {s v y : State} {k n : Nat} {a : JobAt} {held : Option Nat} {m : List UpMessage} {activity : Table Activity}
  {mgmt : Mgmt}

/-- One copy job, in a channel, is there as the link goes down with `k` failures first. -/
structure OneJob (s : State) (k : Nat) (a : JobAt) : Prop where
  settled : s.Settled
  chan : a.chan < 4
  lone : LoneJob s a
  queued : NothingQueued s
  waiters : WaitersEnd s k

/-- The state after the link down in which the job has failed. -/
def EndsJob (s : State) (k : Nat) (a : JobAt) (held : Option Nat) (m : List UpMessage) (activity : Table Activity)
    (mgmt : Mgmt) : Prop :=
  jobFailedByLink s (s.linkLost k) a.job a.page a.slot a.number held m activity mgmt

namespace OneJob

theorem behind (h : OneJob s 0 a)
    (hfail : ∀ v, Lost s v → v.ctl = linkDownCtl s.ctl →
      ∃ z, v.failChan a.chan = z ∧ JobFailed v z a held m v.activity (copyFailed v a.job a.number held)) :
    EndsJob s 0 a held m s.activity (copyFailed s a.job a.number held) := by
  have halone := LostAlone.of_clear (s := s) fun _ => h.waiters.clear
  unfold EndsJob
  rw [linkLost_one_behind h.lone h.chan halone.channels]
  generalize s.portLost.linkDownControl = v at halone
  have hlost := halone.lost h.waiters
  obtain ⟨z, hz, hfailed⟩ := hfail v hlost (by rw [halone.rest])
  rw [hz]
  exact (halone.lostJob hlost h.lone h.chan hfailed).finish h.settled h.queued

theorem first (h : OneJob s k a) (hk : 0 < k) (hfail : ∃ y, s.portLost.failChan a.chan = y ∧
    JobFailed s.portLost y a held m activity { mgmt with flags := mgmt.flags ||| BitVec.twoPow 21 19 }) :
    EndsJob s k a held m activity mgmt := by
  have hwait := h.waiters.wait hk
  obtain ⟨y, hy, hfailed⟩ := hfail
  unfold EndsJob
  rw [linkLost_one_first h.lone h.chan hk h.queued hwait hy hfailed]
  exact (lostJob_first hwait h.lone h.chan hfailed).finish h.settled h.queued

theorem copyFailed_lost (hwait : s.pool.wait = []) (a : JobAt) (held : Option Nat) :
    copyFailed s.portLost a.job a.number held = { copyFailed s a.job a.number held with
      flags := (copyFailed s a.job a.number held).flags ||| BitVec.twoPow 21 19 } :=
  copyFailed_flags (portLost_lost hwait) (by rw [s.portLost_spec.2.2.2]) a held

theorem activity_lost (s : State) : s.portLost.activity = s.activity := by rw [s.portLost_spec.2.2.2]

/-- No write waits for the job. -/
theorem quiet (h : OneJob s k a) (hheld : heldOnJob s a.job a.page = none) :
    EndsJob s k a none [] s.activity (copyFailed s a.job a.number none) := by
  obtain rfl | hk := Nat.eq_zero_or_pos k
  · exact h.behind fun v hlost _ => failChan_quiet (hlost.fails h.lone) ((hlost.heldOnJob ..).trans hheld)
  · have hwait := h.waiters.wait hk
    have hlost := portLost_lost hwait
    obtain ⟨y, hy, hfailed⟩ := failChan_quiet (hlost.fails h.lone) ((hlost.heldOnJob ..).trans hheld)
    rw [copyFailed_lost hwait, activity_lost] at hfailed
    exact h.first hk ⟨y, hy, hfailed⟩

/-- The write that waits for the job ends with the link. -/
theorem passes (h : OneJob s k a) (hn : Waits s a n)
    (hpasses : (s.ctl.state = .guarding ∧ k = 0) ∨ s.ctl.state = .degraded ∨ s.effective (s.entry n).stamp = none ∨
      (s.ctl.state = .guarding ∧ a.job.kind = .preservation ∧ s.effective (s.entry n).stamp = some a.slot ∧
        s.wp.policy ≠ .refuse)) :
    EndsJob s k a (some n) [.completion n .dataErr .linkDown []] s.activity (copyFailed s a.job a.number (some n)) := by
  obtain ⟨-, hheld⟩ := heldOnJob_eq_some hn.held
  have hsame : ∀ v, Lost s v → v.effective (v.entry n).stamp = s.effective (s.entry n).stamp := fun v hlost => by
    rw [hlost.held_entry hheld, hlost.kin.effective]
  obtain rfl | hk := Nat.eq_zero_or_pos k
  · refine h.behind fun v hlost hctl => failChan_passes (hlost.fails h.lone) (hlost.waits hn) hlost.down ?_
    unfold PassesJob
    rw [hsame v hlost, hctl]
    obtain ⟨hguarding, -⟩ | hdegraded | hnone | ⟨hguarding, -⟩ := hpasses
    · exact .inl (by rw [linkDownCtl_guarding hguarding])
    · exact .inl (by rw [linkDownCtl_degraded hdegraded]; exact hdegraded)
    · exact .inr (.inl hnone)
    · exact .inl (by rw [linkDownCtl_guarding hguarding])
  · have hwait := h.waiters.wait hk
    have hlost := portLost_lost hwait
    have hpassed : PassesJob s.portLost a n := by
      unfold PassesJob
      rw [hsame _ hlost, portLost_ctl, hlost.wp]
      obtain ⟨-, hzero⟩ | hdegraded | hnone | ⟨hguarding, hmark⟩ := hpasses
      · exact absurd hzero hk.ne'
      · exact .inl hdegraded
      · exact .inr (.inl hnone)
      · exact .inr (.inr ⟨by rw [hguarding]; exact nofun, hmark⟩)
    obtain ⟨y, hy, hfailed⟩ := failChan_passes (hlost.fails h.lone) (hlost.waits hn) hlost.down hpassed
    rw [copyFailed_lost hwait, activity_lost] at hfailed
    exact h.first hk ⟨y, hy, hfailed⟩

/-- The write that waits for the job is refused. -/
theorem refused (h : OneJob s k a) (hn : Waits s a n) (hk : 0 < k) (hrefused : RefusedByJob s a n) :
    EndsJob s k a (some n) [.completion n .refused .preserveFailed []]
      (counted s (s.entry n).window fun c => { c with refusals := satInc c.refusals })
      { copyFailed s a.job a.number (some n) with
        firstError := { (copyFailed s a.job a.number (some n)).firstError with more := true } } := by
  obtain ⟨-, hheld⟩ := heldOnJob_eq_some hn.held
  have hwait := h.waiters.wait hk
  have hlost := portLost_lost hwait
  have hentry := hlost.held_entry hheld
  obtain ⟨y, hy, hfailed⟩ := failChan_refused (hlost.fails h.lone) (hlost.waits hn)
    ⟨by rw [portLost_ctl]; exact hrefused.state, hrefused.kind,
      by rw [hentry, hlost.kin.effective]; exact hrefused.effective, by rw [hlost.wp]; exact hrefused.policy⟩
  have hcounted : counted s.portLost (s.entry n).window (fun c => { c with refusals := satInc c.refusals }) =
      counted s (s.entry n).window fun c => { c with refusals := satInc c.refusals } := by
    unfold counted State.act
    rw [activity_lost]
  rw [copyFailed_lost hwait, hentry, hcounted] at hfailed
  exact h.first hk ⟨y, hy, hfailed⟩

end OneJob

end Sys2Proof.Machine.State
end

section
/-! Steps that leave the requests alone: what the updates of a copy job's failure change, the memory-port link being down, no
write HELD, and none waiting for a frame (O51). -/

namespace Sys2Proof.Machine.State

variable {s t u : State} {R R' : Nat → Prop} {p r x : Nat} {tag : Option Nat} {l : List Nat} {f : EventFlag}

/-- No decision is due: the memory-port link is down, no write is HELD, and none waits for a frame. -/
structure Quiet (s : State) : Prop where
  down : s.mem.up = false
  wait : s.pool.wait = []
  held : ∀ n, (s.entry n).state ≠ .held

/-- `f` orphans jobs whose records, of those in `R`, are freed in state `t`. -/
def Orphans (R : Nat → Prop) (t : State) (f : Job → Job) : Prop :=
  ∀ j, f j = j ∨ (R j.record ∧ f j = { j with orphaned := true } ∧ t.record j.record = .freed ∧ j.record ∈ t.pool.free)

/-- From `s` to `t` no request changes, marks keep their state, and what is damaged, flagged or freed stays so; no record
besides those in `R` changes its slot or its state. -/
structure Calm (R : Nat → Prop) (s t : State) : Prop where
  entries : t.entries = s.entries
  mem : t.mem = s.mem
  wait : t.pool.wait = s.pool.wait
  free : ∀ r, r ∈ s.pool.free → r ∈ t.pool.free
  policy : t.wp.policy = s.wp.policy
  record : ∀ y, ¬R y → (t.record y).slot = (s.record y).slot ∧ (t.record y).state = (s.record y).state
  freed : ∀ y, s.record y = .freed → t.record y = .freed
  slotState : ∀ q, (t.slot q).state = (s.slot q).state
  damaged : ∀ q, (s.slot q).damaged = true → (t.slot q).damaged = true
  flag : ∀ f, s.flag f = true → t.flag f = true

/-- From `s` to `t`, besides, the channels' states and the jobs stay, but that jobs of freed records are orphaned. -/
structure Quietly (R : Nat → Prop) (s t : State) : Prop extends Calm R s t where
  demand : t.sweep.demand = s.sweep.demand
  offer : t.sweep.offer = s.sweep.offer
  copyTags : t.copyTags = s.copyTags
  chanState : ∀ c, (t.chan c).state = (s.chan c).state
  jobs : ∃ f, Orphans R t f ∧ t.wp.queue = s.wp.queue.map f ∧ t.wp.backlog = s.wp.backlog.map f ∧
    ∀ c, c < 4 → (t.chan c).job = (s.chan c).job.map f

namespace Calm

theorem quiet (h : Calm R s t) (hs : Quiet s) : Quiet t where
  down := by rw [h.mem]; exact hs.down
  wait := by rw [h.wait]; exact hs.wait
  held n := by rw [entry_congr h.entries]; exact hs.held n

theorem mono (h : Calm R s t) (hsub : ∀ y, R y → R' y) : Calm R' s t where
  __ := h
  record y hy := h.record y fun hr => hy (hsub y hr)

theorem trans (h : Calm R s t) (h' : Calm R t u) : Calm R s u where
  entries := h'.entries.trans h.entries
  mem := h'.mem.trans h.mem
  wait := h'.wait.trans h.wait
  free r hr := h'.free r (h.free r hr)
  policy := h'.policy.trans h.policy
  record y hy := ⟨(h'.record y hy).1.trans (h.record y hy).1, (h'.record y hy).2.trans (h.record y hy).2⟩
  freed y hy := h'.freed y (h.freed y hy)
  slotState q := (h'.slotState q).trans (h.slotState q)
  damaged q hq := h'.damaged q (h.damaged q hq)
  flag f hf := h'.flag f (h.flag f hf)

end Calm

namespace Quietly

theorem quiet (h : Quietly R s t) (hs : Quiet s) : Quiet t := h.toCalm.quiet hs

theorem orphans (h : Quietly R s t) {g : Job → Job} (hg : Orphans R s g) : Orphans R t g := fun j =>
  (hg j).imp id fun ⟨hj, horphan, hfreed, hfree⟩ => ⟨hj, horphan, h.freed _ hfreed, h.free _ hfree⟩

theorem mono (h : Quietly R s t) (hsub : ∀ y, R y → R' y) : Quietly R' s t where
  toCalm := h.toCalm.mono hsub
  demand := h.demand
  offer := h.offer
  copyTags := h.copyTags
  chanState := h.chanState
  jobs := by
    obtain ⟨f, hf, hrest⟩ := h.jobs
    exact ⟨f, fun j => (hf j).imp id fun ⟨hj, hrest⟩ => ⟨hsub _ hj, hrest⟩, hrest⟩

theorem orphans_comp {f g : Job → Job} (hf : Orphans R t f) (hg : Orphans R t g) : Orphans R t (g ∘ f) := by
  intro j
  obtain hj | ⟨hr, hj, hfreed, hfree⟩ := hf j
  · rw [Function.comp_apply, hj]
    exact hg j
  · rw [Function.comp_apply, hj]
    refine .inr ⟨hr, ?_, hfreed, hfree⟩
    obtain hsame | ⟨-, hsame, -⟩ := hg { j with orphaned := true } <;> rw [hsame]

theorem trans (h : Quietly R s t) (h' : Quietly R t u) : Quietly R s u where
  toCalm := h.toCalm.trans h'.toCalm
  demand := h'.demand.trans h.demand
  offer := h'.offer.trans h.offer
  copyTags := h'.copyTags.trans h.copyTags
  chanState c := (h'.chanState c).trans (h.chanState c)
  jobs := by
    obtain ⟨f, hf, hqueue, hbacklog, hchan⟩ := h.jobs
    obtain ⟨g, hg, hqueue', hbacklog', hchan'⟩ := h'.jobs
    refine ⟨g ∘ f, orphans_comp (h'.orphans hf) hg, ?_, ?_, fun c hc => ?_⟩
    · rw [hqueue', hqueue, List.map_map]
    · rw [hbacklog', hbacklog, List.map_map]
    · rw [hchan' c hc, hchan c hc, Option.map_map]

/-- What changes page entries, records, marks, state control, the sweep engine and the report alone. -/
theorem of_tables (ht : ∃ pst records slots ctl sweep mgmt, t = { s with
      pst := pst, records := records, slots := slots, ctl := ctl, sweep := sweep, mgmt := mgmt })
    (hdemand : t.sweep.demand = s.sweep.demand) (hoffer : t.sweep.offer = s.sweep.offer)
    (hrecord : ∀ y, ¬R y → (t.record y).slot = (s.record y).slot ∧ (t.record y).state = (s.record y).state)
    (hfreed : ∀ y, s.record y = .freed → t.record y = .freed) (hslot : ∀ q, (t.slot q).state = (s.slot q).state)
    (hdamaged : ∀ q, (s.slot q).damaged = true → (t.slot q).damaged = true)
    (hflag : ∀ f, s.flag f = true → t.flag f = true) : Quietly R s t := by
  obtain ⟨pst, records, slots, ctl, sweep, mgmt, rfl⟩ := ht
  refine ⟨⟨rfl, rfl, rfl, fun _ => id, rfl, hrecord, hfreed, hslot, hdamaged, hflag⟩, hdemand, hoffer, rfl, fun _ => rfl,
    id, fun _ => .inl rfl, (List.map_id _).symm, (List.map_id _).symm, fun c _ => ?_⟩
  rw [Option.map_id]
  rfl

theorem refl (s : State) : Quietly R s s :=
  of_tables ⟨_, _, _, _, _, _, rfl⟩ rfl rfl (fun _ _ => ⟨rfl, rfl⟩) (fun _ => id) (fun _ => rfl) (fun _ => id) (fun _ => id)

theorem report (m : Mgmt) (h : ∀ f, s.flag f = true → ({ s with mgmt := m } : State).flag f = true) :
    Quietly R s { s with mgmt := m } :=
  of_tables ⟨_, _, _, _, _, _, rfl⟩ rfl rfl (fun _ _ => ⟨rfl, rfl⟩) (fun _ => id) (fun _ => rfl) (fun _ => id) h

theorem raise (s : State) (f : EventFlag) : Quietly R s (s.raise f) := report _ fun _ h => raise_keeps_flag _ h

theorem capture (s : State) (k : ErrKind) (tag : Option Nat) (a : Option Addr) (w : Option Nat) :
    Quietly R s (s.capture k tag a w) := by
  rw [capture_eq]
  exact report _ fun _ h => h

theorem page (s : State) (p : Nat) (v : PstEntry) : Quietly R s (s.setPage p v) :=
  of_tables ⟨_, _, _, _, _, _, rfl⟩ rfl rfl (fun _ _ => ⟨rfl, rfl⟩) (fun _ => id) (fun _ => rfl) (fun _ => id) (fun _ => id)

theorem sweep (v : Sweep) (hdemand : v.demand = s.sweep.demand) (hoffer : v.offer = s.sweep.offer) :
    Quietly R s (s.setSweep v) :=
  of_tables ⟨_, _, _, _, _, _, rfl⟩ hdemand hoffer (fun _ _ => ⟨rfl, rfl⟩) (fun _ => id) (fun _ => rfl) (fun _ => id)
    (fun _ => id)

theorem slot (q : Nat) (v : Slot) (hstate : v.state = (s.slot q).state)
    (hdamaged : (s.slot q).damaged = true → v.damaged = true) : Quietly R s (s.setSlot q v) := by
  refine of_tables ⟨_, _, _, _, _, _, rfl⟩ rfl rfl (fun _ _ => ⟨rfl, rfl⟩) (fun _ => id) (fun i => ?_) (fun i => ?_)
    (fun _ => id)
  · rw [setSlot_slot]
    split
    next h => rw [h]; exact hstate
    · rfl
  · rw [setSlot_slot]
    split
    next h => rw [h]; exact hdamaged
    · exact id

/-- A record that is not free keeps its slot and its state as it is written. -/
theorem putRec (v : Record) (hslot : v.slot = (s.record r).slot) (hstate : v.state = (s.record r).state)
    (hfreed : s.record r ≠ .freed) : Quietly R s (s.putRec r v) := by
  have hget : ∀ y, (s.putRec r v).record y = if y = r then { v with parityOk := true } else s.record y :=
    fun y => Table.get_set ..
  refine of_tables ⟨_, _, _, _, _, _, rfl⟩ rfl rfl (fun y _ => ?_) (fun y hy => ?_) (fun _ => rfl) (fun _ => id) (fun _ => id)
  · rw [hget]
    split
    next h => rw [h]; exact ⟨hslot, hstate⟩
    · exact ⟨rfl, rfl⟩
  · rw [hget, if_neg fun h : y = r => hfreed (h ▸ hy)]
    exact hy

theorem foldl {α : Type} {g : State → α → State} {l : List α}
    (hg : ∀ u a, a ∈ l → Quiet u → Quietly R u (g u a)) (hs : Quiet s) : Quietly R s (l.foldl g s) := by
  induction l generalizing s with
  | nil => exact refl s
  | cons a l ih =>
    have hone := hg s a (List.mem_cons_self ..) hs
    exact hone.trans (ih (fun u b hb => hg u b (List.mem_cons_of_mem _ hb)) (hone.quiet hs))

/-! ## Reads that check parity (R14, R43, R151) -/

theorem tableFault (hs : Quiet s) : Quietly R s s.tableFault := by
  unfold State.tableFault
  by_cases hguarding : s.ctl.state = .guarding
  · obtain ⟨ctl, slots, hfault, -, hslots⟩ := Laws.tableFaultWith_guarding flushWaiters hguarding
    rw [hfault, flushWaiters_none (by exact hs.wait)]
    have hslot : ∀ q, (slots.get .freed q).state = (s.slot q).state ∧
        ((s.slot q).damaged = true → (slots.get .freed q).damaged = true) := fun q => by
      rw [hslots]
      split
      · exact ⟨rfl, fun _ => rfl⟩
      · exact ⟨rfl, id⟩
    exact of_tables ⟨_, _, _, _, _, _, rfl⟩ rfl rfl (fun _ _ => ⟨rfl, rfl⟩) (fun _ => id) (fun q => (hslot q).1)
      (fun q => (hslot q).2) (fun _ h => raise_keeps_flag (s := s) _ h)
  · obtain ⟨ctl, hfault, -⟩ := Laws.tableFaultWith_other flushWaiters hguarding
    rw [hfault]
    exact of_tables ⟨_, _, _, _, _, _, rfl⟩ rfl rfl (fun _ _ => ⟨rfl, rfl⟩) (fun _ => id) (fun _ => rfl) (fun _ => id)
      (fun _ => id)

theorem checkPage (hs : Quiet s) : Quietly R s (s.checkPage p tag) := by
  unfold State.checkPage Machine.checkPageWith
  split
  · exact refl s
  · have hrepair : Quietly R s ((s.capture .parity tag (s.pstAddress p) (s.pstWindow p)).repairPage p) :=
      (capture ..).trans (page ..)
    exact hrepair.trans (tableFault (hrepair.quiet hs))

theorem checkPageOf (hs : Quiet s) (o : Option Nat) : Quietly R s (s.checkPageOf o) := by
  cases o with
  | none => exact refl s
  | some p => exact checkPage hs

theorem captureRec (s : State) (r : Nat) (tag : Option Nat) : Quietly R s (s.captureRec r tag) := by
  unfold State.captureRec
  split
  · exact capture ..
  · split <;> exact capture ..

theorem checkRec (hs : Quiet s) : Quietly R s (s.checkRec r tag) := by
  unfold State.checkRec Machine.checkRecWith
  split
  · exact refl s
  next hparity =>
    have hcapture : Quietly R s (s.captureRec r tag) := captureRec ..
    have hrecord : (s.captureRec r tag).record r = s.record r := by
      unfold State.captureRec
      split
      · rw [capture_record]
      · split <;> rw [capture_record]
    have hput : Quietly R (s.captureRec r tag) ((s.captureRec r tag).putRec r { s.record r with suspect := true }) :=
      putRec _ (by rw [hrecord]) (by rw [hrecord]) fun h => hparity (by rw [← hrecord, h]; rfl)
    have hboth := hcapture.trans hput
    exact hboth.trans (tableFault (hboth.quiet hs))

theorem checkRecs (hs : Quiet s) : Quietly R s (s.checkRecs l tag) := foldl (fun _ _ _ hu => checkRec hu) hs

end Quietly

end Sys2Proof.Machine.State
end

section
/-! A record freed where no decision is due (R46, R47, R51, R54; O51). -/

namespace Sys2Proof.Machine.State

variable {s t u : State} {R : Nat → Prop} {p q r x : Nat} {l : List Nat} {j : Job}

/-- Record `r` is freed and its frame queued. -/
def Returned (s : State) (r : Nat) : Prop := s.record r = .freed ∧ r ∈ s.pool.free

theorem chainFrom_state {k : Nat} {seen : List Nat} {o : Option Nat} (h : x ∈ s.chainFrom p k seen o) :
    (s.record x).state ≠ .free := by
  induction k generalizing seen o with
  | zero => cases h
  | succ k ih =>
    unfold State.chainFrom at h
    split at h
    · cases h
    next y hlink =>
      obtain rfl | hx := List.mem_cons.1 h
      · unfold State.chainLink at hlink
        split at hlink
        · cases hlink
        · split at hlink
          next hy => exact Option.some.inj hlink ▸ hy.1
          · cases hlink
      · exact ih hx

theorem not_freed_of_state (h : (s.record x).state ≠ .free) : s.record x ≠ .freed := fun hfreed => h (by rw [hfreed]; rfl)

theorem Calm.returned (h : Calm R s t) (hr : Returned s r) : Returned t r := ⟨h.freed _ hr.1, h.free _ hr.2⟩

namespace Quietly

theorem returned (h : Quietly R s t) (hr : Returned s r) : Returned t r := h.toCalm.returned hr

/-! ## Out of the chain, and out of the journal -/

theorem chainUnlink (s : State) (p r : Nat) : Quietly R s (s.chainUnlink p r) := by
  unfold State.chainUnlink
  split
  · split
    · exact page ..
    next y hlast =>
      refine putRec _ rfl rfl (not_freed_of_state ?_)
      have hy : y ∈ s.chain p := (List.takeWhile_prefix _).subset (List.mem_of_getLast? hlast)
      exact chainFrom_state hy
  · exact refl s

theorem unlinkRec (hs : Quiet s) : Quietly R s (s.unlinkRec r) := by
  unfold State.unlinkRec
  split
  · exact refl s
  next p _ =>
    have hpage : Quietly R s (s.checkPage p none) := checkPage hs
    exact (hpage.trans (checkRecs (hpage.quiet hs))).trans (chainUnlink ..)

theorem sweepPast (s : State) (r : Nat) : Quietly R s (s.sweepPast r) := by
  obtain ⟨-, -, hdemand, hoffer⟩ := s.sweepPast_kept r
  rw [sweepPast_eq]
  exact sweep _ hdemand hoffer

theorem linkNewer {o v : Option Nat} (h : ∀ y, o = some y → s.record y ≠ .freed) : Quietly R s (s.linkNewer o v) := by
  cases o with
  | none => exact refl s
  | some y => exact putRec _ rfl rfl (h y rfl)

theorem linkOlder {o v : Option Nat} (h : ∀ y, o = some y → s.record y ≠ .freed) : Quietly R s (s.linkOlder o v) := by
  cases o with
  | none => exact refl s
  | some y => exact putRec _ rfl rfl (h y rfl)

theorem journalUnlink (s : State) (q r : Nat) : Quietly R s (s.journalUnlink q r) := by
  have holder : ∀ y, s.leaveOlder r = some y → s.record y ≠ .freed := fun y hy =>
    not_freed_of_state (leaveOlder_eq_some.1 hy).2.1
  have hfirst : ∀ R', Quietly R' s (s.linkNewer (s.leaveOlder r) (s.leaveNewer r)) := fun _ => linkNewer holder
  have hnewer : ∀ y, s.leaveNewer r = some y →
      (s.linkNewer (s.leaveOlder r) (s.leaveNewer r)).record y ≠ .freed := fun y hy => by
    refine not_freed_of_state ?_
    rw [((hfirst fun _ => False).record y id).2]
    exact (walkLink_eq_some.1 hy).2.1
  exact ((hfirst R).trans (linkOlder hnewer)).trans (slot _ _ rfl id)

theorem journalRemove (s : State) (r : Nat) : Quietly R s (s.journalRemove r) := by
  unfold State.journalRemove
  split
  · exact sweepPast ..
  next q _ =>
    have hpast : Quietly R s (s.sweepPast r) := sweepPast ..
    dsimp only
    split
    · exact (hpast.trans (journalUnlink ..)).trans (slot _ _ rfl id)
    · exact hpast.trans (slot _ _ rfl id)

theorem leaveJournal (hs : Quiet s) : Quietly R s (s.leaveJournal r) := by
  have hrecs : Quietly R s (s.checkRecs (s.leaveReads r) none) := checkRecs hs
  exact hrecs.trans (journalRemove ..)

end Quietly

/-! ## The record cleared, its jobs orphaned, and its frame returned -/

theorem orphan_orphan (r : Nat) (j : Job) : Job.orphan r (Job.orphan r j) = Job.orphan r j := by
  unfold Job.orphan
  split <;> simp_all

theorem foldl_orphan (r : Nat) (l : List Nat) (s : State) : ∃ channels,
    l.foldl (fun s c => s.setChan c { s.chan c with job := (s.chan c).job.map (Job.orphan r) }) s =
      { s with channels := channels } ∧
    ∀ c, channels.get .reset c =
      if c ∈ l then { s.chan c with job := (s.chan c).job.map (Job.orphan r) } else s.chan c := by
  induction l generalizing s with
  | nil => exact ⟨s.channels, rfl, fun _ => (if_neg List.not_mem_nil).symm⟩
  | cons a l ih =>
    obtain ⟨channels, hfold, hget⟩ := ih (s.setChan a { s.chan a with job := (s.chan a).job.map (Job.orphan r) })
    refine ⟨channels, hfold, fun c => (hget c).trans ?_⟩
    rw [setChan_chan]
    by_cases hc : c = a
    · subst hc
      have htwice : Job.orphan r ∘ Job.orphan r = Job.orphan r := funext (orphan_orphan r)
      simp [Option.map_map, htwice]
    · simp [hc]

/-- The record reads FREE, and the jobs that name it, if there are any, are orphaned. -/
theorem clearRec_spec (s : State) (r : Nat) : ∃ f channels, (f = id ∨ f = Job.orphan r) ∧
    s.clearRec r = { s with
      records := s.records.set .freed r .freed, channels := channels
      wp := { s.wp with queue := s.wp.queue.map f, backlog := s.wp.backlog.map f } } ∧
    (∀ c, (channels.get .reset c).state = (s.chan c).state) ∧
    ∀ c, c < 4 → (channels.get .reset c).job = (s.chan c).job.map f := by
  unfold State.clearRec State.orphanJobs
  split
  · obtain ⟨channels, hfold, hget⟩ := foldl_orphan r chanIds ((s.setRec r .freed).setWp { s.wp with
      queue := s.wp.queue.map (Job.orphan r), backlog := s.wp.backlog.map (Job.orphan r) })
    refine ⟨Job.orphan r, channels, .inr rfl, hfold, fun c => ?_, fun c hc => ?_⟩
    · rw [hget]
      split <;> rfl
    · rw [hget, if_pos (mem_chanIds.2 hc)]
      rfl
  · refine ⟨id, s.channels, .inl rfl, ?_, fun _ => rfl, fun c _ => (congrFun Option.map_id _).symm⟩
    rw [List.map_id, List.map_id]
    rfl

theorem returnFrame_pool (hwait : s.pool.wait = []) (r : Nat) : ∃ free, s.returnFrame r =
    { s with pool := { s.pool with free := free } } ∧ r ∈ free ∧ ∀ y, y ∈ s.pool.free → y ∈ free := by
  by_cases hr : r ∈ s.pool.free
  · exact ⟨s.pool.free, returnFrame_queued hr, hr, fun _ => id⟩
  · exact ⟨s.pool.free ++ [r], returnFrame_noWaiter hr hwait, List.mem_append_right _ (List.mem_singleton.2 rfl),
      fun _ => List.mem_append_left _⟩

theorem orphan_cases (r : Nat) (j : Job) : Job.orphan r j = j ∨
    (j.record = r ∧ Job.orphan r j = { j with orphaned := true }) := by
  unfold Job.orphan
  split
  next h => exact .inr ⟨h, rfl⟩
  · exact .inl rfl

namespace Quietly

theorem clearReturn (hs : Quiet s) (r : Nat) : Quietly (· = r) s ((s.clearRec r).returnFrame r) ∧
    Returned ((s.clearRec r).returnFrame r) r := by
  obtain ⟨f, channels, hf, hclear, hstate, hjob⟩ := clearRec_spec s r
  have hget : ∀ y, (s.clearRec r).record y = if y = r then .freed else s.record y := fun y => by
    rw [hclear]
    exact Table.get_set ..
  obtain ⟨free, hreturn, hr, hfree⟩ := returnFrame_pool (s := s.clearRec r) (by rw [hclear]; exact hs.wait) r
  have hrecord : ((s.clearRec r).returnFrame r).record = (s.clearRec r).record := record_congr (by rw [hreturn])
  have hpool : ((s.clearRec r).returnFrame r).pool.free = free := by rw [hreturn]
  have hreturned : Returned ((s.clearRec r).returnFrame r) r :=
    ⟨by rw [hrecord, hget, if_pos rfl], by rw [hpool]; exact hr⟩
  rw [hclear] at hfree
  refine ⟨⟨⟨?_, ?_, ?_, fun y hy => ?_, ?_, fun y hy => ?_, fun y hy => ?_, fun q => ?_, fun q => ?_, fun e => ?_⟩,
    ?_, ?_, ?_, fun c => ?_, f, fun j => ?_, ?_, ?_, fun c hc => ?_⟩, hreturned⟩
  · rw [hreturn, hclear]
  · rw [hreturn, hclear]
  · rw [hreturn, hclear]
  · rw [hpool]
    exact hfree y hy
  · rw [hreturn, hclear]
  · rw [hrecord, hget, if_neg hy]
    exact ⟨rfl, rfl⟩
  · rw [hrecord, hget]
    split
    · rfl
    · exact hy
  · rw [hreturn, hclear]
    rfl
  · rw [hreturn, hclear]
    exact id
  · rw [hreturn, hclear]
    exact id
  · rw [hreturn, hclear]
  · rw [hreturn, hclear]
  · rw [hreturn, hclear]
  · rw [← hstate, hreturn, hclear]
    rfl
  · obtain rfl | rfl := hf
    · exact .inl rfl
    · refine (orphan_cases r j).imp id fun ⟨hj, horphan⟩ => ⟨hj, horphan, ?_⟩
      rw [hj]
      exact hreturned
  · rw [hreturn, hclear]
  · rw [hreturn, hclear]
  · rw [← hjob c hc, hreturn, hclear]
    rfl

/-- A record freed where no decision is due. -/
theorem freeRecord (hs : Quiet s) (r : Nat) : Quietly (· = r) s (s.freeRecord r) ∧ Returned (s.freeRecord r) r := by
  have hunlink : Quietly (· = r) s (s.unlinkRec r) := unlinkRec hs
  have hleave := hunlink.trans (leaveJournal (r := r) (hunlink.quiet hs))
  obtain ⟨hclear, hreturned⟩ := clearReturn (hleave.quiet hs) r
  exact ⟨hleave.trans hclear, hreturned⟩

theorem stopWaiting (s : State) (r : Nat) : Quietly R s (s.stopWaiting r) := by
  unfold State.stopWaiting
  split
  · exact sweep _ rfl rfl
  · exact refl s

end Quietly

end Sys2Proof.Machine.State
end

section
/-! The failure of a copy job where no decision is due (R66, R99, R125; O51). -/

namespace Sys2Proof.Machine.State

variable {s t u : State} {R : Nat → Prop} {p q r x : Nat} {j : Job} {o : Option Nat}

theorem slotOf_of_states (h : ∀ q, (t.slot q).state = (s.slot q).state) (v : Record) : t.slotOf v = s.slotOf v := by
  unfold State.slotOf
  simp only [h]

namespace Quiet

variable (hs : Quiet s)
include hs

theorem heldBehind (p r : Nat) : s.heldBehind p r = none := by
  refine Option.eq_none_iff_forall_ne_some.2 fun n hn => ?_
  obtain ⟨-, hheld, -⟩ := heldBehind_eq_some hn
  exact hs.held n hheld

theorem heldForDemand (p : Nat) : s.heldForDemand p = false := by
  unfold State.heldForDemand
  cases hhead : (s.page p).waitHead with
  | none => rfl
  | some n =>
    dsimp only
    rw [beq_eq_false_iff_ne.2 (hs.held n), Bool.false_and]

end Quiet

/-- The damage that a failed preservation does under BREAK and WAIT (R66, step 2). -/
def damageUnless (o : Option Nat) (s : State) : State :=
  match o with
  | none => s
  | some q => if s.wp.policy = .refuse then s else s.damage q

theorem failureSteps_unheld {v : Record} (h : (v.pageIndex.bind fun p => s.heldBehind p r) = none) :
    failureSteps r v s = (((((s.raise .preserveFail).captureCopy none v.pageNumber).damageUnless
      (((s.raise .preserveFail).captureCopy none v.pageNumber).slotOf v)).freeRecord r).stopWaiting r) := by
  unfold failureSteps
  rw [h]
  cases v.pageIndex <;> rfl

namespace Quietly

theorem redecideBehind (hs : Quiet s) (r : Nat) (o : Option Nat) : Quietly R s (s.redecideBehind r o) := by
  unfold State.redecideBehind
  cases o with
  | none => exact refl s
  | some p =>
    have hpage : Quietly R s (s.checkPage p none) := checkPage hs
    dsimp only
    rw [(hpage.quiet hs).heldBehind]
    exact hpage

theorem redecideDemand (hs : Quiet s) (o : Option Nat) : Quietly R s (s.redecideDemand o) := by
  unfold State.redecideDemand
  cases o with
  | none => exact refl s
  | some p =>
    have hpage : Quietly R s (s.checkPage p none) := checkPage hs
    dsimp only
    rw [(hpage.quiet hs).heldForDemand]
    exact hpage

theorem editReport (g : Report → Report) (s : State) : Quietly R s (s.editReport g) := sweep _ rfl rfl

theorem captureCopy (s : State) (held page : Option Nat) : Quietly R s (s.captureCopy held page) := capture ..

theorem damageUnless (s : State) (o : Option Nat) : Quietly R s (s.damageUnless o) ∧
    ∀ q, o = some q → s.wp.policy ≠ .refuse → ((s.damageUnless o).slot q).damaged = true := by
  cases o with
  | none => exact ⟨refl s, nofun⟩
  | some q =>
    unfold State.damageUnless
    dsimp only
    by_cases hpolicy : s.wp.policy = .refuse
    · rw [if_pos hpolicy]
      exact ⟨refl s, fun _ _ hne => absurd hpolicy hne⟩
    · rw [if_neg hpolicy]
      refine ⟨slot _ _ rfl fun _ => rfl, fun i hi _ => ?_⟩
      obtain rfl := Option.some.inj hi
      exact congrArg Slot.damaged (Table.get_set_same ..)

/-- A failed preservation frees its record, sets its flag, and damages its mark under BREAK and WAIT (R66). -/
theorem preservationFailure (hs : Quiet s) (r : Nat) : Quietly (· = r) s (s.preservationFailure r) ∧
    Returned (s.preservationFailure r) r ∧ (s.preservationFailure r).flag .preserveFail = true ∧
    ∀ q, s.slotOf (s.record r) = some q → s.wp.policy ≠ .refuse → ((s.preservationFailure r).slot q).damaged = true := by
  rw [preservationFailure_steps]
  have hcheck : Quietly (· = r) s (s.checkPageOf (s.record r).pageIndex) := checkPageOf hs _
  generalize s.checkPageOf (s.record r).pageIndex = w at hcheck
  have hw := hcheck.quiet hs
  generalize s.record r = v
  have hheld : (v.pageIndex.bind fun p => w.heldBehind p r) = none := by
    cases v.pageIndex with
    | none => rfl
    | some p => exact hw.heldBehind p r
  rw [failureSteps_unheld hheld]
  have hraise : Quietly (· = r) w (w.raise .preserveFail) := raise ..
  have hreport := hraise.trans (captureCopy _ none v.pageNumber)
  have hflag : ((w.raise .preserveFail).captureCopy none v.pageNumber).flag .preserveFail = true :=
    (captureCopy (R := fun _ => False) (w.raise .preserveFail) none v.pageNumber).flag _ (by
      rw [raise_flag, Bool.or_eq_true]
      exact .inr (by decide))
  generalize (w.raise .preserveFail).captureCopy none v.pageNumber = w' at hreport hflag
  have hslotOf : w'.slotOf v = s.slotOf v := slotOf_of_states (hcheck.trans hreport).slotState v
  have hpolicy : w'.wp.policy = s.wp.policy := (hcheck.trans hreport).policy
  obtain ⟨hdamage, hdamaged⟩ := damageUnless (R := (· = r)) w' (w'.slotOf v)
  generalize w'.damageUnless (w'.slotOf v) = d at hdamage hdamaged
  have htod := (hcheck.trans hreport).trans hdamage
  obtain ⟨hfree, hreturned⟩ := freeRecord (htod.quiet hs) r
  have hstop : Quietly (· = r) d ((d.freeRecord r).stopWaiting r) := hfree.trans (stopWaiting ..)
  refine ⟨htod.trans hstop, (stopWaiting (R := fun _ => False) _ _).returned hreturned,
    hstop.flag _ (hdamage.flag _ hflag), fun q hq hne => ?_⟩
  exact hstop.damaged q (hdamaged q (hslotOf.trans hq) (by rw [hpolicy]; exact hne))

/-- A restore's fault is reported (R99). -/
theorem restoreFault (s : State) (o : Option Nat) : Quietly R s (s.restoreFault o) ∧
    (s.restoreFault o).flag .restoreFault = true := by
  have happend : Quietly R s (s.appendFault o) := by
    have hcount : Quietly R s (s.setSweep { s.sweep with faultCount := satInc s.sweep.faultCount }) := sweep _ rfl rfl
    unfold State.appendFault
    cases o with
    | none => exact hcount
    | some n =>
      dsimp only
      split <;> exact hcount.trans (sweep _ rfl rfl)
  have hraise : Quietly R s ((s.appendFault o).raise .restoreFault) := happend.trans (raise ..)
  have hlast : Quietly R ((s.appendFault o).raise .restoreFault) (s.restoreFault o) :=
    (editReport _ _).trans (captureCopy _ none o)
  refine ⟨hraise.trans hlast, hlast.flag _ ?_⟩
  rw [raise_flag, Bool.or_eq_true]
  exact .inr (by decide)

/-- A failed restore frees its target and sets its flag (R99). -/
theorem restoreFailure (hs : Quiet s) (r : Nat) : Quietly (· = r) s (s.restoreFailure r) ∧
    Returned (s.restoreFailure r) r ∧ (s.restoreFailure r).flag .restoreFault = true := by
  obtain ⟨hfree, hreturned⟩ := freeRecord hs r
  have hstop : Quietly (· = r) s ((s.freeRecord r).stopWaiting r) := hfree.trans (stopWaiting ..)
  obtain ⟨hfault, hflag⟩ := restoreFault (R := (· = r)) ((s.freeRecord r).stopWaiting r) (s.record r).pageNumber
  have htofault := hstop.trans hfault
  have hredecide : Quietly (· = r) _ (s.restoreFailure r) := redecideDemand (htofault.quiet hs) (s.record r).pageIndex
  exact ⟨htofault.trans hredecide,
    hredecide.returned (hfault.returned ((stopWaiting (R := fun _ => False) _ _).returned hreturned)),
    hredecide.flag _ hflag⟩

/-- A job of a record that has been freed sets its flag as it fails (log 26). -/
theorem reportOrphan (hs : Quiet s) (j : Job) : Quietly R s (s.reportOrphan j false) ∧
    (j.kind = .preservation → (s.reportOrphan j false).flag .preserveFail = true) ∧
    (j.kind = .restore → (s.reportOrphan j false).flag .restoreFault = true) := by
  unfold State.reportOrphan
  cases hkind : j.kind with
  | preservation =>
    dsimp only
    have hcheck : Quietly R s (s.checkPageOf (s.guardIndex j.source)) := checkPageOf hs _
    have hraise := hcheck.trans (raise _ .preserveFail)
    have hcapture : Quietly R _ (s.orphanFailure j) := captureCopy ((s.checkPageOf (s.guardIndex j.source)).raise .preserveFail)
      ((s.guardIndex j.source).bind fun p => (s.checkPageOf (s.guardIndex j.source)).heldBehind p j.record) (some j.source)
    have htocapture := hraise.trans hcapture
    have hredecide : Quietly R (s.orphanFailure j) ((s.orphanFailure j).redecideJob j) :=
      redecideBehind (htocapture.quiet hs) _ _
    refine ⟨htocapture.trans hredecide, fun _ => hredecide.flag _ (hcapture.flag _ ?_), nofun⟩
    rw [raise_flag, Bool.or_eq_true]
    exact .inr (by decide)
  | restore =>
    dsimp only
    obtain ⟨hfault, hflag⟩ := restoreFault (R := R) s (some j.dest)
    have hredecide : Quietly R (s.restoreFault (some j.dest))
      ((s.restoreFault (some j.dest)).redecideDemand (s.guardIndex j.dest)) := redecideDemand (hfault.quiet hs) _
    exact ⟨hfault.trans hredecide, nofun, fun _ => hredecide.flag _ hflag⟩

end Quietly

/-- Job `j` of state `s` has failed in state `t`. -/
structure Outcome (s t : State) (j : Job) : Prop where
  returned : j.orphaned = false → Returned t j.record
  preserveFail : j.kind = .preservation → t.flag .preserveFail = true
  restoreFault : j.kind = .restore → t.flag .restoreFault = true
  damaged : j.kind = .preservation → j.orphaned = false → s.wp.policy ≠ .refuse →
    ∀ q, s.slotOf (s.record j.record) = some q → (t.slot q).damaged = true

/-- Job `j` has been reported to have failed, from `s` to `t`. -/
structure Reported (s t : State) (j : Job) : Prop extends Outcome s t j where
  quietly : Quietly (· = j.record) s t

theorem reported_reportJob (hs : Quiet s) (j : Job) : Reported s (s.reportJob j false) j := by
  unfold State.reportJob
  split
  next horphaned =>
    obtain ⟨hquietly, hpreserve, hrestore⟩ := Quietly.reportOrphan (R := (· = j.record)) hs j
    exact ⟨⟨fun h => (nomatch horphaned.symm.trans h), hpreserve, hrestore,
      fun _ h => (nomatch horphaned.symm.trans h)⟩, hquietly⟩
  · have hcheck : Quietly (fun _ => False) s (s.checkRec j.record none) := Quietly.checkRec hs
    have hcheck' : Quietly (· = j.record) s (s.checkRec j.record none) := Quietly.checkRec hs
    dsimp only
    generalize s.checkRec j.record none = w at hcheck hcheck'
    have hw := hcheck.quiet hs
    cases hkind : j.kind with
    | preservation =>
      dsimp only
      obtain ⟨hfail, hreturned, hflag, hdamaged⟩ := Quietly.preservationFailure hw j.record
      refine ⟨⟨fun _ => hreturned, fun _ => hflag, fun h => (nomatch hkind.symm.trans h), ?_⟩, hcheck'.trans hfail⟩
      refine fun _ _ hpolicy q hq => hdamaged q ?_ (by rw [hcheck.policy]; exact hpolicy)
      rw [slotOf_of_states hcheck.slotState, ← hq]
      unfold State.slotOf
      rw [(hcheck.record j.record id).1]
    | restore =>
      dsimp only
      obtain ⟨hfail, hreturned, hflag⟩ := Quietly.restoreFailure hw j.record
      exact ⟨⟨fun _ => hreturned, fun h => (nomatch hkind.symm.trans h), fun _ => hflag,
        fun h => (nomatch hkind.symm.trans h)⟩, hcheck'.trans hfail⟩

end Sys2Proof.Machine.State
end

section
/-! The failures of the link down as stages: what one leaves of the jobs, and what becomes of a job through them (O51). -/

namespace Sys2Proof.Machine.State

variable {s t u w : State} {R : Nat → Prop} {c r x : Nat} {j : Job} {i : Option Job}

/-- No demand and no offer is left. -/
def Spent (s : State) : Prop := s.sweep.demand = [] ∧ s.sweep.offer = none

/-- From `s` to `t` the job `i`, if there is one, has failed; of the others those of freed records are orphaned. -/
structure Stage (i : Option Job) (R : Nat → Prop) (s t : State) : Prop extends Calm R s t where
  jobs : ∃ f, Orphans R t f ∧ (∀ x, isJob s x → i = some x ∨ isJob t (f x)) ∧ ∀ y, isJob t y → ∃ x, isJob s x ∧ y = f x
  outcome : ∀ j, i = some j → Outcome s t j
  spent : Spent s → Spent t

/-- A stage of the link down: the failure of one of the jobs, a change that frees no record, or a restore begun for a demand or
an offer. -/
inductive Passage (s t : State) : Prop where
  | job (j : Job) (hj : isJob s j) (h : Stage (some j) (· = j.record) s t)
  | quiet (h : Stage none (fun _ => False) s t)
  | restore (hs : ¬Spent s) (h : Stage none (fun _ => True) s t)

theorem Passage.stage (h : Passage s t) : ∃ i R, Stage i R s t := by
  cases h with
  | job j hj h => exact ⟨_, _, h⟩
  | quiet h => exact ⟨_, _, h⟩
  | restore hs h => exact ⟨_, _, h⟩

theorem Stage.quiet (h : Stage i R s t) (hs : Quiet s) : Quiet t := h.toCalm.quiet hs

/-! ## A job through the stages -/

/-- Job `j` has failed: its record, if it had not lost it, is free, and its flag is set. -/
structure Finished (s : State) (j : Job) : Prop where
  returned : j.orphaned = false → Returned s j.record
  preserveFail : j.kind = .preservation → s.flag .preserveFail = true
  restoreFault : j.kind = .restore → s.flag .restoreFault = true

/-- Job `j` still waits or runs, with its record or orphaned meanwhile, or has failed. -/
def Tracked (j : Job) (s : State) : Prop :=
  isJob s j ∨ (isJob s { j with orphaned := true } ∧ Returned s j.record) ∨ Finished s j

theorem Finished.calm (h : Calm R s t) (hj : Finished s j) : Finished t j where
  returned ho := h.returned (hj.returned ho)
  preserveFail hk := h.flag _ (hj.preserveFail hk)
  restoreFault hk := h.flag _ (hj.restoreFault hk)

theorem Stage.tracked (h : Stage i R s t) (hj : Tracked j s) : Tracked j t := by
  obtain ⟨f, hf, hforth, -⟩ := h.jobs
  obtain hjob | ⟨horphan, hreturned⟩ | hfinished := hj
  · obtain hi | hjob := hforth j hjob
    · have hout := h.outcome j hi
      exact .inr (.inr ⟨hout.returned, hout.preserveFail, hout.restoreFault⟩)
    · obtain hsame | ⟨-, horphan, hfreed, hfree⟩ := hf j
      · exact .inl (hsame ▸ hjob)
      · exact .inr (.inl ⟨horphan ▸ hjob, hfreed, hfree⟩)
  · have hkept := h.toCalm.returned hreturned
    obtain hi | hjob := hforth _ horphan
    · have hout := h.outcome _ hi
      exact .inr (.inr ⟨fun _ => hkept, hout.preserveFail, hout.restoreFault⟩)
    · refine .inr (.inl ⟨?_, hkept⟩)
      obtain hsame | ⟨-, hsame, -⟩ := hf { j with orphaned := true } <;> rw [hsame] at hjob <;> exact hjob
  · exact .inr (.inr (hfinished.calm h.toCalm))

/-- Slot `q` is damaged, or will be with job `j`: the job alone names its record, which stands at the slot. -/
structure Damages (s : State) (j : Job) (q : Nat) : Prop where
  job : isJob s j
  kind : j.kind = .preservation
  owned : j.orphaned = false
  policy : s.wp.policy ≠ .refuse
  slot : s.slotOf (s.record j.record) = some q
  spent : Spent s
  alone : ∀ x, isJob s x → x ≠ j → x.record ≠ j.record

theorem Damages.stage {q : Nat} (hj : Damages s j q) (h : Stage i R s t) (hi : i ≠ some j) (hr : ¬R j.record) :
    Damages t j q := by
  obtain ⟨f, hf, hforth, hback⟩ := h.jobs
  have hsame : f j = j := (hf j).resolve_right fun horphan => hr horphan.1
  refine ⟨?_, hj.kind, hj.owned, by rw [h.policy]; exact hj.policy, ?_, h.spent hj.spent, fun x hx hne => ?_⟩
  · have hjob := (hforth j hj.job).resolve_left hi
    rwa [hsame] at hjob
  · rw [slotOf_of_states h.slotState, ← hj.slot]
    unfold State.slotOf
    rw [(h.record _ hr).1]
  · obtain ⟨y, hy, rfl⟩ := hback x hx
    have hyj : y ≠ j := fun heq => hne (by rw [heq, hsame])
    have hrecord : (f y).record = y.record := by
      obtain hsame | ⟨-, hsame, -⟩ := hf y <;> rw [hsame]
    rw [hrecord]
    exact hj.alone y hy hyj

theorem Passage.damages {q : Nat} (h : Passage s t) (hj : Damages s j q ∨ (s.slot q).damaged = true) :
    Damages t j q ∨ (t.slot q).damaged = true := by
  obtain hj | hdamaged := hj
  · cases h with
    | job x hx h =>
      by_cases hxj : x = j
      · subst hxj
        exact .inr ((h.outcome _ rfl).damaged hj.kind hj.owned hj.policy q hj.slot)
      · exact .inl (hj.stage h (fun heq => hxj (Option.some.inj heq)) fun heq => hj.alone x hx hxj heq.symm)
    | quiet h => exact .inl (hj.stage h nofun id)
    | restore hs h => exact absurd hj.spent hs
  · obtain ⟨i, R, hstage⟩ := h.stage
    exact .inr (hstage.damaged q hdamaged)

/-! ## Paths of stages -/

/-- State `t` is reached from `s` by stages. -/
abbrev Path : State → State → Prop := Relation.ReflTransGen Passage

namespace Path

theorem quiet (h : Path s t) (hs : Quiet s) : Quiet t := by
  induction h with
  | refl => exact hs
  | tail _ hstep ih =>
    obtain ⟨i, R, hstage⟩ := hstep.stage
    exact hstage.quiet ih

theorem entries (h : Path s t) : t.entries = s.entries := by
  induction h with
  | refl => rfl
  | tail _ hstep ih =>
    obtain ⟨i, R, hstage⟩ := hstep.stage
    exact hstage.entries.trans ih

theorem tracked (h : Path s t) (hj : Tracked j s) : Tracked j t := by
  induction h with
  | refl => exact hj
  | tail _ hstep ih =>
    obtain ⟨i, R, hstage⟩ := hstep.stage
    exact hstage.tracked ih

theorem damages {q : Nat} (h : Path s t) (hj : Damages s j q) : Damages t j q ∨ (t.slot q).damaged = true := by
  induction h with
  | refl => exact .inl hj
  | tail _ hstep ih => exact hstep.damages ih

end Path

end Sys2Proof.Machine.State
end

section
/-! A channel whose job fails with the link: failed by it, or started after it (R127, R133, R139; O51). -/

namespace Sys2Proof.Machine.State

variable {s t u w : State} {R : Nat → Prop} {c r x : Nat} {j : Job} {i : Option Job}

/-- Channels without a job are IDLE, with four FREE tags. -/
def Rested (s : State) : Prop := ∀ c, c < 4 → (s.chan c).job = none →
  (s.chan c).state = .idle ∧ ∀ x, x ∈ chanTags c → (s.copyTag x).use = .free

/-- Channel `c` is IDLE without a job, its tags FREE; nothing else has changed. -/
structure Emptied (s w : State) (c : Nat) : Prop where
  idle : (w.chan c).state = .idle
  job : (w.chan c).job = none
  tags : ∀ x, x ∈ chanTags c → (w.copyTag x).use = .free
  chan : ∀ d, d ≠ c → w.chan d = s.chan d
  copyTag : ∀ x, x ∉ chanTags c → w.copyTag x = s.copyTag x
  rest : w = { s with channels := w.channels, copyTags := w.copyTags }

theorem GivenUp.emptied (h : GivenUp s w c) : Emptied s w c where
  idle := by rw [h.chan, if_pos rfl]
  job := by rw [h.chan, if_pos rfl]
  tags x hx := by rw [h.copyTag, if_pos hx]
  chan d hd := by rw [h.chan, if_neg hd]
  copyTag x hx := by rw [h.copyTag, if_neg hx]
  rest := h.rest

namespace Emptied

variable (h : Emptied s w c)
include h

theorem calm : Calm R s w := by
  obtain ⟨channels, copyTags, rfl⟩ : ∃ channels copyTags, w = { s with channels := channels, copyTags := copyTags } :=
    ⟨_, _, h.rest⟩
  exact ⟨rfl, rfl, rfl, fun _ => id, rfl, fun _ _ => ⟨rfl, rfl⟩, fun _ => id, fun _ => rfl, fun _ => id, fun _ => id⟩

theorem reported_calm (hr : Reported w t j) : Calm (· = j.record) s t := h.calm.trans hr.quietly.toCalm

theorem outcome (hr : Reported w t j) : Outcome s t j where
  returned := hr.returned
  preserveFail := hr.preserveFail
  restoreFault := hr.restoreFault
  damaged hkind howned hpolicy q hq := by
    refine hr.damaged hkind howned (by rw [h.calm (R := fun _ => False) |>.policy]; exact hpolicy) q ?_
    rw [← hq, h.rest]
    rfl

/-- The jobs of the other channels and those that wait stay, but that jobs of the record are orphaned. -/
theorem jobs (hr : Reported w t j) : ∃ f, Orphans (· = j.record) t f ∧ t.wp.queue = s.wp.queue.map f ∧
    t.wp.backlog = s.wp.backlog.map f ∧ (c < 4 → (t.chan c).job = none) ∧
    ∀ d, d < 4 → d ≠ c → (t.chan d).job = (s.chan d).job.map f := by
  obtain ⟨f, hf, hqueue, hbacklog, hchan⟩ := hr.quietly.jobs
  have hwp : w.wp = s.wp := by rw [h.rest]
  refine ⟨f, hf, by rw [hqueue, hwp], by rw [hbacklog, hwp], fun hc => ?_, fun d hd hne => ?_⟩
  · rw [hchan c hc, h.job]
    rfl
  · rw [hchan d hd, h.chan d hne]

theorem spent (hr : Reported w t j) : t.sweep.demand = s.sweep.demand ∧ t.sweep.offer = s.sweep.offer := by
  have hsweep : w.sweep = s.sweep := by rw [h.rest]
  exact ⟨by rw [hr.quietly.demand, hsweep], by rw [hr.quietly.offer, hsweep]⟩

theorem rested (hr : Reported w t j) (hs : Rested s) : Rested t := by
  intro d hd hnone
  rw [hr.quietly.chanState, show t.copyTag = w.copyTag from copyTag_congr hr.quietly.copyTags]
  by_cases hdc : d = c
  · subst hdc
    exact ⟨h.idle, h.tags⟩
  · obtain ⟨f, -, -, -, -, hjob⟩ := h.jobs hr
    have hsnone : (s.chan d).job = none := by
      rw [hjob d hd hdc, Option.map_eq_none_iff] at hnone
      exact hnone
    obtain ⟨hidle, htags⟩ := hs d hd hsnone
    rw [h.chan d hdc]
    refine ⟨hidle, fun x hx => ?_⟩
    by_cases hxc : x ∈ chanTags c
    · exact h.tags x hxc
    · rw [h.copyTag x hxc]
      exact htags x hx

end Emptied

/-! ## A channel's failure by link down (R139) -/

/-- Channel `c` has failed: its job is gone, and the others wait and run as before. -/
structure ChanGone (s t : State) (c : Nat) : Prop where
  rested : Rested s → Rested t
  job : (t.chan c).job = none
  others : ∀ d, d < 4 → (s.chan d).job = none → (t.chan d).job = none
  queue : t.wp.queue.length = s.wp.queue.length
  backlog : t.wp.backlog.length = s.wp.backlog.length
  demand : t.sweep.demand = s.sweep.demand
  offer : t.sweep.offer = s.sweep.offer

theorem failChan_stage (hs : Quiet s) (hc : c < 4) : ChanGone s (s.failChan c) c ∧ Path s (s.failChan c) := by
  cases hjob : (s.chan c).job with
  | none =>
    rw [failChan_none hjob]
    exact ⟨⟨id, hjob, fun _ _ => id, rfl, rfl, rfl, rfl⟩, .refl⟩
  | some j =>
    obtain ⟨w, hfail, hw⟩ := failChan_some hjob
    have h := hw.emptied
    have hr := reported_reportJob (h.calm (R := fun _ => False) |>.quiet hs) j
    rw [← hfail] at hr
    generalize s.failChan c = t at hr
    obtain ⟨f, hf, hqueue, hbacklog, hgone, hchan⟩ := h.jobs hr
    obtain ⟨hdemand, hoffer⟩ := h.spent hr
    refine ⟨⟨h.rested hr, hgone hc, fun d hd hnone => ?_, by rw [hqueue, List.length_map], by rw [hbacklog, List.length_map],
      hdemand, hoffer⟩, .single (.job j (.inl ⟨c, hc, hjob⟩) ⟨h.reported_calm hr, ⟨f, hf, fun x hx => ?_, fun y hy => ?_⟩,
      fun y hy => Option.some.inj hy ▸ h.outcome hr, fun hspent => ⟨hdemand.trans hspent.1, hoffer.trans hspent.2⟩⟩)⟩
    · by_cases hdc : d = c
      · rw [hdc]
        exact hgone hc
      · rw [hchan d hd hdc, hnone]
        rfl
    · obtain ⟨d, hd, hx⟩ | hx | hx := hx
      · by_cases hdc : d = c
        · subst hdc
          exact .inl (hjob.symm.trans hx)
        · exact .inr (.inl ⟨d, hd, by rw [hchan d hd hdc, hx]; rfl⟩)
      · exact .inr (.inr (.inl (by rw [hqueue]; exact List.mem_map_of_mem hx)))
      · exact .inr (.inr (.inr (by rw [hbacklog]; exact List.mem_map_of_mem hx)))
    · obtain ⟨d, hd, hy⟩ | hy | hy := hy
      · by_cases hdc : d = c
        · rw [hdc, hgone hc] at hy
          cases hy
        · rw [hchan d hd hdc] at hy
          obtain ⟨x, hx, rfl⟩ := Option.map_eq_some_iff.1 hy
          exact ⟨x, .inl ⟨d, hd, hx⟩, rfl⟩
      · rw [hqueue] at hy
        obtain ⟨x, hx, rfl⟩ := List.mem_map.1 hy
        exact ⟨x, .inr (.inl hx), rfl⟩
      · rw [hbacklog] at hy
        obtain ⟨x, hx, rfl⟩ := List.mem_map.1 hy
        exact ⟨x, .inr (.inr hx), rfl⟩

/-- The failures of a list of channels. -/
structure ChansGone (s t : State) (l : List Nat) : Prop where
  rested : Rested s → Rested t
  job : ∀ c, c ∈ l → (t.chan c).job = none
  others : ∀ d, d < 4 → (s.chan d).job = none → (t.chan d).job = none
  queue : t.wp.queue.length = s.wp.queue.length
  backlog : t.wp.backlog.length = s.wp.backlog.length
  demand : t.sweep.demand = s.sweep.demand
  offer : t.sweep.offer = s.sweep.offer

theorem failChans_stages {l : List Nat} (hl : ∀ c, c ∈ l → c < 4) (hs : Quiet s) :
    ChansGone s (l.foldl (fun s c => s.failChan c) s) l ∧ Path s (l.foldl (fun s c => s.failChan c) s) := by
  induction l generalizing s with
  | nil => exact ⟨⟨id, nofun, fun _ _ => id, rfl, rfl, rfl, rfl⟩, .refl⟩
  | cons c l ih =>
    rw [List.foldl_cons]
    have hc := hl c (List.mem_cons_self ..)
    obtain ⟨hone, hpath⟩ := failChan_stage hs hc
    obtain ⟨hrest, hpaths⟩ := ih (fun d hd => hl d (List.mem_cons_of_mem _ hd)) (hpath.quiet hs)
    refine ⟨⟨hrest.rested ∘ hone.rested, fun d hd => ?_, fun d hd => hrest.others d hd ∘ hone.others d hd,
      hrest.queue.trans hone.queue, hrest.backlog.trans hone.backlog, hrest.demand.trans hone.demand,
      hrest.offer.trans hone.offer⟩, hpath.trans hpaths⟩
    obtain rfl | hd := List.mem_cons.1 hd
    · exact hrest.others _ hc hone.job
    · exact hrest.job d hd

end Sys2Proof.Machine.State
end

section
/-! A job started with the memory-port link down fails at once (R127, R128, R133; O51). -/

namespace Sys2Proof.Machine.State

variable {s t u w : State} {c x : Nat} {j : Job} {l : List Nat}

/-- The reads of channel `c`, which runs job `j`, have begun to fail: it is STOPPING, its tags FREE. -/
structure Stopping (s u : State) (c : Nat) (j : Job) : Prop where
  state : (u.chan c).state = .stopping
  job : (u.chan c).job = some j
  tags : ∀ x, x ∈ chanTags c → (u.copyTag x).use = .free
  chan : ∀ d, d ≠ c → u.chan d = s.chan d
  copyTag : ∀ x, x ∉ chanTags c → u.copyTag x = s.copyTag x
  rest : u = { s with channels := u.channels, copyTags := u.copyTags }

theorem chunkRead_down (hdown : s.mem.up = false) (hjob : (s.chan c).job = some j)
    (hstate : (s.chan c).state = .running ∨ (s.chan c).state = .stopping)
    (htags : ∀ y, y ∈ chanTags c → (s.copyTag y).use = .free) (hx : x ∈ chanTags c) : Stopping s (s.chunkRead c x) c j := by
  generalize hv : (s.setChan c { s.chan c with nextChunk := (s.chan c).nextChunk + 1 }).useTag x .free = v
  have hread : s.chunkRead c x = v.chunkFailed c := by
    unfold State.chunkRead
    rw [hjob]
    dsimp only
    rw [← hv]
    exact if_neg (ne_true_of_eq_false hdown)
  have hchan : ∀ d, v.chan d = if d = c then { s.chan c with nextChunk := (s.chan c).nextChunk + 1 } else s.chan d := by
    rw [← hv]
    exact fun d => setChan_chan ..
  have hcopy : ∀ y, v.copyTag y = if y = x then { s.copyTag x with use := .free } else s.copyTag y := by
    rw [← hv]
    exact fun y => Table.get_set ..
  have hrest : v = { s with channels := v.channels, copyTags := v.copyTags } := by
    rw [← hv]
    rfl
  have hself := (hchan c).trans (if_pos rfl)
  have hfailed : ∃ channels, v.chunkFailed c = { v with channels := channels } ∧
      (∀ d, d ≠ c → channels.get .reset d = v.chan d) ∧ (channels.get .reset c).job = some j ∧
      (channels.get .reset c).state = .stopping := by
    unfold State.chunkFailed
    split
    · refine ⟨v.channels.set .reset c { v.chan c with state := .stopping }, rfl,
        fun d hd => Table.get_set_other _ _ _ hd, ?_, ?_⟩
      · rw [Table.get_set_same, hself]
        exact hjob
      · rw [Table.get_set_same]
    next hne =>
      refine ⟨v.channels, rfl, fun _ _ => rfl, (congrArg Channel.job hself).trans hjob,
        (congrArg Channel.state hself).trans (hstate.resolve_left fun h => hne ?_)⟩
      rw [hself]
      exact h
  obtain ⟨channels, hfail, hothers, hkept, hstopping⟩ := hfailed
  rw [hread, hfail]
  refine ⟨hstopping, hkept, fun y hy => ?_, fun d hd => ?_, fun y hy => ?_, ?_⟩
  · refine (congrArg CopyTag.use (hcopy y)).trans ?_
    split
    · rfl
    · exact htags y hy
  · refine (hothers d hd).trans ?_
    rw [hchan, if_neg hd]
  · exact (hcopy y).trans (if_neg fun h : y = x => hy (h ▸ hx))
  · conv_lhs => rw [hrest]

theorem foldl_chunkRead_down (h : Stopping s u c j) (hdown : s.mem.up = false) (hl : ∀ x, x ∈ l → x ∈ chanTags c) :
    Stopping s (l.foldl (fun s t => s.chunkRead c t) u) c j := by
  induction l generalizing u with
  | nil => exact h
  | cons x l ih =>
    rw [List.foldl_cons]
    have hudown : u.mem.up = false := by rw [h.rest]; exact hdown
    have hone := chunkRead_down hudown h.job (.inr h.state) h.tags (hl x (List.mem_cons_self ..))
    generalize u.chunkRead c x = v at hone
    refine ih ⟨hone.state, hone.job, hone.tags, fun d hd => (hone.chan d hd).trans (h.chan d hd),
      fun y hy => (hone.copyTag y hy).trans (h.copyTag y hy), ?_⟩ fun y hy => hl y (List.mem_cons_of_mem _ hy)
    conv_lhs => rw [hone.rest, h.rest]

theorem settleChan_stopping (h : Stopping s u c j) : ∃ w, u.settleChan c = w.reportJob j false ∧ Emptied s w c := by
  have hfree : u.hasFreeTag c = true := hasFreeTag_of (List.mem_cons_self ..) (h.tags _ (List.mem_cons_self ..))
  have hquiet : (chanTags c).any (fun t => (u.copyTag t).use.busy) ≠ true := by
    rw [ne_eq, Bool.not_eq_true, List.any_eq_false]
    intro x hx
    rw [h.tags x hx]
    exact nofun
  refine ⟨u.idleChan c, ?_, ?_⟩
  · unfold State.settleChan
    rw [h.job]
    dsimp only
    rw [if_neg hquiet, if_neg (by rw [h.state]; exact fun hboth => nomatch hboth.1), if_pos h.state]
  · rw [idleChan_free hfree]
    refine ⟨congrArg Channel.state (Table.get_set_same ..), congrArg Channel.job (Table.get_set_same ..), h.tags,
      fun d hd => (Table.get_set_other _ _ _ hd).trans (h.chan d hd), h.copyTag, ?_⟩
    generalize u.channels.set .reset c { u.chan c with job := none, state := .idle } = channels
    conv_lhs => rw [h.rest]

theorem startJob_down (hdown : s.mem.up = false) (htags : ∀ x, x ∈ chanTags c → (s.copyTag x).use = .free) (j : Job) :
    ∃ w, s.startJob c j = w.reportJob j false ∧ Emptied s w c := by
  have hall : (chanTags c).filter (fun t => (s.copyTag t).use == .free) = chanTags c :=
    List.filter_eq_self.2 fun x hx => by rw [htags x hx]; rfl
  obtain ⟨x, l, hl⟩ : ∃ x l, chanTags c = x :: l := ⟨_, _, rfl⟩
  generalize hv : s.setChan c ⟨.running, some j, 0, 0⟩ = v
  have hself : v.chan c = ⟨.running, some j, 0, 0⟩ := by
    rw [← hv]
    exact Table.get_set_same ..
  have hone : Stopping v (v.chunkRead c x) c j :=
    chunkRead_down (by rw [← hv]; exact hdown) (by rw [hself]) (.inl (by rw [hself])) (by rw [← hv]; exact htags)
      (by rw [hl]; exact List.mem_cons_self ..)
  have hreads := foldl_chunkRead_down (l := l) hone (by rw [← hv]; exact hdown)
    fun y hy => by rw [hl]; exact List.mem_cons_of_mem _ hy
  obtain ⟨w, hsettle, hw⟩ := settleChan_stopping hreads
  refine ⟨w, ?_, ⟨hw.idle, hw.job, hw.tags, fun d hd => ?_, fun y hy => ?_, ?_⟩⟩
  · unfold State.startJob
    dsimp only
    rw [hall, hv, hl, List.foldl_cons]
    exact hsettle
  · rw [hw.chan d hd, ← hv]
    exact Table.get_set_other _ _ _ hd
  · rw [hw.copyTag y hy, ← hv]
    rfl
  · conv_lhs => rw [hw.rest, ← hv]
    rfl

end Sys2Proof.Machine.State
end

section
/-! The arbiter with the memory-port link down: each round fails a job, or ends a demand or an offer (R92, R97, R130; O51). -/

namespace Sys2Proof.Machine.State

variable {s t u w : State} {c p r x : Nat} {j : Job} {l rest : List Nat}

/-! ## The sources of a page are met once -/

theorem chainFrom_seen {k : Nat} {seen : List Nat} {o : Option Nat} (h : x ∈ s.chainFrom p k seen o) : x ∉ seen := by
  induction k generalizing seen o with
  | zero => cases h
  | succ k ih =>
    unfold State.chainFrom at h
    split at h
    · cases h
    next y hlink =>
      obtain rfl | hx := List.mem_cons.1 h
      · unfold State.chainLink at hlink
        split at hlink
        · cases hlink
        · split at hlink
          next hy => exact Option.some.inj hlink ▸ hy.2.2
          · cases hlink
      · exact fun hseen => ih hx (List.mem_cons_of_mem _ hseen)

theorem chainFrom_nodup {k : Nat} {seen : List Nat} {o : Option Nat} : (s.chainFrom p k seen o).Nodup := by
  induction k generalizing seen o with
  | zero => exact List.nodup_nil
  | succ k ih =>
    unfold State.chainFrom
    split
    · exact List.nodup_nil
    · exact List.nodup_cons.2 ⟨fun h => chainFrom_seen h (List.mem_cons_self ..), ih⟩

theorem sources_nodup (s : State) (p : Nat) : (s.sources p).Nodup := by
  refine List.Nodup.filter _ ?_
  unfold State.sinceTarget
  split
  · exact List.nodup_nil
  · exact chainFrom_nodup.sublist (List.rdropWhile_prefix _ _).sublist

/-! ## A restore begun for a demand or an offer -/

/-- No channel has a job, and each has four FREE tags. -/
structure AllIdle (s : State) : Prop where
  rested : Rested s
  jobs : ∀ c, c < 4 → (s.chan c).job = none

/-- From `s` to `t` a restore has been begun and has failed, or none has. -/
structure Restores (s t : State) : Prop where
  calm : Calm (fun _ => True) s t
  idle : AllIdle s → AllIdle t
  jobs : ∃ f, Orphans (fun _ => True) t f ∧ t.wp.queue = s.wp.queue.map f ∧ t.wp.backlog = s.wp.backlog.map f
  demand : t.sweep.demand = s.sweep.demand
  offer : t.sweep.offer = s.sweep.offer ∨ t.sweep.offer = none

theorem Quietly.allIdle {R : Nat → Prop} (h : Quietly R s t) (hs : AllIdle s) : AllIdle t := by
  obtain ⟨f, -, -, -, hchan⟩ := h.jobs
  have hnone : ∀ d, d < 4 → (t.chan d).job = none := fun d hd => by
    rw [hchan d hd, hs.jobs d hd]
    rfl
  refine ⟨fun d hd _ => ?_, hnone⟩
  rw [h.chanState, copyTag_congr h.copyTags]
  exact hs.rested d hd (hs.jobs d hd)

/-- Target `r` begins to be restored. -/
def madeTarget (s : State) (r : Nat) : State := s.putRec r { s.record r with state := .restoring }

/-- An offer of `r` is withdrawn as its restore begins, the walk going on past it. -/
def withdrawOffered (s : State) (r : Nat) : State :=
  if s.sweep.offer = some r then (s.setSweep { s.sweep with offer := none }).passOver r else s

/-- The job that restores target `r`. -/
def targetJob (s : State) (r : Nat) : Job :=
  let u := (s.madeTarget r).withdrawOffered r
  ⟨.restore, r, u.framePage r, (u.record r).pageNumber.getD 0, false⟩

theorem startRestore_eq (s : State) (c r : Nat) :
    s.startRestore c r = ((s.madeTarget r).withdrawOffered r).startJob c (s.targetJob r) := rfl

theorem Quietly.restoring (hr : (s.record r).state ≠ .free) : Quietly (· = r) s (s.madeTarget r) := by
  have hget : ∀ y, (s.madeTarget r).record y =
      if y = r then { s.record r with state := .restoring, parityOk := true } else s.record y := fun y => Table.get_set ..
  refine .of_tables ⟨_, _, _, _, _, _, rfl⟩ rfl rfl (fun y hy => ?_) (fun y hy => ?_) (fun _ => rfl) (fun _ => id)
    (fun _ => id)
  · rw [hget, if_neg hy]
    exact ⟨rfl, rfl⟩
  · rw [hget, if_neg fun h : y = r => not_freed_of_state hr (h ▸ hy)]
    exact hy

namespace Restores

theorem of_quietly {R : Nat → Prop} (h : Quietly R s t) : Restores s t := by
  obtain ⟨f, hf, hqueue, hbacklog, -⟩ := (h.mono (R' := fun _ => True) fun _ _ => trivial).jobs
  exact ⟨h.toCalm.mono fun _ _ => trivial, h.allIdle, ⟨f, hf, hqueue, hbacklog⟩, h.demand, .inl h.offer⟩

theorem trans (h : Restores s t) (h' : Restores t u) : Restores s u := by
  obtain ⟨f, hf, hqueue, hbacklog⟩ := h.jobs
  obtain ⟨g, hg, hqueue', hbacklog'⟩ := h'.jobs
  refine ⟨h.calm.trans h'.calm, h'.idle ∘ h.idle, ⟨g ∘ f, Quietly.orphans_comp (fun j => ?_) hg, ?_, ?_⟩,
    h'.demand.trans h.demand, ?_⟩
  · exact (hf j).imp id fun ⟨hj, hsame, hreturned⟩ => ⟨hj, hsame, h'.calm.returned hreturned⟩
  · rw [hqueue', hqueue, List.map_map]
  · rw [hbacklog', hbacklog, List.map_map]
  · obtain hsame | hnone := h'.offer
    · rw [hsame]
      exact h.offer
    · exact .inr hnone

/-- An offer is withdrawn. -/
theorem withdraw (s : State) : Restores s (s.setSweep { s.sweep with offer := none }) :=
  ⟨⟨rfl, rfl, rfl, fun _ => id, rfl, fun _ _ => ⟨rfl, rfl⟩, fun _ => id, fun _ => rfl, fun _ => id, fun _ => id⟩,
    fun h => ⟨h.rested, h.jobs⟩, ⟨id, fun _ => .inl rfl, (List.map_id _).symm, (List.map_id _).symm⟩, rfl, .inr rfl⟩

theorem dropOffer (s : State) (r : Nat) : Restores s (s.dropOffer r) ∧
    (s.sweep.offer = some r → (s.dropOffer r).sweep.offer = none) := by
  unfold State.dropOffer
  split
  · exact ⟨withdraw s, fun _ => rfl⟩
  next h => exact ⟨of_quietly (.refl (R := fun _ => False) s), fun hsome => absurd hsome h⟩

theorem passOver (hs : Quiet s) (r : Nat) : Restores s (s.passOver r) ∧ (s.passOver r).sweep.offer = s.sweep.offer := by
  have hrecs : Quietly (fun _ => False) s (s.checkRecs (s.moveReads r) none) := Quietly.checkRecs hs
  have hwalk : ∀ u : State, Quietly (fun _ => False) u (u.walkPast r) := fun u => by
    have hkept : (u.walkPast r).sweep.demand = u.sweep.demand ∧ (u.walkPast r).sweep.offer = u.sweep.offer := by
      unfold State.walkPast
      split <;> exact ⟨rfl, rfl⟩
    rw [walkPast_eq]
    exact Quietly.sweep _ hkept.1 hkept.2
  have hboth := hrecs.trans (hwalk _)
  exact ⟨of_quietly hboth, hboth.offer⟩

/-- A job started in a channel, which fails at once. -/
theorem startJob (hs : Quiet s) (hidle : AllIdle s) (hc : c < 4) (j : Job) : Restores s (s.startJob c j) ∧
    (s.startJob c j).sweep.offer = s.sweep.offer := by
  obtain ⟨w, hstart, h⟩ := startJob_down hs.down (hidle.rested c hc (hidle.jobs c hc)).2 j
  have hr := reported_reportJob (h.calm (R := fun _ => False) |>.quiet hs) j
  rw [← hstart] at hr
  obtain ⟨f, hf, hqueue, hbacklog, hgone, hchan⟩ := h.jobs hr
  obtain ⟨hdemand, hoffer⟩ := h.spent hr
  refine ⟨⟨(h.reported_calm hr).mono fun _ _ => trivial, fun _ => ⟨h.rested hr hidle.rested, fun d hd => ?_⟩,
    ⟨f, fun x => (hf x).imp id fun ⟨_, hrest⟩ => ⟨trivial, hrest⟩, hqueue, hbacklog⟩, hdemand, .inl hoffer⟩, hoffer⟩
  by_cases hdc : d = c
  · rw [hdc]
    exact hgone hc
  · rw [hchan d hd hdc, hidle.jobs d hd]
    rfl

theorem withdrawOffered (hs : Quiet s) (r : Nat) : Restores s (s.withdrawOffered r) ∧
    (s.sweep.offer = some r → (s.withdrawOffered r).sweep.offer = none) := by
  unfold State.withdrawOffered
  split
  · have hwithdraw := withdraw s
    obtain ⟨hpass, hkept⟩ := passOver (hwithdraw.calm.quiet hs) r
    exact ⟨hwithdraw.trans hpass, fun _ => hkept⟩
  next hne => exact ⟨of_quietly (.refl (R := fun _ => False) s), fun hsome => absurd hsome hne⟩

/-- A target as a channel takes it. -/
theorem takeTarget (hs : Quiet s) (hidle : AllIdle s) (hc : c < 4) (hr : (s.record r).state ≠ .free) :
    Restores s (s.takeTarget c r) ∧ (s.sweep.offer = some r → (s.takeTarget c r).sweep.offer = none) := by
  unfold State.takeTarget
  split
  · obtain ⟨hdrop, hnone⟩ := dropOffer s r
    obtain ⟨hfail, -⟩ := Quietly.restoreFailure (hdrop.calm.quiet hs) r
    exact ⟨hdrop.trans (of_quietly hfail), fun hoffer => hfail.offer.trans (hnone hoffer)⟩
  · rw [startRestore_eq]
    have hput := Quietly.restoring (s := s) hr
    have hquiet := hput.quiet hs
    obtain ⟨hpassed, hnone⟩ := withdrawOffered hquiet r
    have hto := (of_quietly hput).trans hpassed
    obtain ⟨hstart, hkept⟩ := startJob (hto.calm.quiet hs) (hto.idle hidle) hc (targetJob s r)
    exact ⟨hto.trans hstart, fun hoffer => hkept.trans (hnone (hput.offer.trans hoffer))⟩

end Restores

end Sys2Proof.Machine.State
end

section
/-! The arbiter's rounds with the memory-port link down, until nothing is left (R97, R130; O51). -/

namespace Sys2Proof.Machine.State

variable {s t u w : State} {c p r x k : Nat} {j : Job} {l rest : List Nat}

/-- Jobs wait in the backlog only behind those of the queue. -/
def Backed (s : State) : Prop := s.wp.queue = [] → s.wp.backlog = []

/-- How much the arbiter has to give. -/
def toGive (s : State) : Nat :=
  s.wp.queue.length + s.wp.backlog.length + s.sweep.demand.length + if s.sweep.offer = none then 0 else 1

/-- A round of the arbiter has taken something. -/
structure Round (s t : State) : Prop where
  path : Path s t
  idle : AllIdle t
  backed : Backed t
  less : toGive t < toGive s

theorem isJob_of_allIdle (h : AllIdle s) : isJob s j ↔ j ∈ s.wp.queue ∨ j ∈ s.wp.backlog := by
  refine or_iff_right ?_
  rintro ⟨d, hd, hj⟩
  rw [h.jobs d hd] at hj
  cases hj

theorem map_eq_nil_length {α : Type} {l l' : List α} (h : l'.length = l.length) : l' = [] ↔ l = [] := by
  rw [← List.length_eq_zero_iff, h, List.length_eq_zero_iff]

/-! ## A demand or an offer -/

namespace Restores

theorem stage (h : Restores s t) (hs : AllIdle s) : Stage none (fun _ => True) s t := by
  obtain ⟨f, hf, hqueue, hbacklog⟩ := h.jobs
  refine ⟨h.calm, ⟨f, hf, fun x hx => .inr ?_, fun y hy => ?_⟩, nofun, fun hspent => ⟨h.demand.trans hspent.1, ?_⟩⟩
  · rw [isJob_of_allIdle (h.idle hs), hqueue, hbacklog]
    exact ((isJob_of_allIdle hs).1 hx).imp List.mem_map_of_mem List.mem_map_of_mem
  · rw [isJob_of_allIdle (h.idle hs), hqueue, hbacklog, List.mem_map, List.mem_map] at hy
    obtain ⟨x, hx, rfl⟩ | ⟨x, hx, rfl⟩ := hy
    · exact ⟨x, (isJob_of_allIdle hs).2 (.inl hx), rfl⟩
    · exact ⟨x, (isJob_of_allIdle hs).2 (.inr hx), rfl⟩
  · obtain hsame | hnone := h.offer
    · exact hsame.trans hspent.2
    · exact hnone

theorem backed (h : Restores s t) (hs : Backed s) : Backed t := by
  obtain ⟨f, -, hqueue, hbacklog⟩ := h.jobs
  unfold Backed at hs ⊢
  rw [hqueue, hbacklog, List.map_eq_nil_iff, List.map_eq_nil_iff]
  exact hs

theorem toGive (h : Restores s t) : toGive t ≤ toGive s := by
  obtain ⟨f, -, hqueue, hbacklog⟩ := h.jobs
  unfold State.toGive
  rw [hqueue, hbacklog, h.demand, List.length_map, List.length_map]
  obtain hsame | hnone := h.offer
  · rw [hsame]
  · rw [hnone, if_pos rfl]
    omega

/-- The newer sources of a page released. -/
theorem releaseSources (hs : Quiet s) (l : List Nat) :
    Quietly (· ∈ l) s (l.foldl (fun s x => s.releaseSource x) s) := by
  refine Quietly.foldl (fun u x hx hu => ?_) hs
  obtain ⟨hfree, -⟩ := Quietly.freeRecord hu x
  exact (hfree.mono fun y hy => by rw [hy]; exact hx).trans (Quietly.editReport ..)

theorem takeDemand (hs : Quiet s) (hidle : AllIdle s) (hc : c < 4) : Restores s (s.takeDemand c p) := by
  have hpage : Quietly (fun _ => False) s (s.checkPage p none) := Quietly.checkPage hs
  have hreads := hpage.trans (Quietly.checkRecs (l := (s.checkPage p none).sourceReads p) (tag := none) (hpage.quiet hs))
  unfold State.takeDemand
  dsimp only
  generalize (s.checkPage p none).checkRecs ((s.checkPage p none).sourceReads p) none = u at hreads
  cases hsources : (u.sources p).reverse with
  | nil => exact of_quietly hreads
  | cons r newer =>
    dsimp only
    split
    · exact of_quietly hreads
    next hvalid =>
      have hnodup : (r :: newer).Nodup := by
        rw [← hsources]
        exact List.nodup_reverse.2 (sources_nodup u p)
      have hr : (u.record r).state = .valid := by
        have hall : u.sourcesValid p = true := (Bool.not_eq_false _).mp hvalid
        refine beq_iff_eq.1 (List.all_eq_true.1 hall r ?_)
        rw [← List.mem_reverse, hsources]
        exact List.mem_cons_self ..
      have hrelease := releaseSources (hreads.quiet hs) newer.reverse
      have hedit := hrelease.trans (Quietly.editReport (fun t => { t with demands := t.demands + 1#16 }) _)
      have hto := (of_quietly hreads).trans (of_quietly hedit)
      refine hto.trans (takeTarget (hto.calm.quiet hs) (hto.idle hidle) hc ?_).1
      rw [(hedit.record r fun hmem => (List.nodup_cons.1 hnodup).1 (List.mem_reverse.1 hmem)).2, hr]
      exact nofun

theorem takeOffer (hs : Quiet s) (hidle : AllIdle s) (hc : c < 4) (hoffer : s.sweep.offer = some r) :
    Restores s (s.takeOffer c r) ∧ (s.takeOffer c r).sweep.offer = none := by
  have hcheck : Quietly (fun _ => False) s (s.checkRec r none) := Quietly.checkRec hs
  have hkept := of_quietly hcheck
  unfold State.takeOffer
  dsimp only
  split
  next hvalid =>
    obtain ⟨htake, hnone⟩ := takeTarget (hcheck.quiet hs) (hkept.idle hidle) hc (by rw [hvalid]; exact nofun)
    exact ⟨hkept.trans htake, hnone (hcheck.offer.trans hoffer)⟩
  · obtain ⟨hdrop, hnone⟩ := dropOffer (s.checkRec r none) r
    exact ⟨hkept.trans hdrop, hnone (hcheck.offer.trans hoffer)⟩

end Restores

section
variable (hs : Quiet s) (hidle : AllIdle s) (hbacked : Backed s) (hc : c < 4)
include hs hidle hbacked hc

theorem round_demand (hdemand : s.sweep.demand = p :: rest) :
    Round s ((s.setSweep { s.sweep with demand := rest }).takeDemand c p) := by
  generalize hu : s.setSweep { s.sweep with demand := rest } = u
  have hquiet : Quiet u := by rw [← hu]; exact ⟨hs.down, hs.wait, hs.held⟩
  have huidle : AllIdle u := by rw [← hu]; exact ⟨hidle.rested, hidle.jobs⟩
  have htake := Restores.takeDemand (p := p) hquiet huidle hc
  have hstage := htake.stage huidle
  refine ⟨.single (.restore (fun h => ?_) ?_), htake.idle huidle, htake.backed (by rw [← hu]; exact hbacked), ?_⟩
  · exact nomatch hdemand.symm.trans h.1
  · generalize u.takeDemand c p = t at hstage
    have hcalm : Calm (fun _ => True) s u := by
      rw [← hu]
      exact ⟨rfl, rfl, rfl, fun _ => id, rfl, fun _ _ => ⟨rfl, rfl⟩, fun _ => id, fun _ => rfl, fun _ => id, fun _ => id⟩
    have hjobs := hstage.jobs
    rw [← hu] at hjobs
    exact ⟨hcalm.trans hstage.toCalm, hjobs, nofun, fun h => (nomatch hdemand.symm.trans h.1)⟩
  · have hless : toGive u + 1 = toGive s := by
      rw [← hu]
      unfold State.toGive
      rw [hdemand, List.length_cons]
      show s.wp.queue.length + s.wp.backlog.length + rest.length + (if s.sweep.offer = none then 0 else 1) + 1 = _
      omega
    exact Nat.lt_of_le_of_lt htake.toGive (by omega)

theorem round_offer (hoffer : s.sweep.offer = some r) : Round s (s.takeOffer c r) := by
  obtain ⟨htake, hnone⟩ := Restores.takeOffer hs hidle hc hoffer
  refine ⟨.single (.restore (fun h => nomatch hoffer.symm.trans h.2) (htake.stage hidle)), htake.idle hidle,
    htake.backed hbacked, ?_⟩
  obtain ⟨f, -, hqueue, hbacklog⟩ := htake.jobs
  unfold State.toGive
  rw [hqueue, hbacklog, htake.demand, hnone, hoffer, List.length_map, List.length_map, if_pos rfl, if_neg nofun]
  omega

end

end Sys2Proof.Machine.State
end

section
/-! The arbiter with the memory-port link down, to its end (R63, R130; O51). -/

namespace Sys2Proof.Machine.State

variable {s t u w : State} {c k : Nat} {j : Job} {rest : List Nat}

theorem round_queue (hs : Quiet s) (hidle : AllIdle s) (hc : c < 4) {rest : List Job} (hqueue : s.wp.queue = j :: rest) :
    Round s (s.takePreservation c j rest) := by
  generalize hu : s.setWp { s.wp with queue := rest ++ s.wp.backlog.take 1, backlog := s.wp.backlog.drop 1 } = u
  have hcalm : ∀ R, Calm R s u := fun R => by
    rw [← hu]
    exact ⟨rfl, rfl, rfl, fun _ => id, rfl, fun _ _ => ⟨rfl, rfl⟩, fun _ => id, fun _ => rfl, fun _ => id, fun _ => id⟩
  have huqueue : u.wp.queue = rest ++ s.wp.backlog.take 1 := by rw [← hu]; rfl
  have hubacklog : u.wp.backlog = s.wp.backlog.drop 1 := by rw [← hu]; rfl
  have huidle : AllIdle u := by rw [← hu]; exact ⟨hidle.rested, hidle.jobs⟩
  have hsweep : u.sweep = s.sweep := by rw [← hu]; rfl
  have hquiet := (hcalm fun _ => False).quiet hs
  obtain ⟨w, hstart, h⟩ := startJob_down hquiet.down (huidle.rested c hc (huidle.jobs c hc)).2 j
  have hr := reported_reportJob (h.calm (R := fun _ => False) |>.quiet hquiet) j
  have htaken : s.takePreservation c j rest = w.reportJob j false := by
    unfold State.takePreservation
    rw [hu]
    exact hstart
  rw [htaken]
  generalize w.reportJob j false = t at hr
  obtain ⟨f, hf, htqueue, htbacklog, hgone, hchan⟩ := h.jobs hr
  obtain ⟨hdemand, hoffer⟩ := h.spent hr
  rw [hsweep] at hdemand hoffer
  have hjobs : ∀ d, d < 4 → (t.chan d).job = none := fun d hd => by
    by_cases hdc : d = c
    · rw [hdc]
      exact hgone hc
    · rw [hchan d hd hdc, huidle.jobs d hd]
      rfl
  have htidle : AllIdle t := ⟨h.rested hr huidle.rested, hjobs⟩
  have hwaits : ∀ x, x ∈ u.wp.queue ∨ x ∈ u.wp.backlog ↔ x ∈ rest ∨ x ∈ s.wp.backlog := fun x => by
    rw [huqueue, hubacklog, List.mem_append, or_assoc]
    conv_rhs => rw [← List.take_append_drop 1 s.wp.backlog, List.mem_append]
  have hout := h.outcome hr
  refine ⟨.single (.job j (.inr (.inl (by rw [hqueue]; exact List.mem_cons_self ..)))
    ⟨(hcalm _).trans (h.reported_calm hr), ⟨f, hf, fun x hx => ?_, fun y hy => ?_⟩, fun y hy => ?_,
      fun hspent => ⟨hdemand.trans hspent.1, hoffer.trans hspent.2⟩⟩), htidle, ?_, ?_⟩
  · rw [isJob_of_allIdle hidle, hqueue, List.mem_cons, or_assoc, ← hwaits] at hx
    refine hx.imp (fun h => congrArg some h.symm) fun hx => ?_
    rw [isJob_of_allIdle htidle, htqueue, htbacklog]
    exact hx.imp List.mem_map_of_mem List.mem_map_of_mem
  · rw [isJob_of_allIdle htidle, htqueue, htbacklog, List.mem_map, List.mem_map] at hy
    have hback : ∀ x, x ∈ u.wp.queue ∨ x ∈ u.wp.backlog → isJob s x := fun x hx => by
      rw [isJob_of_allIdle hidle, hqueue, List.mem_cons, or_assoc, ← hwaits]
      exact .inr hx
    obtain ⟨x, hx, rfl⟩ | ⟨x, hx, rfl⟩ := hy
    · exact ⟨x, hback x (.inl hx), rfl⟩
    · exact ⟨x, hback x (.inr hx), rfl⟩
  · obtain rfl := Option.some.inj hy
    subst hu
    exact ⟨hout.returned, hout.preserveFail, hout.restoreFault, hout.damaged⟩
  · unfold Backed
    rw [htqueue, htbacklog, List.map_eq_nil_iff, List.map_eq_nil_iff, huqueue, hubacklog]
    intro hnil
    have htake := (List.append_eq_nil_iff.1 hnil).2
    rw [List.take_eq_nil_iff] at htake
    rw [htake.resolve_left (by decide)]
    rfl
  · unfold toGive
    rw [htqueue, htbacklog, hdemand, hoffer, List.length_map, List.length_map, huqueue, hubacklog, hqueue,
      List.length_append, List.length_take, List.length_drop, List.length_cons]
    omega

theorem idleChannel_of_allIdle (h : AllIdle s) : ∃ c, s.idleChannel = some c ∧ c < 4 := by
  cases hidle : s.idleChannel with
  | none =>
    unfold State.idleChannel at hidle
    obtain ⟨hstate, htags⟩ := h.rested 0 (by decide) (h.jobs 0 (by decide))
    have hfree : s.hasFreeTag 0 = true := hasFreeTag_of (List.mem_cons_self ..) (htags _ (List.mem_cons_self ..))
    have hfound := List.find?_eq_none.1 hidle 0 (List.mem_cons_self ..)
    rw [hstate, hfree] at hfound
    exact absurd rfl hfound
  | some c => exact ⟨c, rfl, idleChannel_lt hidle⟩

/-- The arbiter's rounds take what there is to give. -/
theorem arbitrateFrom_rounds (hs : Quiet s) (hidle : AllIdle s) (hbacked : Backed s) (k : Nat) :
    Path s (arbitrateFrom k s) ∧ AllIdle (arbitrateFrom k s) ∧ Backed (arbitrateFrom k s) ∧
    (toGive s ≤ k → toGive (arbitrateFrom k s) = 0) := by
  induction k generalizing s with
  | zero => exact ⟨.refl, hidle, hbacked, Nat.le_zero.1⟩
  | succ k ih =>
    have hround : ∀ t, Round s t → Path s (arbitrateFrom k t) ∧ AllIdle (arbitrateFrom k t) ∧ Backed (arbitrateFrom k t) ∧
        (toGive s ≤ k + 1 → toGive (arbitrateFrom k t) = 0) := fun t h => by
      obtain ⟨hpath, htidle, htbacked, hend⟩ := ih (h.path.quiet hs) h.idle h.backed
      have hless := h.less
      exact ⟨h.path.trans hpath, htidle, htbacked, fun hle => hend (by omega)⟩
    obtain ⟨c, hchannel, hc⟩ := idleChannel_of_allIdle hidle
    unfold Machine.arbitrateFrom
    rw [hchannel]
    dsimp only
    cases hdemand : s.sweep.demand with
    | cons p rest => exact hround _ (round_demand hs hidle hbacked hc hdemand)
    | nil =>
      dsimp only
      cases hqueue : s.wp.queue with
      | cons j rest => exact hround _ (round_queue hs hidle hc hqueue)
      | nil =>
        dsimp only
        cases hoffer : s.sweep.offer with
        | some r => exact hround _ (round_offer hs hidle hbacked hc hoffer)
        | none =>
          refine ⟨.refl, hidle, hbacked, fun _ => ?_⟩
          unfold toGive
          rw [hdemand, hqueue, hoffer, hbacked hqueue]
          rfl

end Sys2Proof.Machine.State
end

section
/-! The memory-port link down as a path of stages, to a state with nothing left for the copy engine (R139, R150; O51). -/

namespace Sys2Proof.Machine.State

variable {s t u v : State} {R : Nat → Prop} {c k : Nat} {j : Job}

theorem Quietly.stage (h : Quietly R s t) : Stage none R s t := by
  obtain ⟨f, hf, hqueue, hbacklog, hchan⟩ := h.jobs
  refine ⟨h.toCalm, ⟨f, hf, fun x hx => .inr ?_, fun y hy => ?_⟩, nofun,
    fun hspent => ⟨h.demand.trans hspent.1, h.offer.trans hspent.2⟩⟩
  · obtain ⟨d, hd, hx⟩ | hx | hx := hx
    · exact .inl ⟨d, hd, by rw [hchan d hd, hx]; rfl⟩
    · exact .inr (.inl (by rw [hqueue]; exact List.mem_map_of_mem hx))
    · exact .inr (.inr (by rw [hbacklog]; exact List.mem_map_of_mem hx))
  · obtain ⟨d, hd, hy⟩ | hy | hy := hy
    · rw [hchan d hd] at hy
      obtain ⟨x, hx, rfl⟩ := Option.map_eq_some_iff.1 hy
      exact ⟨x, .inl ⟨d, hd, hx⟩, rfl⟩
    · rw [hqueue] at hy
      obtain ⟨x, hx, rfl⟩ := List.mem_map.1 hy
      exact ⟨x, .inr (.inl hx), rfl⟩
    · rw [hbacklog] at hy
      obtain ⟨x, hx, rfl⟩ := List.mem_map.1 hy
      exact ⟨x, .inr (.inr hx), rfl⟩

theorem Quietly.path (h : Quietly (fun _ => False) s t) : Path s t := .single (.quiet h.stage)

theorem Quietly.rested (h : Quietly R s t) (hs : Rested s) : Rested t := by
  obtain ⟨f, -, -, -, hchan⟩ := h.jobs
  intro c hc hnone
  rw [hchan c hc, Option.map_eq_none_iff] at hnone
  rw [h.chanState, copyTag_congr h.copyTags]
  exact hs c hc hnone

theorem Quietly.backed (h : Quietly R s t) (hs : Backed s) : Backed t := by
  obtain ⟨f, -, hqueue, hbacklog, -⟩ := h.jobs
  unfold Backed at hs ⊢
  rw [hqueue, hbacklog, List.map_eq_nil_iff, List.map_eq_nil_iff]
  exact hs

/-! ## The stages -/

theorem linkDownControl_quietly (hs : Quiet s) : Quietly R s s.linkDownControl := by
  cases hstate : s.ctl.state with
  | config =>
    rw [linkDownControl_config hstate]
    exact .refl s
  | degraded =>
    rw [linkDownControl_degraded hstate]
    exact .of_tables ⟨_, _, _, _, _, _, rfl⟩ rfl rfl (fun _ _ => ⟨rfl, rfl⟩) (fun _ => id) (fun _ => rfl) (fun _ => id)
      (fun _ => id)
  | recovering =>
    rw [linkDownControl_recovering hstate]
    exact .of_tables ⟨_, _, _, _, _, _, rfl⟩ rfl rfl (fun _ _ => ⟨rfl, rfl⟩) (fun _ => id) (fun _ => rfl) (fun _ => id)
      (fun _ => id)
  | guarding =>
    obtain ⟨slots, hcontrol, hslots⟩ := linkDownControl_guarding hstate
    have hslot : ∀ q, (slots.get .freed q).state = (s.slot q).state ∧
        ((s.slot q).damaged = true → (slots.get .freed q).damaged = true) := fun q => by
      rw [hslots]
      split
      · exact ⟨rfl, fun _ => rfl⟩
      · exact ⟨rfl, id⟩
    rw [hcontrol, flushWaiters_none (by exact hs.wait)]
    exact .of_tables ⟨_, _, _, _, _, _, rfl⟩ rfl rfl (fun _ _ => ⟨rfl, rfl⟩) (fun _ => id) (fun q => (hslot q).1)
      (fun q => (hslot q).2) (fun _ h => raise_keeps_flag (s := s) _ h)

theorem busyChannels_lt (h : c ∈ s.busyChannels) : c < 4 := mem_chanIds.1 (List.mem_of_mem_filter h)

theorem job_none_of_not_busy (hc : c < 4) (h : c ∉ s.busyChannels) : (s.chan c).job = none := by
  cases hjob : (s.chan c).job with
  | none => rfl
  | some j => exact absurd (List.mem_filter.2 ⟨mem_chanIds.2 hc, by rw [hjob]; rfl⟩) h

theorem ChansGone.backed {l : List Nat} (h : ChansGone s t l) (hs : Backed s) : Backed t := by
  unfold Backed at hs ⊢
  rw [map_eq_nil_length h.queue, map_eq_nil_length h.backlog]
  exact hs

/-- The failures of all the channels that have a job. -/
theorem ChansGone.allIdle (h : ChansGone s t s.busyChannels) (hs : Rested s) : AllIdle t := by
  refine ⟨h.rested hs, fun c hc => ?_⟩
  by_cases hbusy : c ∈ s.busyChannels
  · exact h.job c hbusy
  · exact h.others c hc (job_none_of_not_busy hc hbusy)

/-- The failures taken first. -/
theorem takeFailures_stages (hs : Quiet s) (hrested : Rested s) (hbacked : Backed s) (k : Nat) :
    Path s (s.takeFailures k) ∧ Rested (s.takeFailures k) ∧ Backed (s.takeFailures k) := by
  have hlt : ∀ c, c ∈ s.busyChannels.take k → c < 4 := fun c hc => busyChannels_lt (List.mem_of_mem_take hc)
  obtain ⟨hgone, hpath⟩ := failChans_stages hlt hs
  unfold State.takeFailures
  dsimp only
  by_cases hk : k ≤ s.busyChannels.length
  · rw [Nat.sub_eq_zero_of_le hk]
    exact ⟨hpath, hgone.rested hrested, hgone.backed hbacked⟩
  · rw [List.take_of_length_le (Nat.le_of_not_le hk)] at hgone hpath ⊢
    obtain ⟨hpaths, hidle, hend, -⟩ := arbitrateFrom_rounds (hpath.quiet hs) (hgone.allIdle hrested) (hgone.backed hbacked)
      (k - s.busyChannels.length)
    exact ⟨hpath.trans hpaths, hidle.rested, hend⟩

theorem toGive_le_rounds (s : State) : toGive s ≤ s.arbiterRounds := by
  unfold toGive State.arbiterRounds
  split <;> omega

/-- Nothing is left for the copy engine. -/
structure NothingLeft (t : State) : Prop where
  idle : AllIdle t
  queue : t.wp.queue = []
  backlog : t.wp.backlog = []
  demand : t.sweep.demand = []
  offer : t.sweep.offer = none

theorem nothingLeft_of_toGive (hidle : AllIdle s) (h : toGive s = 0) : NothingLeft s := by
  unfold toGive at h
  refine ⟨hidle, List.length_eq_zero_iff.1 (by omega), List.length_eq_zero_iff.1 (by omega),
    List.length_eq_zero_iff.1 (by omega), ?_⟩
  by_contra hne
  rw [if_neg hne] at h
  omega

/-- The end of the step behind the arbiter: the port and the flags. -/
theorem checkIntake_calm (s : State) : Calm R s s.checkIntake.sendCredits ∧
    ∃ port mgmt, s.checkIntake.sendCredits = { s with port := port, mgmt := mgmt } := by
  have hcredits : ∀ u : State, ∃ port, u.sendCredits = { u with port := port } := fun u => by
    rw [sendCredits_eq]
    exact ⟨_, rfl⟩
  have hintake : ∃ port mgmt, s.checkIntake = { s with port := port, mgmt := mgmt } ∧
      ∀ f, s.flag f = true → ({ s with mgmt := mgmt } : State).flag f = true := by
    unfold State.checkIntake
    split
    · exact ⟨_, _, rfl, fun _ h => raise_keeps_flag (s := s) _ h⟩
    · exact ⟨s.port, s.mgmt, rfl, fun _ => id⟩
  obtain ⟨port, mgmt, hintake, hflag⟩ := hintake
  obtain ⟨port', hcredits⟩ := hcredits s.checkIntake
  rw [hcredits, hintake]
  exact ⟨⟨rfl, rfl, rfl, fun _ => id, rfl, fun _ _ => ⟨rfl, rfl⟩, fun _ => id, fun _ => rfl, fun _ => id, hflag⟩,
    port', mgmt, rfl⟩

/-- The step behind state control's part. -/
theorem failAll_finish (hs : Quiet s) (hrested : Rested s) (hbacked : Backed s) :
    ∃ e, Path s e ∧ NothingLeft e ∧
      (s.busyChannels.foldl (fun s c => s.failChan c) s).finish = e.checkIntake.sendCredits := by
  obtain ⟨hgone, hpath⟩ := failChans_stages (fun c => busyChannels_lt) hs
  obtain ⟨hpaths, hidle, -, hend⟩ := arbitrateFrom_rounds (hpath.quiet hs) (hgone.allIdle hrested) (hgone.backed hbacked)
    (State.arbiterRounds (s.busyChannels.foldl (fun s c => s.failChan c) s))
  exact ⟨_, hpath.trans hpaths, nothingLeft_of_toGive hidle (hend (toGive_le_rounds _)), rfl⟩

end Sys2Proof.Machine.State
end

section
/-! Every copy job as the memory-port link goes down (O51). -/

namespace Sys2Proof.Machine.State

variable {s t u v b : State} {c k q : Nat} {j : Job}

/-- State `b` is `s` as the link down has told the owners of the tags, and with no failure first state control too. -/
structure Begun (s b : State) : Prop where
  lost : Lost s b
  entry : ∀ n, b.entry n = if freedByLink s n = true ∨ n ∈ linkDownWaiters s then .freed else s.entry n
  channels : b.channels = s.portLost.channels
  copyTags : b.copyTags = s.portLost.copyTags

theorem LostAlone.begun (h : LostAlone s v) (hwaiters : WaitersEnd s k) : Begun s v :=
  ⟨h.lost hwaiters, h.entry, h.channels, h.copyTags⟩

theorem portLost_begun (hwait : s.pool.wait = []) : Begun s s.portLost := by
  refine ⟨portLost_lost hwait, fun n => ?_, rfl, rfl⟩
  rw [s.portLost_spec.1, linkDownWaiters_none hwait]
  exact if_congr (or_iff_left List.not_mem_nil).symm rfl rfl

/-- A channel without a job is IDLE or BLOCKED, none of its tags in use. -/
def ChannelsRest (s : State) : Prop := ∀ c, c < 4 → (s.chan c).job = none →
  ((s.chan c).state = .idle ∨ (s.chan c).state = .blocked) ∧ ∀ x, x ∈ chanTags c → (s.copyTag x).use.busy = false

namespace Begun

variable (h : Begun s b)
include h

theorem quiet (hheld : ∀ n, (s.entry n).state ≠ .held) : Quiet b := by
  refine ⟨h.lost.down, h.lost.wait, fun n => ?_⟩
  rw [h.entry]
  split
  · exact nofun
  · exact hheld n

theorem rested (hrest : ChannelsRest s) : Rested b := by
  obtain ⟨-, hchan, hcopy, -⟩ := s.portLost_spec
  intro c hc hnone
  rw [h.lost.job] at hnone
  obtain ⟨hstate, htags⟩ := hrest c hc hnone
  rw [chan_congr h.channels, copyTag_congr h.copyTags]
  refine ⟨?_, fun x hx => ?_⟩
  · rw [hchan]
    split
    · rfl
    next hne => exact hstate.resolve_right fun hblocked => hne ⟨hc, hblocked⟩
  · have hrange := mem_chanTags.1 hx
    have hquiet := htags x hx
    rw [hcopy]
    split
    · rfl
    next hne =>
      cases huse : (s.copyTag x).use with
      | free => rfl
      | quarantined => exact absurd ⟨⟨by omega, by omega⟩, huse⟩ hne
      | read i => rw [huse] at hquiet; cases hquiet
      | write i => rw [huse] at hquiet; cases hquiet

theorem backed (hs : Backed s) : Backed b := by
  unfold Backed
  rw [h.lost.wp]
  exact hs

theorem isJob_iff : isJob b j ↔ isJob s j := by
  unfold isJob
  simp only [h.lost.job, h.lost.wp]

end Begun

/-- The step, from the state as it has begun to the end of the arbiter. -/
theorem linkLost_path (hwaiters : WaitersEnd s k) (hheld : ∀ n, (s.entry n).state ≠ .held) (hbacked : Backed s)
    (hrest : ChannelsRest s) : ∃ b e, Begun s b ∧ Path b e ∧ NothingLeft e ∧ s.linkLost k = e.checkIntake.sendCredits := by
  obtain rfl | hk := Nat.eq_zero_or_pos k
  · have halone := LostAlone.of_clear (s := s) fun _ => hwaiters.clear
    have hbegun := halone.begun hwaiters
    obtain ⟨e, hpath, hnothing, hfinish⟩ := failAll_finish (hbegun.quiet hheld) (hbegun.rested hrest) (hbegun.backed hbacked)
    refine ⟨_, e, hbegun, hpath, hnothing, ?_⟩
    rw [← hfinish]
    unfold linkLost
    rw [controlLost_eq, takeFailures_zero]
  · have hbegun := portLost_begun (hwaiters.wait hk)
    have hquiet := hbegun.quiet hheld
    obtain ⟨hfirst, hfrested, hfbacked⟩ := takeFailures_stages hquiet (hbegun.rested hrest) (hbegun.backed hbacked) k
    have hfquiet := hfirst.quiet hquiet
    have hcontrol : Quietly (fun _ => False) _ (s.portLost.takeFailures k).linkDownControl := linkDownControl_quietly hfquiet
    obtain ⟨e, hpath, hnothing, hfinish⟩ := failAll_finish (hcontrol.quiet hfquiet) (hcontrol.rested hfrested)
      (hcontrol.backed hfbacked)
    exact ⟨_, e, hbegun, (hfirst.trans hcontrol.path).trans hpath, hnothing, hfinish⟩

theorem NothingLeft.no_job (h : NothingLeft s) : ¬isJob s j := by
  rw [isJob_of_allIdle h.idle, h.queue, h.backlog]
  exact fun hmem => hmem.elim List.not_mem_nil List.not_mem_nil

/-- What holds of every job at the end. -/
theorem Begun.finished (h : Begun s b) (hpath : Path b t) (ht : NothingLeft t) (hj : isJob s j) : Finished t j :=
  ((hpath.tracked (.inl (h.isJob_iff.2 hj))).resolve_left ht.no_job).resolve_left fun horphan => ht.no_job horphan.1

/-- The mark of a failed preservation's record. -/
theorem Begun.damaged (h : Begun s b) (hpath : Path b t) (ht : NothingLeft t) (hj : isJob s j)
    (hkind : j.kind = .preservation) (howned : j.orphaned = false) (hslot : s.slotOf (s.record j.record) = some q)
    (hpolicy : s.wp.policy ≠ .refuse) (hspent : Spent s) (halone : ∀ i, isJob s i → i ≠ j → i.record ≠ j.record) :
    (t.slot q).damaged = true := by
  have hsweep := h.lost.kin.sweep
  refine (hpath.damages ⟨h.isJob_iff.2 hj, hkind, howned, by rw [h.lost.wp]; exact hpolicy, ?_, ?_, fun x hx =>
    halone x (h.isJob_iff.1 hx)⟩).resolve_left fun hdamages => ht.no_job hdamages.job
  · rw [h.lost.kin.slotOf, h.lost.kin.record]
    exact hslot
  · unfold Spent
    rw [hsweep]
    exact hspent

/-- Every copy job fails with the memory-port link, where no write is HELD. -/
theorem linkLost_jobs (hwaiters : WaitersEnd s k) (hheld : ∀ n, (s.entry n).state ≠ .held) (hbacked : Backed s)
    (hrest : ChannelsRest s) :
    let t := s.linkLost k
    t.wp.queue = [] ∧ t.wp.backlog = [] ∧ t.sweep.demand = [] ∧ t.sweep.offer = none ∧
    (∀ n, t.entry n = if freedByLink s n = true ∨ n ∈ linkDownWaiters s then .freed else s.entry n) ∧
    (∀ c, c < 4 → (t.chan c).state = .idle ∧ (t.chan c).job = none) ∧
    (∀ x, 128 ≤ x → x < 144 → (t.copyTag x).use = .free) ∧
    ∀ j, isJob s j →
      (j.orphaned = false → t.record j.record = .freed ∧ j.record ∈ t.pool.free) ∧
      (j.kind = .preservation → t.flag .preserveFail = true ∧
        ∀ q, j.orphaned = false → s.slotOf (s.record j.record) = some q → s.wp.policy ≠ .refuse →
          s.sweep.demand = [] → s.sweep.offer = none → (∀ i, isJob s i → i ≠ j → i.record ≠ j.record) →
          (t.slot q).damaged = true) ∧
      (j.kind = .restore → t.flag .restoreFault = true) := by
  obtain ⟨b, e, hbegun, hpath, hnothing, hend⟩ := linkLost_path hwaiters hheld hbacked hrest
  obtain ⟨hcalm, port, mgmt, hframe⟩ := checkIntake_calm (R := fun _ => False) e
  rw [hend]
  generalize e.checkIntake.sendCredits = t at hcalm hframe
  have hchan : t.chan = e.chan := chan_congr (by rw [hframe])
  have hidle : ∀ c, c < 4 → (e.chan c).state = .idle ∧ ∀ x, x ∈ chanTags c → (e.copyTag x).use = .free := fun c hc =>
    hnothing.idle.rested c hc (hnothing.idle.jobs c hc)
  refine ⟨by rw [hframe]; exact hnothing.queue, by rw [hframe]; exact hnothing.backlog,
    by rw [hframe]; exact hnothing.demand, by rw [hframe]; exact hnothing.offer, fun n => ?_, fun c hc => ?_,
    fun x hlow hhigh => ?_, fun j hj => ?_⟩
  · rw [← hbegun.entry, entry_congr (hcalm.entries.trans hpath.entries)]
  · rw [hchan]
    exact ⟨(hidle c hc).1, hnothing.idle.jobs c hc⟩
  · rw [copyTag_congr (show t.copyTags = e.copyTags by rw [hframe])]
    exact (hidle ((x - 128) / 4) (by omega)).2 x (mem_chanTags.2 (by omega))
  · have hfinished := (hbegun.finished hpath hnothing hj).calm hcalm
    refine ⟨hfinished.returned, fun hkind => ⟨hfinished.preserveFail hkind, ?_⟩, hfinished.restoreFault⟩
    intro q howned hslot hpolicy hdemand hoffer halone
    exact hcalm.damaged q (hbegun.damaged hpath hnothing hj hkind howned hslot hpolicy ⟨hdemand, hoffer⟩ halone)

end Sys2Proof.Machine.State
end

section
/-! The memory-port link down (O51). -/

namespace Sys2Proof.Proofs

open Sys2Proof.Machine Sys2Proof.Machine.State

/-- Settles O51: the entries and the waiting writes end as the step issues and completes them in order; every job fails, by the
stages of the link down; and one job alone is followed through its failure before or behind the entry to DEGRADED. -/
theorem memoryPortLinkDownEndsEveryRequest : Obligations.MemoryPortLinkDownEndsEveryRequest := by
  intro s k hup
  obtain ⟨hmem, htags⟩ := linkLost_memory s k
  refine ⟨s.linkLost k, exec_memoryPortLinkDown hup k, fun x => ?_, linkLost_flag s k, hmem, linkLost_config,
    fun h => linkLost_entered h k, linkLost_degraded, linkLost_recovering,
    fun h hk q hq hlive => linkLost_damaged h hq hlive hk, fun hidle hstands => ?_, fun hwaiters hheld hbacked hrest => ?_,
    fun c j x q g hsettled hc hjob hothers horphaned hnumber hthreaded hqueue hbacklog hdemand hoffer hwaiters => ?_⟩
  · unfold State.tag
    rw [htags]
    rfl
  · exact linkLost_idle hidle (fun h => .inr (hstands h)) k
  · exact linkLost_jobs hwaiters hheld hbacked hrest
  · have hone : OneJob s k ⟨c, j, x, q, g⟩ := ⟨hsettled, hc,
      ⟨hjob, horphaned, hnumber, hthreaded, hothers, hqueue, hbacklog⟩, ⟨hqueue, hdemand, hoffer⟩, hwaiters⟩
    refine ⟨hone.quiet, fun n hheld _ hnext _ hwrite halone => ?_⟩
    have hwaits : Waits s ⟨c, j, x, q, g⟩ n := ⟨hheld, hnext, hwrite, halone⟩
    exact ⟨fun hguarding hk hkind heffective hpolicy =>
      hone.refused hwaits hk ⟨by rw [hguarding]; exact nofun, hkind, heffective, hpolicy⟩, hone.passes hwaits⟩

end Sys2Proof.Proofs
end
